-- ==== Sys2Proof/Word.lean ====
section
/-! DEFINITION. Bytes, the small fixed-size tables of the part, and the names of its stations, zones, pulse outputs and inputs. -/

namespace Sys2Proof

/-- One byte of a frame's payload or of a local command's data. -/
abbrev Byte := BitVec 8

/-- A count that stops at `top` and does not wrap (00_scope.md, Ranges). -/
def satAdd (top t w : Nat) : Nat := min top (t + w)

/-- Two like things. -/
structure Duo (α : Type) where
  a : α
  b : α
deriving DecidableEq, Repr

/-- Three like things. -/
structure Trio (α : Type) where
  a : α
  b : α
  c : α
deriving DecidableEq, Repr

/-- Four like things. -/
structure Quad (α : Type) where
  a : α
  b : α
  c : α
  d : α
deriving DecidableEq, Repr

def Duo.get {α : Type} (t : Duo α) : Fin 2 → α
  | 0 => t.a
  | 1 => t.b

def Duo.set {α : Type} (t : Duo α) (i : Fin 2) (x : α) : Duo α :=
  match i with
  | 0 => { t with a := x }
  | 1 => { t with b := x }

def Duo.map {α β : Type} (f : α → β) (t : Duo α) : Duo β := ⟨f t.a, f t.b⟩

def Trio.get {α : Type} (t : Trio α) : Fin 3 → α
  | 0 => t.a
  | 1 => t.b
  | 2 => t.c

def Trio.set {α : Type} (t : Trio α) (i : Fin 3) (x : α) : Trio α :=
  match i with
  | 0 => { t with a := x }
  | 1 => { t with b := x }
  | 2 => { t with c := x }

def Trio.map {α β : Type} (f : α → β) (t : Trio α) : Trio β := ⟨f t.a, f t.b, f t.c⟩

def Quad.get {α : Type} (t : Quad α) : Fin 4 → α
  | 0 => t.a
  | 1 => t.b
  | 2 => t.c
  | 3 => t.d

def Quad.set {α : Type} (t : Quad α) (i : Fin 4) (x : α) : Quad α :=
  match i with
  | 0 => { t with a := x }
  | 1 => { t with b := x }
  | 2 => { t with c := x }
  | 3 => { t with d := x }

def Quad.map {α β : Type} (f : α → β) (t : Quad α) : Quad β := ⟨f t.a, f t.b, f t.c, f t.d⟩

/-- Stations S1 to S4, numbered in path order (00_scope.md, Numbering). -/
inductive StationId where
  | s1 | s2 | s3 | s4
deriving DecidableEq, Repr

/-- Drive zones Z1 to Z3. -/
inductive ZoneId where
  | z1 | z2 | z3
deriving DecidableEq, Repr

/-- Pulse outputs P1 and P2. -/
inductive PulseId where
  | p1 | p2
deriving DecidableEq, Repr

/-- Published inputs IN1 to IN4. -/
inductive InputId where
  | in1 | in2 | in3 | in4
deriving DecidableEq, Repr

def StationId.ix : StationId → Fin 4
  | .s1 => 0
  | .s2 => 1
  | .s3 => 2
  | .s4 => 3

/-- A station's number, 1 to 4, as landmarks and places name it. -/
def StationId.num : StationId → Nat
  | .s1 => 1
  | .s2 => 2
  | .s3 => 3
  | .s4 => 4

def StationId.ofNum : Nat → Option StationId
  | 1 => some .s1
  | 2 => some .s2
  | 3 => some .s3
  | 4 => some .s4
  | _ => none

def StationId.all : List StationId := [.s1, .s2, .s3, .s4]

def ZoneId.ix : ZoneId → Fin 3
  | .z1 => 0
  | .z2 => 1
  | .z3 => 2

def ZoneId.num : ZoneId → Nat
  | .z1 => 1
  | .z2 => 2
  | .z3 => 3

def ZoneId.ofNum : Nat → Option ZoneId
  | 1 => some .z1
  | 2 => some .z2
  | 3 => some .z3
  | _ => none

def ZoneId.all : List ZoneId := [.z1, .z2, .z3]

def PulseId.ix : PulseId → Fin 2
  | .p1 => 0
  | .p2 => 1

def PulseId.num : PulseId → Nat
  | .p1 => 1
  | .p2 => 2

def PulseId.all : List PulseId := [.p1, .p2]

def InputId.ix : InputId → Fin 4
  | .in1 => 0
  | .in2 => 1
  | .in3 => 2
  | .in4 => 3

def InputId.all : List InputId := [.in1, .in2, .in3, .in4]

end Sys2Proof
end

