-- ==== Sys2Proof/Config.lean ====
section
/-! DEFINITION. The part's fixed sizes and times, and the configuration items of 12_configuration_local_port_and_notices.md (R185) with their values after power-on reset. -/

namespace Sys2Proof

/-! ### Sizes and times the rules fix -/

/-- Segment table places (R4). -/
def tableCap : Nat := 8
/-- Arrival queue places (R7). -/
def arrivalCap : Nat := 4
/-- Sites in the jam site list (R47). -/
def siteCap : Nat := 4
/-- Gate claims (R89). -/
def claimCap : Nat := 2
/-- Page queue places (R132). -/
def pageCap : Nat := 16
/-- Resume queue places (R132). -/
def resumeCap : Nat := 32
/-- Issued list places (R132). -/
def issuedCap : Nat := 32
/-- Blank candidates (R152). -/
def candidateCap : Nat := 24
/-- Compile list places (R166). -/
def compileCap : Nat := 16
/-- Announcement list places (R169). -/
def announceCap : Nat := 12
/-- Transmit queue places open to classes 0 and 1 (R180). -/
def txCap : Nat := 16
/-- Transmit queue places open to classes 2 to 6 (R180). -/
def txOpenCap : Nat := 14
/-- Receive queue places (R182). -/
def rxCap : Nat := 32
/-- Top of every distance tracker and cover count (R26). -/
def trackerTop : Nat := 65535
/-- Top of the 8-bit saturating counters (R60, R166, R184). -/
def counterTop : Nat := 255
/-- The still time of R29, in ms. -/
def stillMs : Nat := 16
/-- The hold time of a published input (R100), in ms. -/
def inputHoldMs : Nat := 4
/-- The hold time of the supply monitor (R112), in ms. -/
def supplyHoldMs : Nat := 8
/-- The drive-ready time (R80), in ms. -/
def readyMs : Nat := 100
/-- The finish operation's time (R172), in ms. -/
def operationMs : Nat := 3000
/-- Transmit errors in a row that raise LINE (R179). -/
def errorLimit : Nat := 16

/-! ### Choices -/

/-- The eight node kinds (00_scope.md). -/
inductive NodeKind where
  | feed | plain | image | fix | turn | stack | finish | purge
deriving DecidableEq, Repr

/-- STACK, FINISH and PURGE are the sinks (00_scope.md, Terms). -/
def NodeKind.isSink : NodeKind → Bool
  | .stack | .finish | .purge => true
  | .feed | .plain | .image | .fix | .turn => false

/-- Sensor polarity (R27). -/
inductive SensorPolarity where
  | highCovered | lowCovered
deriving DecidableEq, Repr

/-- ATTN polarity (R192). -/
inductive AttnPolarity where
  | highActive | lowActive
deriving DecidableEq, Repr

/-- Encoder edge mode (R24). -/
inductive EdgeMode where
  | lowToHigh | both
deriving DecidableEq, Repr

/-- Diverter position (R89). -/
inductive GatePos where
  | a | b
deriving DecidableEq, Repr

/-- A sheet's route out of the node (R2). -/
inductive Leg where
  | purge | duplex | sink (d : Nat)
deriving DecidableEq, Repr

/-- What the leg map gives for a leg (R3): a next segment and a gate position. -/
structure Route where
  next : Nat
  gate : GatePos
deriving DecidableEq, Repr

/-- One entry of the leg map (R3). -/
structure LegRow where
  leg : Leg
  route : Route
deriving DecidableEq, Repr

/-- Pulse trigger source (R94). -/
inductive TriggerSource where
  | unused | station (k : StationId) | issue
deriving DecidableEq, Repr

/-- Pulse trigger edge (R94). -/
inductive TriggerEdge where
  | leading | trailing
deriving DecidableEq, Repr

/-- Pulse qualifier (R94). -/
inductive Qualifier where
  | any | release | pick
deriving DecidableEq, Repr

/-- Forwarded output of a slot (R102). -/
inductive Forward where
  | noOutput | out1 | out2
deriving DecidableEq, Repr

/-! ### Items -/

/-- Items of one station (R27, R36). -/
structure StationCfg where
  present : Bool
  polarity : SensorPolarity
  zone : ZoneId
  filter : Nat
  spacing : Nat
  lengthCheck : Bool
  gain : Nat
  offset : Int
deriving DecidableEq, Repr

/-- One upstream segment (0: none) with its link distance (R7, R8). -/
structure Upstream where
  segment : Nat
  link : Nat
deriving DecidableEq, Repr

/-- The windows of one media class (02, section 2.7). -/
structure Window where
  late : Nat
  stall : Nat
  tolerance : Nat
deriving DecidableEq, Repr

/-- Items of one zone (R24, R84, R88). -/
structure ZoneCfg where
  pitch : Nat
  mode : EdgeMode
  riseStart : Nat
  riseEnd : Nat
  fallStart : Nat
  fallEnd : Nat
  stepMs : Nat
  silenceExp : Nat
deriving DecidableEq, Repr

/-- Items of one pulse output (R94). -/
structure PulseCfg where
  source : TriggerSource
  edge : TriggerEdge
  qualifier : Qualifier
  a1 : Nat
  b1 : Nat
  a2 : Nat
  b2 : Nat
deriving DecidableEq, Repr

/-- Items of one slot (R102). The tray mask names media classes. -/
structure SlotCfg where
  tag : Nat
  invert : Bool
  panel : Bool
  stop : Bool
  tray : Quad Bool
  forward : Forward
deriving DecidableEq, Repr

/-- Every configuration item (12.1). -/
structure Configuration where
  segment : Nat
  kind : Option NodeKind
  attn : AttnPolarity
  stations : Quad StationCfg
  passDistance : Nat
  orphanHold : Nat
  upstream : Duo Upstream
  pickDistance : Nat
  nextSegment : Nat
  legMap : List LegRow
  imageStation : StationId
  fixStation : StationId
  turnStation : StationId
  windows : Quad Window
  gapMin : Nat
  zones : Trio ZoneCfg
  profile : Vector Nat 256
  gateSet : StationId
  gateStation : StationId
  gateDistance : Nat
  gateGuard : Nat
  pulses : Duo PulseCfg
  pickWidth : Nat
  inputTags : Quad Nat
  slots : Vector SlotCfg 8
  stopInvert : Bool
  supplySelect : Fin 4
  roster : List Nat
  preImage : List Nat
  purgeSink : Nat
  paceStation : StationId
  paceGap : Nat
  restDelay : Nat
  pageLow : Nat
deriving DecidableEq, Repr

/-- A station's items after power-on reset (R185). DESIGN CHOICE: length check off (log 6). -/
def StationCfg.powerOn : StationCfg :=
  { present := false, polarity := .highCovered, zone := .z1, filter := 0, spacing := 1
    lengthCheck := false, gain := 0, offset := 0 }

/-- A zone's items after power-on reset (R185). -/
def ZoneCfg.powerOn : ZoneCfg :=
  { pitch := 0, mode := .lowToHigh, riseStart := 0, riseEnd := 0, fallStart := 0, fallEnd := 0
    stepMs := 1, silenceExp := 2 }

/-- A pulse output's items after power-on reset (R185). -/
def PulseCfg.powerOn : PulseCfg :=
  { source := .unused, edge := .leading, qualifier := .any, a1 := 0, b1 := 1, a2 := 0, b2 := 1 }

/-- A slot's items after power-on reset (R185): unused, with the value that the table of R102 names
first for each choice (DEDUCED, log 6). -/
def SlotCfg.powerOn : SlotCfg :=
  { tag := 0, invert := true, panel := true, stop := true
    tray := ⟨false, false, false, false⟩, forward := .noOutput }

/-- The configuration after power-on reset (R185). DESIGN CHOICE: no purge sink is written as
segment 0, "no segment" (log 6). -/
def Configuration.powerOn : Configuration :=
  { segment := 0, kind := none, attn := .lowActive
    stations := ⟨.powerOn, .powerOn, .powerOn, .powerOn⟩
    passDistance := 0, orphanHold := 0, upstream := ⟨⟨0, 1⟩, ⟨0, 1⟩⟩, pickDistance := 1
    nextSegment := 0, legMap := [], imageStation := .s1, fixStation := .s1, turnStation := .s1
    windows := ⟨⟨0, 0, 0⟩, ⟨0, 0, 0⟩, ⟨0, 0, 0⟩, ⟨0, 0, 0⟩⟩, gapMin := 0
    zones := ⟨.powerOn, .powerOn, .powerOn⟩, profile := Vector.replicate 256 0
    gateSet := .s1, gateStation := .s1, gateDistance := 1, gateGuard := 0
    pulses := ⟨.powerOn, .powerOn⟩, pickWidth := 1, inputTags := ⟨0, 0, 0, 0⟩
    slots := Vector.replicate 8 .powerOn, stopInvert := false, supplySelect := 0
    roster := [], preImage := [], purgeSink := 0, paceStation := .s1, paceGap := 0
    restDelay := 100, pageLow := 0 }

end Sys2Proof
end

