-- ==== Sys2Proof/Syntax.lean ====
section
/-! DEFINITION. The commands of the part: one constructor of `Instr` for each row of spec/opcode_table.json, with the names of configuration items, collections and notices that local commands carry. -/

namespace Sys2Proof

/-- A configuration item as CONFIG WRITE and CONFIG READ name it: a selector with its index
(R185, table 12.1). The manual gives no selector numbers, so an item is named here (log 7);
`unknown` is a selector that names no item. Numeric indexes are those the manual numbers. -/
inductive ConfigItem where
  | segment | kind | attn
  | stationPresent (k : Nat) | stationPolarity (k : Nat) | stationZone (k : Nat)
  | stationFilter (k : Nat) | stationSpacing (k : Nat) | lengthCheck (k : Nat)
  | stationGain (k : Nat) | stationOffset (k : Nat)
  | passDistance | orphanHold | upstreamSegment (i : Nat) | linkDistance (i : Nat) | pickDistance
  | nextSegment | route (leg : Leg) | imageStation | fixStation | turnStation
  | windowLate (m : Nat) | windowStall (m : Nat) | windowTolerance (m : Nat) | gapMin
  | pitch (z : Nat) | edgeMode (z : Nat) | riseStart (z : Nat) | riseEnd (z : Nat)
  | fallStart (z : Nat) | fallEnd (z : Nat) | stepInterval (z : Nat) | silenceExp (z : Nat)
  | profile (e : Nat)
  | gateSet | gateStation | gateDistance | gateGuard
  | pulseSource (p : Nat) | pulseEdge (p : Nat) | pulseQualifier (p : Nat)
  | pulseA1 (p : Nat) | pulseB1 (p : Nat) | pulseA2 (p : Nat) | pulseB2 (p : Nat) | pickWidth
  | inputTag (i : Nat) | slotTag (n : Nat) | slotInvert (n : Nat) | slotPanel (n : Nat)
  | slotStop (n : Nat) | slotTray (n : Nat) | slotForward (n : Nat) | stopInvert | supplySelect
  | roster | preImage | purgeSink | paceStation | paceGap | restDelay | pageLow
  | unknown
deriving DecidableEq, Repr

/-- A configuration item's value, as CONFIG WRITE carries it and CONFIG READ returns it.
`misfit` is data whose length does not fit the item (R185). -/
inductive ConfigValue where
  | number (n : Int)
  | flag (b : Bool)
  | kind (k : Option NodeKind)
  | attn (p : AttnPolarity)
  | polarity (p : SensorPolarity)
  | edgeMode (m : EdgeMode)
  | route (r : Option Route)
  | source (t : TriggerSource)
  | edge (e : TriggerEdge)
  | qualifier (q : Qualifier)
  | classes (m : Quad Bool)
  | forward (f : Forward)
  | segments (l : List Nat)
  | misfit
deriving DecidableEq, Repr

/-- The collections READ names by selector (R190). `unknown` is a selector that names none. -/
inductive Collection where
  | segmentTable | arrivalQueue | orphan | stations | zones | gate | pulses | stopController
  | slots | supply | clearing | linePort
  | pageQueue | resumeQueue | issuedList | streamFaults | lastClose | allocator | pace | planUnit
  | delivery
  | unknown
deriving DecidableEq, Repr

/-- The twelve notices (12.4). -/
inductive Notice where
  | jam | halted | clearing | ready | run | residual | streamFault | pageLow | trayWait
  | lineFault | supplyLow | recoveryWait
deriving DecidableEq, Repr

def Notice.all : List Notice :=
  [.jam, .halted, .clearing, .ready, .run, .residual, .streamFault, .pageLow, .trayWait,
   .lineFault, .supplyLow, .recoveryWait]

/-- The commands. `dataLength` is the data length of a local command's header that carries no data
of its own (11.6). An index names an entry of a collection, from 0 at the front. -/
inductive Instr where
  /-- RESETn rises (R188). -/
  | powerOnReset
  | configWrite (item : ConfigItem) (value : ConfigValue)
  | configRead (item : ConfigItem) (dataLength : Nat)
  | start (dataLength : Nat)
  | restart (dataLength : Nat)
  /-- The page descriptor's bytes (11.6). -/
  | pageSubmit (data : List Byte)
  | streamCancel (stream : Nat) (dataLength : Nat)
  | streamRelease (stream : Nat) (dataLength : Nat)
  | read (collection : Collection) (index : Nat) (dataLength : Nat)
  | readCounters (dataLength : Nat)
  | noticeRead (dataLength : Nat)
  /-- The set of notices to clear; `fits` says that the data length suits the command (R189). -/
  | noticeClear (names : List Notice) (fits : Bool)
  | noticeSetup (enable : List Notice) (level : List Notice) (fits : Bool)
  /-- A transition of ENCx, to high when `rising` (R24 says which transitions are counted). -/
  | encoderCountedEdge (z : ZoneId) (rising : Bool)
  /-- SNSk's new pin level. -/
  | sensorRawChange (k : StationId) (high : Bool)
  | filterCountComplete (k : StationId)
  | stillEdge (k : StationId)
  | passPointReached (index : Nat)
  | deferredPass (index : Nat)
  | lateAtStation (index : Nat)
  | lateAtS1 (index : Nat)
  | stall (k : StationId)
  | orphanHoldExpiry
  | gateGuardFail (index : Nat)
  | pulseDelayComplete (p : PulseId)
  | pulseWidthEnd (p : PulseId)
  | paceGapReached
  | issue
  | startGo
  | restTimerExpiry
  | drdyPresent
  | readyTimerExpiry
  | drdyLost
  | zoneStep (z : ZoneId)
  | silenceTimeout (z : ZoneId)
  /-- INx's new pin level. -/
  | inputPinChange (i : InputId) (high : Bool)
  | tagHoldExpiry (i : InputId)
  /-- The voltage at VSENSE in microvolts. -/
  | vsenseChange (microvolts : Nat)
  | supplyHoldExpiry
  /-- FDONE's new pin level. -/
  | fdone (high : Bool)
  | operationTimeout
  | announcementQueued
  | jamcallTaken
  | stopstateTaken
  | tagstateTaken
  | passTaken
  | deliverFinal
  | deliverCompiled
  | deliverPurge
  | setcloseTaken
  | reportTaken
  | readyTaken
  | planFrameQueued
  | planGoQueued
  | planPurge
  | planBind
  | goTaken
  | restTaken
  | surveyStart
  | reportQueued
  | readyQueued
  | frameTransmitStart
  | arbitrationLost
  | transmitError
  | errorLimitReached
  | frameSent
  /-- The bits the receiver reads after the start bit, fill bits among them (R176); true is recessive. -/
  | frameReceived (bits : List Bool)
  | resetnLow
  | frameCutShort
deriving DecidableEq, Repr

end Sys2Proof
end

