-- ==== Sys2Proof/Decode.lean ====
section
/-! DEFINITION. The command a table word spells. No row of spec/opcode_table.json gives bits, so no word spells one (log 4). -/

namespace Sys2Proof

/-- The command that the low `nbits` bits of `w` spell by the opcode table: none, since the table
gives no row a bit pattern. A command that crosses the part's ports does so as a local command or as
line bits, which Machine/Operands.lean reads. -/
def decodeTableWord (_nbits _w : Nat) : Option Instr := none

end Sys2Proof
end

