-- ==== Sys2Proof/Machine/State.lean ====
section
/-! DEFINITION. Everything one node holds, as plain data, and its values after power-on reset. -/

namespace Sys2Proof.Machine

/-! ### The sheet record and the collections of the tracking unit -/

/-- Toner state of a side (R1). -/
inductive SideState where
  | blank | unfixed | fixed
deriving DecidableEq, Repr

/-- The side that faces the image station next (R1). -/
inductive Side where
  | one | two
deriving DecidableEq, Repr

/-- A sheet record (R1). -/
structure SheetRecord where
  sheet : Nat
  stream : Fin 4
  page1 : Option Nat
  page2 : Option Nat
  set : Nat
  first : Bool
  last : Bool
  media : Fin 4
  nominal : Nat
  measured : Option Nat
  dest : Nat
  purge : Bool
  side1 : SideState
  side2 : Option SideState
  current : Side
  released : Bool
  retry : Nat
deriving DecidableEq, Repr

/-- Local state of a segment-table entry (R5). -/
inductive LocalState where
  | transit | handed | held
deriving DecidableEq, Repr

/-- The six dispositions a survey gives (R4, R121). -/
inductive Disposition where
  | removed | purged | unseen | heldBlank | heldPurge | heldContinue
deriving DecidableEq, Repr

/-- The model's own mark of a PASS kept back at the pass point (R5, R18; log 9): `withheld` by the
turn hold or a halt, `due` once the pass-point tracker has advanced after the hold's end. -/
inductive PassHold where
  | clear | withheld | due
deriving DecidableEq, Repr

/-- A segment-table entry (R4). -/
structure Entry where
  record : SheetRecord
  loc : LocalState
  lead : Nat
  trail : Nat
  leadTracker : Nat
  passTracker : Option Nat
  passSent : Bool
  disposition : Option Disposition
  source : Nat
  claimed : Nat
  passHold : PassHold
deriving DecidableEq, Repr

/-- An arrival-queue entry (R7). -/
structure Arrival where
  record : SheetRecord
  sender : Nat
  link : Nat
  linkDistance : Nat
  unresolved : Bool
deriving DecidableEq, Repr

/-- The tracking unit's collections (R4, R7, R11). `orphan` is the hold tracker of a held orphan
record. Two marks are the model's own (log 9): `idlePass` is R147's "such a node", and `stallHeld` says
of a station that its STALL test came to fail at an edge, since another entry or another length is
expected there (R41), so that it waits for the cover tracker's next advance (R38). -/
structure TrackUnit where
  table : List Entry
  arrivals : List Arrival
  orphan : Option Nat
  idlePass : Bool
  stallHeld : Quad Bool
deriving DecidableEq, Repr

/-! ### Frames -/

/-- The eleven frame kinds (11.6). -/
inductive FrameKind where
  | jamcall | stopstate | tagstate | pass | deliver | setclose | report | ready | plan | go | rest
deriving DecidableEq, Repr

/-- A frame of the path line (R176): its class is that of its kind. -/
structure Frame where
  kind : FrameKind
  origin : Nat
  epoch : Nat
  payload : List Byte
deriving DecidableEq, Repr

/-! ### Stop controller -/

/-- Path states (R61). -/
inductive PathState where
  | unconfigured | idle | run | flush | halting | halted | clearing | ready
deriving DecidableEq, Repr

/-- The fourteen jam causes (R44). -/
inductive Cause where
  | late | stall | length | stray | gap | gate | pulse | drive | supply | interlock | queue | line
  | notready | finish
deriving DecidableEq, Repr

/-- A jam site (R47). -/
structure Site where
  segment : Nat
  cause : Cause
  place : Nat
  sheet : Nat
deriving DecidableEq, Repr

/-- The own-cause record (R48). -/
structure OwnCause where
  cause : Cause
  place : Nat
  sheet : Nat
  cycle : Bool
deriving DecidableEq, Repr

/-- Entries of the stance table (R62). -/
inductive Stance where
  | unknown | flushing | halting | halted
deriving DecidableEq, Repr

/-- The stop controller (R46 to R62). Stances are held by segment ID less 1, counters by cause code less 1. -/
structure StopUnit where
  path : PathState
  epoch : Nat
  sites : List Site
  overflow : Bool
  own : Option OwnCause
  stances : Vector Stance 15
  counters : Vector Nat 14
deriving DecidableEq, Repr

/-! ### Stations, zones, drive chain -/

/-- A station's measurement (R28 to R34). `stillTimer` measures the 16 ms of R29. -/
structure Station where
  covered : Bool
  count : Nat
  stillTimer : Nat
  stillBegun : Bool
  coverCount : Nat
  coverTracker : Nat
  gapTracker : Nat
deriving DecidableEq, Repr

/-- Zone states (R83). -/
inductive ZoneState where
  | idle | rising | running | falling | braked
deriving DecidableEq, Repr

/-- A drive zone (R25, R83, R88). `silenceStopped`: the timer has raised DRIVE and waits for a
counted edge or an entry to RISING (R88). -/
structure Zone where
  state : ZoneState
  output : Nat
  position : Nat
  stepTimer : Nat
  risePending : Bool
  silenceTimer : Nat
  silenceStopped : Bool
  frac : Nat
deriving DecidableEq, Repr

/-- Drive-chain states (R80). -/
inductive ChainState where
  | off | wait | on | failed
deriving DecidableEq, Repr

/-- The drive chain (R80). -/
structure Chain where
  state : ChainState
  readyTimer : Nat
deriving DecidableEq, Repr

/-! ### Gate and pulses -/

/-- A gate claim (R89); `set` is the claim state SET, otherwise WAITING. -/
structure Claim where
  sheet : Nat
  pos : GatePos
  set : Bool
deriving DecidableEq, Repr

/-- The gate and its claim list (R89). -/
structure GateUnit where
  pos : GatePos
  claims : List Claim
deriving DecidableEq, Repr

/-- A pending pulse delay (R94, R96). -/
structure PulseDelay where
  tracker : Nat
  target : Nat
  width : Nat
  sheet : Nat
deriving DecidableEq, Repr

/-- An active pulse width (R94, R96), with the width B it ends at. -/
structure PulseWidth where
  timer : Nat
  width : Nat
  sheet : Nat
deriving DecidableEq, Repr

/-- A pulse output (R94). -/
structure Pulse where
  delay : Option PulseDelay
  active : Option PulseWidth
deriving DecidableEq, Repr

/-! ### Tags and supply -/

/-- A published input (R100): filtered level (true: ASSERTED) and hold timer when it runs. -/
structure Input where
  level : Bool
  hold : Option Nat
deriving DecidableEq, Repr

/-- A slot's value (R102). -/
inductive SlotValue where
  | unknown | asserted | clear
deriving DecidableEq, Repr

/-- The tag unit (R100 to R106). -/
structure TagUnit where
  inputs : Quad Input
  slots : Vector SlotValue 8
  panelCycle : Bool
deriving DecidableEq, Repr

/-- The supply monitor (R112): filtered state (true: OK) and hold timer when it runs. -/
structure SupplyUnit where
  ok : Bool
  hold : Option Nat
deriving DecidableEq, Repr

/-! ### Clearing unit -/

/-- Survey phases (R114). -/
inductive SurveyPhase where
  | noSurvey | voidWait | reporting
deriving DecidableEq, Repr

/-- The fields of a REPORT (R124). -/
structure Report where
  sheet : Nat
  disposition : Disposition
  side1 : SideState
  side2 : Option SideState
  media : Fin 4
  position : Nat
deriving DecidableEq, Repr

/-- The clearing unit (R114). `opened`: a panel opening was taken in REPORTING (R125);
`withdrawn`: a READY with its withdrawn flag waits for a place (R116, R180). Both are the model's
own marks (log 9, log 16). -/
structure ClearUnit where
  phase : SurveyPhase
  reports : List Report
  residual : Bool
  binds : List Nat
  opened : Bool
  withdrawn : Bool
deriving DecidableEq, Repr

/-! ### Feed unit and plan unit -/

/-- A page descriptor (R132). -/
structure PageDesc where
  stream : Fin 4
  page1 : Nat
  page2 : Option Nat
  set : Nat
  first : Bool
  last : Bool
  media : Fin 4
  nominal : Nat
  dest : Nat
  retry : Nat
deriving DecidableEq, Repr

/-- An issued entry (R135); `compiled` is the state COMPILED, otherwise IN-FLIGHT. -/
structure Issued where
  sheet : Nat
  page : PageDesc
  compiled : Bool
deriving DecidableEq, Repr

/-- A stream fault record (R148). -/
structure StreamFault where
  faulted : Bool
  first : Nat
deriving DecidableEq, Repr

/-- The last-close record (R144). -/
structure LastClose where
  stream : Fin 4
  set : Nat
  count : Nat
  removed : Nat
deriving DecidableEq, Repr

/-- The feed unit (R132 to R148). `restQueued`: REST has been queued in this span of emptiness
(R146), the model's own mark (log 9). -/
structure FeedUnit where
  pages : List PageDesc
  resume : List PageDesc
  issued : List Issued
  lastSheet : Nat
  pace : Nat
  startMark : Bool
  restTimer : Nat
  restQueued : Bool
  faults : Quad StreamFault
  lastClose : Option LastClose
deriving DecidableEq, Repr

/-- Plan phases (R150). -/
inductive PlanPhase where
  | gathering | emitting | sent
deriving DecidableEq, Repr

/-- An entry of the disposition map (R150). -/
structure MapEntry where
  disposition : Option Disposition
  blankSides : Bool
  continues : Bool
  media : Fin 4
deriving DecidableEq, Repr

/-- A blank candidate (R152). -/
structure Candidate where
  sheet : Nat
  segment : Nat
  position : Nat
  media : Fin 4
deriving DecidableEq, Repr

/-- A PLAN command (R126 to R128). A BIND's descriptor gives stream, pages, set, flags, sink and
retry; its media class and nominal length are not sent. -/
inductive PlanCmd where
  | purge (sheet : Nat)
  | bind (sheet : Nat) (page : PageDesc)
deriving DecidableEq, Repr

/-- The plan unit (R150). The map holds sheet ID 1 at index 0. `goAgain`: GO is to be queued again
(R163), the model's own mark (log 9). -/
structure PlanUnit where
  phase : PlanPhase
  map : Vector MapEntry 255
  candidates : List Candidate
  overflow : Bool
  readySet : List Nat
  list : List PlanCmd
  late : Bool
  goAgain : Bool
deriving DecidableEq, Repr

/-! ### Delivery unit -/

/-- A compile record (R166). -/
structure CompileRecord where
  sheet : Nat
  stream : Fin 4
  page1 : Option Nat
  page2 : Option Nat
  set : Nat
  first : Bool
  last : Bool
  media : Fin 4
  side1 : SideState
  side2 : Option SideState
deriving DecidableEq, Repr

/-- The finish operation (R166). -/
inductive FinishOp where
  | noOp | staple | void
deriving DecidableEq, Repr

/-- DELIVER variants (R142). -/
inductive Variant where
  | final | compiled | purge
deriving DecidableEq, Repr

/-- A frame formed by the delivery unit and not yet queued (R168, R173). -/
inductive Announcement where
  | deliver (variant : Variant) (sheet : Nat) (stream : Fin 4) (page1 : Option Nat)
  | setclose (stream : Fin 4) (set : Nat) (count : Nat)
deriving DecidableEq, Repr

/-- Reasons of a reject (R166). -/
inductive RejectReason where
  | purgeFlag | unfixed | hand
deriving DecidableEq, Repr

/-- The last reject (R166). -/
structure Reject where
  sheet : Nat
  stream : Fin 4
  page1 : Option Nat
  reason : RejectReason
deriving DecidableEq, Repr

/-- The delivery unit (R166); `fsel` is FSEL's level (high: void). FOP is high while `op` is not NONE. -/
structure DeliveryUnit where
  compile : List CompileRecord
  heldMark : Bool
  op : FinishOp
  opTimer : Nat
  stapleCount : Nat
  announce : List Announcement
  rejects : Nat
  lastReject : Option Reject
  fsel : Bool
deriving DecidableEq, Repr

/-! ### Line port, local port, notices, pins -/

/-- The line port (R180 to R184). `sending` is the frame the node is driving. -/
structure LineUnit where
  tx : List Frame
  rx : List Frame
  sending : Option Frame
  crcErrors : Nat
  stale : Nat
  txErrors : Nat
  errorRun : Nat
  rxOverflow : Bool
  txOverflow : Bool
  limitFlag : Bool
deriving DecidableEq, Repr

/-- A notice (R191); `level` is the mode LEVEL, otherwise EDGE. -/
structure NoticeState where
  enabled : Bool
  level : Bool
  latch : Bool
deriving DecidableEq, Repr

/-- Input pins; `vsense` in microvolts. -/
structure Pins where
  sns : Quad Bool
  enc : Trio Bool
  inp : Quad Bool
  drdy : Bool
  fdone : Bool
  vsense : Nat
  resetn : Bool
deriving DecidableEq, Repr

/-- Reply status (11.6). -/
inductive Status where
  | accepted | locked | state | range | full | duplicate | held | role | config
deriving DecidableEq, Repr

/-- What a reply carries as data: the named fields of what was read (R185, R190, R192; log 7). -/
inductive ReplyData where
  | noData
  | value (v : ConfigValue)
  | entry (e : Entry)
  | arrival (a : Arrival)
  | orphan (hold : Nat)
  | station (s : Station)
  | zone (z : Zone) (c : Chain)
  | gate (g : GateUnit)
  | pulse (p : Pulse)
  | stop (path : PathState) (epoch : Nat) (sites : List Site) (overflow : Bool)
      (stances : Vector Stance 15) (own : Option OwnCause)
  | slot (v : SlotValue) (panelOpen : Bool) (panelCycle : Bool) (aggregate : Bool)
  | supply (ok : Bool) (select : Fin 4)
  | clearing (c : ClearUnit)
  | line (txCount : Nat) (rxCount : Nat) (classes : List Nat)
  | page (p : PageDesc)
  | issued (i : Issued)
  | fault (f : StreamFault)
  | lastClose (l : LastClose)
  | allocator (last : Nat)
  | pace (p : Nat)
  | plan (p : PlanUnit) (missing : List Nat)
  | delivery (d : DeliveryUnit)
  | counters (causes : Vector Nat 14) (crcErrors stale txErrors : Nat)
      (rxOverflow txOverflow limitFlag : Bool)
  | notices (l : List (NoticeState × Bool))
deriving DecidableEq, Repr

/-- A reply of the local port (R189). -/
structure Reply where
  status : Status
  detail : Nat
  data : ReplyData
deriving DecidableEq, Repr

/-! ### The state -/

/-- One node, with the queue of the commands that wait for it. -/
structure State where
  cfg : Configuration
  pins : Pins
  stop : StopUnit
  stations : Quad Station
  zones : Trio Zone
  chain : Chain
  track : TrackUnit
  gate : GateUnit
  pulses : Duo Pulse
  tags : TagUnit
  supply : SupplyUnit
  clear : ClearUnit
  feed : FeedUnit
  plan : PlanUnit
  deliv : DeliveryUnit
  line : LineUnit
  notices : Vector NoticeState 12
  reply : Option Reply
  pending : List Instr
deriving DecidableEq, Repr

/-! Named updates; Laws/State.lean says what each leaves. -/

def State.withCfg (s : State) (x : Configuration) : State := { s with cfg := x }
def State.withPins (s : State) (x : Pins) : State := { s with pins := x }
def State.withStop (s : State) (x : StopUnit) : State := { s with stop := x }
def State.withStations (s : State) (x : Quad Station) : State := { s with stations := x }
def State.withZones (s : State) (x : Trio Zone) : State := { s with zones := x }
def State.withChain (s : State) (x : Chain) : State := { s with chain := x }
def State.withTrack (s : State) (x : TrackUnit) : State := { s with track := x }
def State.withGate (s : State) (x : GateUnit) : State := { s with gate := x }
def State.withPulses (s : State) (x : Duo Pulse) : State := { s with pulses := x }
def State.withTags (s : State) (x : TagUnit) : State := { s with tags := x }
def State.withSupply (s : State) (x : SupplyUnit) : State := { s with supply := x }
def State.withClear (s : State) (x : ClearUnit) : State := { s with clear := x }
def State.withFeed (s : State) (x : FeedUnit) : State := { s with feed := x }
def State.withPlan (s : State) (x : PlanUnit) : State := { s with plan := x }
def State.withDeliv (s : State) (x : DeliveryUnit) : State := { s with deliv := x }
def State.withLine (s : State) (x : LineUnit) : State := { s with line := x }
def State.withNotices (s : State) (x : Vector NoticeState 12) : State := { s with notices := x }
def State.withReply (s : State) (x : Option Reply) : State := { s with reply := x }
def State.withPending (s : State) (x : List Instr) : State := { s with pending := x }

/-! ### Values after power-on reset -/

def Station.reset : Station :=
  { covered := false, count := 0, stillTimer := 0, stillBegun := false, coverCount := 0
    coverTracker := 0, gapTracker := trackerTop }

def Zone.reset : Zone :=
  { state := .idle, output := 0, position := 0, stepTimer := 0, risePending := false
    silenceTimer := 0, silenceStopped := false, frac := 0 }

def MapEntry.reset : MapEntry :=
  { disposition := none, blankSides := false, continues := false, media := 0 }

/-- The plan unit's values of R150. -/
def PlanUnit.reset : PlanUnit :=
  { phase := .gathering, map := Vector.replicate 255 .reset, candidates := [], overflow := false
    readySet := [], list := [], late := false, goAgain := false }

def ClearUnit.reset : ClearUnit :=
  { phase := .noSurvey, reports := [], residual := false, binds := [], opened := false
    withdrawn := false }

def FeedUnit.reset : FeedUnit :=
  { pages := [], resume := [], issued := [], lastSheet := 0, pace := trackerTop, startMark := false
    restTimer := 0, restQueued := false
    faults := ⟨⟨false, 0⟩, ⟨false, 0⟩, ⟨false, 0⟩, ⟨false, 0⟩⟩, lastClose := none }

def DeliveryUnit.reset : DeliveryUnit :=
  { compile := [], heldMark := false, op := .noOp, opTimer := 0, stapleCount := 0, announce := []
    rejects := 0, lastReject := none, fsel := false }

def LineUnit.reset : LineUnit :=
  { tx := [], rx := [], sending := none, crcErrors := 0, stale := 0, txErrors := 0, errorRun := 0
    rxOverflow := false, txOverflow := false, limitFlag := false }

def StopUnit.reset : StopUnit :=
  { path := .unconfigured, epoch := 0, sites := [], overflow := false, own := none
    stances := Vector.replicate 15 .unknown, counters := Vector.replicate 14 0 }

/-- Input pins at the model's first state. DESIGN CHOICE: every level low but RESETn, VSENSE 0 V (log 5). -/
def Pins.reset : Pins :=
  { sns := ⟨false, false, false, false⟩, enc := ⟨false, false, false⟩
    inp := ⟨false, false, false, false⟩, drdy := false, fdone := false, vsense := 0
    resetn := true }

/-- The node after RESETn has risen (R188): UNCONFIGURED, with every block at its power-on value. -/
def State.reset : State :=
  { cfg := .powerOn, pins := .reset, stop := .reset
    stations := ⟨.reset, .reset, .reset, .reset⟩, zones := ⟨.reset, .reset, .reset⟩
    chain := { state := .off, readyTimer := 0 }
    track := { table := [], arrivals := [], orphan := none, idlePass := false
               stallHeld := ⟨false, false, false, false⟩ }
    gate := { pos := .a, claims := [] }, pulses := ⟨⟨none, none⟩, ⟨none, none⟩⟩
    tags := { inputs := ⟨⟨false, none⟩, ⟨false, none⟩, ⟨false, none⟩, ⟨false, none⟩⟩
              slots := Vector.replicate 8 .unknown, panelCycle := false }
    supply := { ok := false, hold := none }
    clear := .reset, feed := .reset, plan := .reset, deliv := .reset, line := .reset
    notices := Vector.replicate 12 { enabled := false, level := false, latch := false }
    reply := none, pending := [] }

/-! ### Stops -/

/-- Faults. There is none: no rule of the spec stops the part (INVENTORY.md, Faults). -/
inductive Fault where
deriving DecidableEq, Repr

/-- Refusals. -/
inductive Refusal where
  /-- Raised by `exec` alone, for a command that has no meaning yet; safe, since the model stops. -/
  | notModelled (mnemonic : String)
deriving DecidableEq, Repr

end Sys2Proof.Machine
end

