-- ==== Sys2Proof/Machine/Operands.lean ====
section
/-! DEFINITION. The layouts of 11_the_path_line.md (section 11.6): codes, payloads, line bits and CRC of a frame, and the page descriptor's bytes. -/

namespace Sys2Proof.Machine

/-! ### Bits and fields -/

/-- The low `width` bits of `n`, most significant first (R176). -/
def toBits : (width : Nat) → (n : Nat) → List Bool
  | 0, _ => []
  | w + 1, n => n.testBit w :: toBits w n

/-- The number a run of bits spells, most significant first. -/
def ofBits (bits : List Bool) : Nat := bits.foldl (fun n b => 2 * n + b.toNat) 0

/-- A byte from a number. -/
def byte (n : Nat) : Byte := BitVec.ofNat 8 n

/-- Byte `i` of a payload, as a number; a byte beyond the payload reads 0. -/
def byteAt (p : List Byte) (i : Nat) : Nat := (p.getD i 0).toNat

/-- Bits `hi` to `lo` of byte `i`. -/
def field (p : List Byte) (i hi lo : Nat) : Nat := byteAt p i / 2 ^ lo % 2 ^ (hi + 1 - lo)

/-- Bit `b` of byte `i`. -/
def flagAt (p : List Byte) (i b : Nat) : Bool := (byteAt p i).testBit b

/-- The two bytes from `i`, most significant first (11.6). -/
def wordAt (p : List Byte) (i : Nat) : Nat := 256 * byteAt p i + byteAt p (i + 1)

/-- A two-bit field as a stream or a media class. -/
def two (n : Nat) : Fin 4 := Fin.ofNat 4 n

/-- An optional 16-bit serial: its value where the present bit is set. -/
def optWord (present : Bool) (w : Nat) : Option Nat := if present then some w else none

/-! ### Codes -/

/-- Kind codes 1 to 11 (11.6). -/
def FrameKind.code : FrameKind → Nat
  | .jamcall => 1 | .stopstate => 2 | .tagstate => 3 | .pass => 4 | .deliver => 5 | .setclose => 6
  | .report => 7 | .ready => 8 | .plan => 9 | .go => 10 | .rest => 11

def FrameKind.ofCode : Nat → Option FrameKind
  | 1 => some .jamcall | 2 => some .stopstate | 3 => some .tagstate | 4 => some .pass
  | 5 => some .deliver | 6 => some .setclose | 7 => some .report | 8 => some .ready
  | 9 => some .plan | 10 => some .go | 11 => some .rest | _ => none

/-- Priority class of a kind (R183). -/
def FrameKind.cls : FrameKind → Nat
  | .jamcall => 0 | .stopstate => 1 | .tagstate => 2 | .pass => 3 | .deliver => 4 | .setclose => 4
  | .report => 5 | .ready => 5 | .plan => 6 | .go => 6 | .rest => 6

/-- Payload lengths allowed for a kind (11.6). -/
def FrameKind.lengths : FrameKind → List Nat
  | .jamcall => [3] | .stopstate => [1] | .tagstate => [2] | .pass => [13] | .deliver => [4]
  | .setclose => [3] | .report => [3] | .ready => [1] | .plan => [2, 9] | .go => [0] | .rest => [0]

/-- Cause codes 1 to 14 (R44). -/
def Cause.code : Cause → Nat
  | .late => 1 | .stall => 2 | .length => 3 | .stray => 4 | .gap => 5 | .gate => 6 | .pulse => 7
  | .drive => 8 | .supply => 9 | .interlock => 10 | .queue => 11 | .line => 12 | .notready => 13
  | .finish => 14

def Cause.ofCode : Nat → Option Cause
  | 1 => some .late | 2 => some .stall | 3 => some .length | 4 => some .stray | 5 => some .gap
  | 6 => some .gate | 7 => some .pulse | 8 => some .drive | 9 => some .supply
  | 10 => some .interlock | 11 => some .queue | 12 => some .line | 13 => some .notready
  | 14 => some .finish | _ => none

/-- Causes 1 to 8 and 14 need a panel cycle (R49). -/
def Cause.needsCycle : Cause → Bool
  | .late | .stall | .length | .stray | .gap | .gate | .pulse | .drive | .finish => true
  | .supply | .interlock | .queue | .line | .notready => false

def SideState.code : SideState → Nat
  | .blank => 0 | .unfixed => 1 | .fixed => 2

/-- Side state codes; 3 is absent (11.6). -/
def sideOf : Nat → Option SideState
  | 0 => some .blank | 1 => some .unfixed | 2 => some .fixed | _ => none

def sideCode : Option SideState → Nat
  | some x => x.code
  | none => 3

def Stance.code : Stance → Nat
  | .unknown => 0 | .flushing => 1 | .halting => 2 | .halted => 3

/-- The stances a STOPSTATE carries (R64). -/
def stanceOf : Nat → Option Stance
  | 1 => some .flushing | 2 => some .halting | 3 => some .halted | _ => none

def Disposition.code : Disposition → Nat
  | .removed => 1 | .purged => 2 | .unseen => 3 | .heldBlank => 4 | .heldPurge => 5
  | .heldContinue => 6

def dispositionOf : Nat → Option Disposition
  | 1 => some .removed | 2 => some .purged | 3 => some .unseen | 4 => some .heldBlank
  | 5 => some .heldPurge | 6 => some .heldContinue | _ => none

def Variant.code : Variant → Nat
  | .final => 1 | .compiled => 2 | .purge => 3

/-! ### Payloads that nodes send -/

def jamcallPayload (site : Site) : List Byte :=
  [byte site.cause.code, byte site.place, byte site.sheet]

def stopstatePayload (st : Stance) : List Byte := [byte st.code]

def tagstatePayload (tag : Nat) (asserted : Bool) : List Byte := [byte tag, byte asserted.toNat]

/-- PASS: the receiving segment and every field of the record (R1, 11.6). -/
def passPayload (receiver : Nat) (r : SheetRecord) : List Byte :=
  [byte (16 * receiver + 4 * r.stream.val + r.retry),
   byte r.sheet,
   byte (r.page1.getD 0 / 256), byte (r.page1.getD 0),
   byte (r.page2.getD 0 / 256), byte (r.page2.getD 0),
   byte (128 * r.page1.isSome.toNat + 64 * r.page2.isSome.toNat + 32 * r.first.toNat
     + 16 * r.last.toNat + r.set / 256 % 16),
   byte r.set,
   byte (64 * r.media.val + 32 * r.measured.isSome.toNat + r.nominal / 256 % 32),
   byte r.nominal,
   byte (128 * r.purge.toNat + 64 * (r.current == .two).toNat + 32 * r.released.toNat
     + r.measured.getD 0 / 256 % 32),
   byte (r.measured.getD 0),
   byte (16 * r.dest + 4 * r.side1.code + sideCode r.side2)]

def deliverPayload (v : Variant) (sheet : Nat) (stream : Fin 4) (page1 : Option Nat) : List Byte :=
  [byte sheet, byte (16 * v.code + 4 * stream.val + page1.isSome.toNat),
   byte (page1.getD 0 / 256), byte (page1.getD 0)]

def setclosePayload (stream : Fin 4) (set count : Nat) : List Byte :=
  [byte (64 * stream.val + set / 256 % 16), byte set, byte count]

def reportPayload (r : Report) : List Byte :=
  [byte r.sheet, byte (16 * r.disposition.code + r.position % 8),
   byte (64 * r.media.val + 4 * r.side1.code + sideCode r.side2)]

def readyPayload (withdrawn : Bool) : List Byte := [byte withdrawn.toNat]

def planPayload : PlanCmd → List Byte
  | .purge sheet => [byte 1, byte sheet]
  | .bind sheet d =>
    [byte 2, byte sheet, byte (64 * d.stream.val + 16 * d.retry + d.dest),
     byte (d.page1 / 256), byte d.page1,
     byte (d.page2.getD 0 / 256), byte (d.page2.getD 0),
     byte (128 * d.page2.isSome.toNat + 32 * d.first.toNat + 16 * d.last.toNat + d.set / 256 % 16),
     byte d.set]

/-! ### Payloads that nodes take -/

/-- The receiving segment a PASS names. -/
def passReceiver (p : List Byte) : Nat := field p 0 7 4

/-- The record a PASS carries; none when side1 is coded absent (R8). -/
def passRecord (p : List Byte) : Option SheetRecord :=
  (sideOf (field p 12 3 2)).map fun side1 =>
    { sheet := byteAt p 1
      stream := two (field p 0 3 2)
      page1 := optWord (flagAt p 6 7) (wordAt p 2)
      page2 := optWord (flagAt p 6 6) (wordAt p 4)
      set := 256 * field p 6 3 0 + byteAt p 7
      first := flagAt p 6 5
      last := flagAt p 6 4
      media := two (field p 8 7 6)
      nominal := 256 * field p 8 4 0 + byteAt p 9
      measured := optWord (flagAt p 8 5) (256 * field p 10 4 0 + byteAt p 11)
      dest := field p 12 7 4
      purge := flagAt p 10 7
      side1 := side1
      side2 := sideOf (field p 12 1 0)
      current := if flagAt p 10 6 then .two else .one
      released := flagAt p 10 5
      retry := field p 0 1 0 }

/-- The ranges of R1 that R8 names: destination sink not 0, nominal length 1000 to 4800 pu, side2
present exactly when page2 is. -/
def SheetRecord.inRange (r : SheetRecord) : Bool :=
  r.dest != 0 && (1000 ≤ r.nominal && r.nominal ≤ 4800) && r.side2.isSome == r.page2.isSome

/-- The page a PLAN BIND carries (R128). Media class and nominal length are not in the frame; they
stand as 0 here and are not read. -/
def planPage (p : List Byte) : PageDesc :=
  { stream := two (field p 2 7 6), page1 := wordAt p 3, page2 := optWord (flagAt p 7 7) (wordAt p 5)
    set := 256 * field p 7 3 0 + byteAt p 8, first := flagAt p 7 5, last := flagAt p 7 4
    media := 0, nominal := 0, dest := field p 2 3 0, retry := field p 2 5 4 }

/-- A PLAN that R126 discards as stale: sheet ID 0, a command other than PURGE or BIND, a length
that does not agree with it, or a BIND with destination sink 0. -/
def planMalformed (p : List Byte) : Bool :=
  byteAt p 1 == 0 ||
  !((byteAt p 0 == 1 && p.length == 2) ||
    (byteAt p 0 == 2 && p.length == 9 && field p 2 3 0 != 0))

/-- The page descriptor of PAGE SUBMIT, 9 bytes (11.6), with retry 0 (R133). -/
def pageOf (p : List Byte) : PageDesc :=
  { stream := two (field p 0 7 6), page1 := wordAt p 1, page2 := optWord (flagAt p 5 7) (wordAt p 3)
    set := 256 * field p 5 3 0 + byteAt p 6, first := flagAt p 5 5, last := flagAt p 5 4
    media := two (field p 0 5 4), nominal := wordAt p 7, dest := field p 0 3 0, retry := 0 }

/-! ### Line bits -/

/-- One step of the CRC register, generator x^16 + x^12 + x^5 + 1 (R177). -/
def crcStep (reg : BitVec 16) (b : Bool) : BitVec 16 :=
  if reg.msb != b then (reg <<< 1) ^^^ 0x1021#16 else reg <<< 1

/-- The CRC over line bits, register preset to all ones (R177). -/
def crc (bits : List Bool) : BitVec 16 := bits.foldl crcStep 0xFFFF#16

/-- The bits of a frame from priority class through payload (R176). -/
def Frame.body (f : Frame) : List Bool :=
  toBits 3 f.kind.cls ++ toBits 4 f.origin ++ toBits 4 f.kind.code ++ toBits 8 f.epoch
    ++ toBits 5 f.payload.length ++ f.payload.flatMap fun b => toBits 8 b.toNat

/-- Insert a dominant fill bit after each tenth bit (R176); `left` bits remain before the next one. -/
def insertFill : (left : Nat) → List Bool → List Bool
  | _, [] => []
  | 0, b :: bs => b :: insertFill 9 bs
  | 1, b :: bs => b :: false :: insertFill 10 bs
  | n + 2, b :: bs => b :: insertFill (n + 1) bs

/-- Leave out the fill bit that follows each tenth bit (R176). -/
def removeFill : (left : Nat) → List Bool → List Bool
  | _, [] => []
  | 0, _ :: bs => removeFill 10 bs
  | n + 1, b :: bs => b :: removeFill n bs

/-- The bits of a frame after its start bit as they cross the line, fill bits among them (R176). -/
def Frame.lineBits (f : Frame) : List Bool :=
  insertFill 10 (f.body ++ toBits 16 (crc f.body).toNat)

/-- What a receiver reads from a frame's line bits (R177, cases 1 and 2). -/
inductive Reading where
  | crcError
  | stale
  | frame (f : Frame)
deriving DecidableEq, Repr

/-- The bytes that a run of bits spells. -/
def bytesOf : Nat → List Bool → List Byte
  | 0, _ => []
  | n + 1, bits => byte (ofBits (bits.take 8)) :: bytesOf n (bits.drop 8)

/-- Among bits that follow `run` recessive ones, 11 recessive bits stand in a row: the line is idle
(R176). -/
def fallsIdle : (run : Nat) → List Bool → Bool
  | _, [] => false
  | _, false :: bs => fallsIdle 0 bs
  | run, true :: bs => decide (10 ≤ run) || fallsIdle (run + 1) bs

/-- Line bits up to the `n`th data bit: a fill bit stands behind each tenth before it (R176). -/
def lineSpan (n : Nat) : Nat := n + (n - 1) / 10

/-- Read a frame from its line bits after the start bit (R176, R177). A line that falls idle before the
CRC is complete reads as a CRC error, and so do too few bits for the length the frame gives; bits beyond
it are not read (log 25). The last CRC bit can be the 11th recessive bit in a row where a fill bit is
damaged: the line counts as idle at that bit, though the CRC agrees (DESIGN CHOICE, log 25). -/
def readFrame (bits : List Bool) : Reading :=
  let data := removeFill 10 bits
  let len := ofBits ((data.drop 19).take 5)
  let body := data.take (24 + 8 * len)
  let check := (data.drop (24 + 8 * len)).take 16
  if data.length < 40 + 8 * len then .crcError
  else if fallsIdle 0 (bits.take (lineSpan (40 + 8 * len))) then .crcError
  else if (crc body).toNat != ofBits check then .crcError
  else
    match FrameKind.ofCode (ofBits ((data.drop 7).take 4)) with
    | none => .stale
    | some k =>
      if ofBits (data.take 3) != k.cls || !k.lengths.contains len then .stale
      else .frame { kind := k, origin := ofBits ((data.drop 3).take 4)
                    epoch := ofBits ((data.drop 11).take 8)
                    payload := bytesOf len (data.drop 24) }

end Sys2Proof.Machine
end

