-- ==== Sys2Proof/Machine/Flags.lean ====
section
/-! DEFINITION. What is computed from State and not stored: zone use, the tag unit's readings, the conditions of the notices, the output pins, and the numbers the window tests compare. -/

namespace Sys2Proof.Machine

/-! ### Configured state, stations and zones in use -/

/-- The node is configured: not UNCONFIGURED (R61). -/
def State.configured (s : State) : Bool := s.stop.path != .unconfigured

/-- The node's kind is `k`. -/
def State.isKind (s : State) (k : NodeKind) : Bool := s.cfg.kind == some k

/-- The node is a sink (00_scope.md). -/
def State.isSink (s : State) : Bool :=
  match s.cfg.kind with
  | some k => k.isSink
  | none => false

def State.stationCfg (s : State) (k : StationId) : StationCfg := s.cfg.stations.get k.ix
def State.station (s : State) (k : StationId) : Station := s.stations.get k.ix
def State.zoneCfg (s : State) (z : ZoneId) : ZoneCfg := s.cfg.zones.get z.ix
def State.zone (s : State) (z : ZoneId) : Zone := s.zones.get z.ix

/-- The station is present (R27). -/
def State.present (s : State) (k : StationId) : Bool := (s.stationCfg k).present

/-- The number n of the last station Sn (R27). -/
def State.lastStation (s : State) : Nat := (StationId.all.filter fun k => s.present k).length

/-- The zone of the station numbered `k`. -/
def State.zoneOf (s : State) (k : Nat) : Option ZoneId :=
  (StationId.ofNum k).map fun i => (s.stationCfg i).zone

/-- A zone is in use when a station names it and the node is configured (R24, R45). -/
def State.inUse (s : State) (z : ZoneId) : Bool :=
  s.configured && StationId.all.any fun k => s.present k && (s.stationCfg k).zone == z

/-- A station reads covered by its sensor's raw level (R27). -/
def State.rawCovered (s : State) (k : StationId) : Bool :=
  match (s.stationCfg k).polarity with
  | .highCovered => s.pins.sns.get k.ix
  | .lowCovered => !s.pins.sns.get k.ix

/-- IDLE or BRAKED. -/
def Zone.atRest (z : Zone) : Bool := z.state == .idle || z.state == .braked

/-- Every zone is IDLE or BRAKED; a zone not in use counts as IDLE (R74). -/
def State.allRest (s : State) : Bool := ZoneId.all.all fun z => !s.inUse z || (s.zone z).atRest

/-- A rise is pending on some zone (R80). -/
def State.anyRisePending (s : State) : Bool := ZoneId.all.any fun z => (s.zone z).risePending

/-! ### Tag unit readings -/

/-- The slots in use, each with its number 1 to 8, its items and its value (R102). -/
def State.slotsInUse (s : State) : List (Nat × SlotCfg × SlotValue) :=
  ((List.range 8).zip (s.cfg.slots.toList.zip s.tags.slots.toList)).filterMap fun (i, c, v) =>
    if c.tag == 0 then none else some (i + 1, c, v)

/-- A slot's value as TAGSTATE and the invert give it (R103). -/
def hear (c : SlotCfg) (asserted : Bool) : SlotValue :=
  if asserted != c.invert then .asserted else .clear

/-- A panel slot reads open: CLEAR or UNKNOWN (R104). -/
def panelSlotOpen (c : SlotCfg) (v : SlotValue) : Bool := c.panel && v != .asserted

/-- A stop slot reads asserted: ASSERTED or UNKNOWN (R104). -/
def stopSlotAsserted (c : SlotCfg) (v : SlotValue) : Bool := c.stop && v != .clear

/-- The panel group reads open (R105). In UNCONFIGURED the model reads it closed, as R107 has the stop
aggregate (DESIGN CHOICE, log 44). -/
def State.groupOpen (s : State) : Bool :=
  s.configured && s.slotsInUse.any fun (_, c, v) => panelSlotOpen c v

/-- The stop aggregate is asserted (R107); it is clear in UNCONFIGURED. -/
def State.aggregate (s : State) : Bool :=
  s.configured && s.slotsInUse.any fun (_, c, v) => stopSlotAsserted c v

/-- The lowest-numbered panel slot that reads open, or 0 (R108). -/
def State.lowestOpen (s : State) : Nat :=
  ((s.slotsInUse.find? fun (_, c, v) => panelSlotOpen c v).map Prod.fst).getD 0

/-- The lowest-numbered stop slot that reads asserted, or 0 (R108). -/
def State.lowestAsserted (s : State) : Nat :=
  ((s.slotsInUse.find? fun (_, c, v) => stopSlotAsserted c v).map Prod.fst).getD 0

/-- Media class `m` is ready (R109). -/
def State.trayReady (s : State) (m : Fin 4) : Bool :=
  s.slotsInUse.any fun (_, c, v) => c.tray.get m && v == .asserted

/-- A forwarded output is active (R110). -/
def State.forwards (s : State) (f : Forward) : Bool :=
  s.configured && s.slotsInUse.any fun (_, c, v) => c.forward == f && v == .asserted

/-- The stop aggregate or the supply monitor calls for the brake (R84, R113). -/
def State.braking (s : State) : Bool := s.aggregate || !s.supply.ok

/-- The reference at VSENSE in microvolts (R111). -/
def supplyReference : Fin 4 → Nat
  | 0 => 1125000
  | 1 => 1200000
  | 2 => 1275000
  | 3 => 1350000

/-- The comparator result is ok: VSENSE at or above the reference (R111). -/
def State.comparatorOk (s : State) : Bool := supplyReference s.cfg.supplySelect ≤ s.pins.vsense

/-! ### Leg, next segment, halts ahead -/

/-- The leg of a record (R2). -/
def SheetRecord.leg (r : SheetRecord) : Leg :=
  if r.purge || r.page1.isNone then .purge
  else if r.page2.isSome && r.side2 == some .blank && r.side1 == .fixed then .duplex
  else .sink r.dest

/-- The state of the record's current side. -/
def SheetRecord.currentState (r : SheetRecord) : Option SideState :=
  match r.current with
  | .one => some r.side1
  | .two => r.side2

/-- The leg map's entry for a leg. -/
def State.legRoute (s : State) (leg : Leg) : Option Route :=
  (s.cfg.legMap.find? fun row => row.leg == leg).map LegRow.route

/-- The route of a leg: its own entry, or else the PURGE entry (R3). -/
def State.routeFor (s : State) (leg : Leg) : Option Route :=
  (s.legRoute leg).or (s.legRoute .purge)

/-- A node has a gate when its leg map gives position B for a leg (R89). -/
def State.hasGate (s : State) : Bool :=
  !s.isSink && s.cfg.legMap.any fun row => row.route.gate == .b

/-- The next segment of a record by its current leg (R3); 0 at a sink. -/
def State.nextByLeg (s : State) (r : SheetRecord) : Nat :=
  if s.isSink then 0
  else if s.cfg.legMap.isEmpty then s.cfg.nextSegment
  else ((s.routeFor r.leg).map Route.next).getD 0

/-- The next segment of a segment-table entry: its claimed segment where it holds one at a node
with a gate, and otherwise by its leg (R3, R90). -/
def State.nextOf (s : State) (e : Entry) : Nat :=
  if s.hasGate && e.claimed != 0 then e.claimed else s.nextByLeg e.record

/-- The stance-table entry of a segment (R62). -/
def StopUnit.stanceOfSegment (u : StopUnit) (seg : Nat) : Stance :=
  if seg = 0 then .unknown else (u.stances[seg - 1]?).getD .unknown

/-- HALTING and HALTED count as halting (R62). -/
def Stance.isHalting : Stance → Bool
  | .halting | .halted => true
  | .unknown | .flushing => false

/-- A segment is a site or is halting (R65). -/
def StopUnit.haltsAt (u : StopUnit) (seg : Nat) : Bool :=
  seg != 0 && (u.sites.any (fun x => x.segment == seg) || (u.stanceOfSegment seg).isHalting)

/-- A halt lies ahead of some item of the node (R65). -/
def State.haltAhead (s : State) : Bool :=
  s.track.table.any (fun e => e.loc != .held && s.stop.haltsAt (s.nextOf e)) ||
  s.track.arrivals.any (fun a => s.stop.haltsAt (s.nextByLeg a.record))

/-- The node is a site of the current stop (R65). -/
def State.isSite (s : State) : Bool :=
  s.stop.own.isSome || s.stop.sites.any fun x => x.segment == s.cfg.segment

/-- The node has drained (R71). -/
def State.drained (s : State) : Bool :=
  s.track.table.all (fun e => e.loc == .held) && s.track.arrivals.all (fun a => a.unresolved) &&
  s.track.orphan.isNone

/-- The gate and the pulse triggers act in RUN, FLUSH and HALTING (R91, R95). -/
def PathState.moves : PathState → Bool
  | .run | .flush | .halting => true
  | .unconfigured | .idle | .halted | .clearing | .ready => false

/-- The path states of a stop (R56). -/
def PathState.stopped : PathState → Bool
  | .flush | .halting | .halted | .clearing | .ready => true
  | .unconfigured | .idle | .run => false

/-! ### Window tests -/

def State.window (s : State) (m : Fin 4) : Window := s.cfg.windows.get m

/-- An entry's lead tracker exceeds D_k + W_late, with its lead landmark at k - 1 (R39). -/
def State.lateEntry (s : State) (e : Entry) : Bool :=
  e.loc != .held && 1 ≤ e.lead && e.lead < s.lastStation &&
  match StationId.ofNum (e.lead + 1) with
  | some k => (s.stationCfg k).spacing + (s.window e.record.media).late < e.leadTracker
  | none => false

/-- An arrival entry's link tracker exceeds its link distance + W_late (R40). -/
def State.lateArrival (s : State) (a : Arrival) : Bool :=
  !a.unresolved && a.linkDistance + (s.window a.record.media).late < a.link

/-- The entry that the next trailing edge at the station numbered `k` would match (R16, R41). -/
def expectedAt (k : Nat) (table : List Entry) : Option Entry :=
  table.find? fun e => e.trail + 1 == k && k ≤ e.lead

/-- The STALL threshold at a station (R41). -/
def State.stallThreshold (s : State) (k : StationId) : Nat :=
  match expectedAt k.num s.track.table with
  | some e => e.record.measured.getD e.record.nominal + (s.window e.record.media).stall
  | none => 4800 + (s.window 0).stall

/-- The sheet a STALL at the station names: the expected entry's, or 0 (R41). -/
def State.stallSheet (s : State) (k : StationId) : Nat :=
  match expectedAt k.num s.track.table with
  | some e => e.record.sheet
  | none => 0

/-- The STALL test fails at a station (R41). -/
def State.stalled (s : State) (k : StationId) : Bool :=
  s.present k && (s.station k).covered &&
  (s.stallThreshold k < (s.station k).coverTracker || (s.station k).coverCount == trackerTop)

/-- An entry has come too far for a claim that still waits (R93): its leading edge has passed a station
beyond the gate-set station, or its lead tracker has reached the gate distance less the guard. -/
def State.guardPassed (s : State) (e : Entry) : Bool :=
  decide (s.cfg.gateSet.num < e.lead) ||
  (e.lead == s.cfg.gateSet.num && decide (s.cfg.gateDistance - s.cfg.gateGuard ≤ e.leadTracker))

/-- The guard test of a claim fails (R93). -/
def State.guardFails (s : State) (c : Claim) : Bool :=
  !c.set && (s.track.table.find? fun e => e.record.sheet == c.sheet).any s.guardPassed

/-- The corrected length of R36, stages 1 to 5, in exact integer arithmetic. -/
def correctedLength (count pitch gain : Nat) (offset : Int) : Nat :=
  let sum : Int := ((count * pitch * gain : Nat) : Int) + offset * 2 ^ 20
  let rounded : Int := (sum + 2 ^ 27) / 2 ^ 28
  (min 8191 (max 0 rounded)).toNat

/-! ### Feeding -/

def FeedUnit.faulted (f : FeedUnit) (stream : Fin 4) : Bool := (f.faults.get stream).faulted

/-- The issue candidate (R134). -/
def FeedUnit.candidate (f : FeedUnit) : Option PageDesc :=
  (f.resume.find? fun d => !f.faulted d.stream).or (f.pages.find? fun d => !f.faulted d.stream)

/-- Every zone in use is RUNNING (R136). -/
def State.allRunning (s : State) : Bool :=
  ZoneId.all.all fun z => !s.inUse z || (s.zone z).state == .running

/-- The pace condition (R137). -/
def State.paceHolds (s : State) : Bool :=
  !(s.station s.cfg.paceStation).covered && s.cfg.paceGap ≤ s.feed.pace &&
  s.track.table.all (fun e => e.loc == .held || s.cfg.paceStation.num ≤ e.trail) &&
  s.track.arrivals.all (fun a => a.sender != 0)

/-- The registration arbiter grants a pick (R138). -/
def State.arbiterGrants (s : State) : Bool := s.track.arrivals.all fun a => a.sender == 0

/-- The conditions 1, 2, 3, 6 and 7 of R136 at a FEED node. -/
def State.laneOpen (s : State) : Bool :=
  s.isKind .feed && s.stop.path == .run && s.allRunning &&
  decide (s.feed.issued.length < issuedCap) && s.paceHolds && s.arbiterGrants

/-- The page that R136 lets the feed unit issue now. -/
def State.issuable (s : State) : Option PageDesc :=
  match s.feed.candidate with
  | some d => if s.laneOpen && s.trayReady d.media then some d else none
  | none => none

/-- The start test's conditions other than tray readiness (R145). -/
def State.startReady (s : State) : Bool :=
  s.isKind .feed && s.stop.path == .idle && !s.feed.startMark && s.supply.ok && !s.aggregate

/-- The start test of R145. -/
def State.startTest (s : State) : Bool :=
  s.startReady &&
  match s.feed.candidate with
  | some d => s.trayReady d.media
  | none => false

/-- The issued list, the page queue and the resume queue are all empty (R146). -/
def FeedUnit.allEmpty (f : FeedUnit) : Bool :=
  f.issued.isEmpty && f.pages.isEmpty && f.resume.isEmpty

/-- The rest timer's condition (R146). -/
def State.resting (s : State) : Bool :=
  s.isKind .feed && s.stop.path == .run && s.feed.allEmpty

/-! ### Line -/

/-- A frame of class `c` finds a place in the transmit queue (R180). -/
def LineUnit.open (l : LineUnit) (c : Nat) : Bool :=
  l.tx.length < (if c ≤ 1 then txCap else txOpenCap)

/-- Insert into a list of frames the frame of R178: the lowest class, and within it the oldest. -/
def chooseFrame : List Frame → Option Frame
  | [] => none
  | f :: rest =>
    match chooseFrame rest with
    | none => some f
    | some g => if g.kind.cls < f.kind.cls then some g else some f

/-! ### Survey -/

/-- The survey conditions of R115. -/
def State.surveyReady (s : State) : Bool :=
  (s.stop.path == .halted || s.stop.path == .clearing) && s.clear.phase == .noSurvey &&
  !s.clear.residual && !s.groupOpen && s.supply.ok &&
  (match s.stop.own with
    | some o => !o.cycle || s.tags.panelCycle
    | none => true) &&
  !(s.isKind .finish && s.deliv.op != .noOp)

/-- An entry expects to cover the station numbered `k` (R120). -/
def Entry.expects (e : Entry) (k : Nat) : Bool := k ≤ e.lead && e.trail < k

/-- The disposition of a segment-table entry under the consistency form (R121). -/
def State.classify (s : State) (e : Entry) : Disposition :=
  if StationId.all.any fun k => s.present k && e.expects k.num && !(s.station k).covered then .removed
  else if e.record.side1 == .unfixed || e.record.side2 == some .unfixed then .heldPurge
  else if e.record.released && e.record.currentState == some .blank then .heldPurge
  else if e.record.side1 == .blank && (e.record.side2 == some .blank || e.record.side2 == none) then
    .heldBlank
  else .heldContinue

/-- A disposition that keeps the entry (R122). -/
def Disposition.keeps : Disposition → Bool
  | .heldBlank | .heldPurge | .heldContinue => true
  | .removed | .purged | .unseen => false

/-- A residual: a station reads covered and no kept entry expects to cover it (R122). -/
def State.residualAt (s : State) (kept : List Entry) : Bool :=
  StationId.all.any fun k =>
    s.present k && (s.station k).covered && !kept.any (fun e => e.expects k.num)

/-! ### Notices -/

def noticeIx : Notice → Fin 12
  | .jam => 0 | .halted => 1 | .clearing => 2 | .ready => 3 | .run => 4 | .residual => 5
  | .streamFault => 6 | .pageLow => 7 | .trayWait => 8 | .lineFault => 9 | .supplyLow => 10
  | .recoveryWait => 11

/-- A page waits for tray readiness alone (R141). -/
def State.trayWaits (s : State) : Bool :=
  match s.feed.candidate with
  | some d => !s.trayReady d.media && (s.laneOpen || s.startReady)
  | none => false

/-- The roster segments whose READY has not been taken (R150, R153). -/
def State.missing (s : State) : List Nat :=
  s.cfg.roster.filter fun g => !s.plan.readySet.contains g

/-- The condition a notice watches (12.4). -/
def State.condition (s : State) : Notice → Bool
  | .jam => s.stop.own.isSome
  | .halted => s.stop.path == .halted
  | .clearing => s.stop.path == .clearing
  | .ready => s.stop.path == .ready
  | .run => s.stop.path == .run
  | .residual => s.clear.residual
  | .streamFault => s.feed.faulted 0 || s.feed.faulted 1 || s.feed.faulted 2 || s.feed.faulted 3
  | .pageLow => s.configured && s.isKind .feed && decide (s.feed.pages.length ≤ s.cfg.pageLow)
  | .trayWait => s.trayWaits
  | .lineFault => s.line.rxOverflow || s.line.txOverflow || s.line.limitFlag
  | .supplyLow => !s.supply.ok
  | .recoveryWait =>
    s.isKind .feed && s.stop.path == .ready && s.plan.phase == .gathering && !s.missing.isEmpty

/-- ATTN is active (R192). -/
def State.attnActive (s : State) : Bool := s.notices.toList.any fun n => n.enabled && n.latch

/-! ### Output pins -/

/-- The levels of the output pins; true is high. `zcmd` is the duty in 4096ths (R83). -/
structure OutputPins where
  zcmd : Trio Nat
  brk : Trio Bool
  drven : Bool
  gate : Bool
  po : Duo Bool
  out1 : Bool
  out2 : Bool
  stopn : Bool
  fop : Bool
  fsel : Bool
  attn : Bool
deriving DecidableEq, Repr

/-- The output pins (R80, R83, R89, R94, R107, R110, R172, R192). -/
def State.outputs (s : State) : OutputPins :=
  { zcmd := s.zones.map Zone.output
    brk := s.zones.map fun z => z.state == .braked
    drven := s.chain.state != .off
    gate := s.hasGate && s.gate.pos == .b
    po := s.pulses.map fun p => p.active.isSome
    out1 := s.forwards .out1
    out2 := s.forwards .out2
    stopn := if s.configured then s.aggregate == s.cfg.stopInvert else true
    fop := s.deliv.op != .noOp
    fsel := s.deliv.fsel
    attn := s.attnActive == (s.cfg.attn == .highActive) }

/-- The bits the node drives after the start bit while it sends a frame (R176, R178). -/
def State.lineOut (s : State) : Option (List Bool) := s.line.sending.map Frame.lineBits

end Sys2Proof.Machine
end

