-- ==== Sys2Proof/Machine/Ops.lean ====
section
/-! DEFINITION. The operations that commands share: queueing a frame, the zones and the drive chain, the path state and its notices, and raising a jam cause with the stop it starts or joins. -/

namespace Sys2Proof.Machine

/-! ### Small updates -/

def State.setZone (s : State) (z : ZoneId) (x : Zone) : State := s.withZones (s.zones.set z.ix x)

def State.setStation (s : State) (k : StationId) (x : Station) : State :=
  s.withStations (s.stations.set k.ix x)

def State.setPulse (s : State) (p : PulseId) (x : Pulse) : State :=
  s.withPulses (s.pulses.set p.ix x)

/-- Rewrite every zone by its name. -/
def State.mapZones (s : State) (f : ZoneId → Zone → Zone) : State :=
  s.withZones ⟨f .z1 s.zones.a, f .z2 s.zones.b, f .z3 s.zones.c⟩

def State.withTable (s : State) (t : List Entry) : State := s.withTrack { s.track with table := t }

def State.withArrivals (s : State) (a : List Arrival) : State :=
  s.withTrack { s.track with arrivals := a }

def State.withOrphan (s : State) (o : Option Nat) : State :=
  s.withTrack { s.track with orphan := o }

/-- A frame discarded as stale is counted (R184). -/
def State.countStale (s : State) : State :=
  s.withLine { s.line with stale := satAdd counterTop s.line.stale 1 }

/-! ### Notices (R191) -/

/-- Set the latch of a notice if it is enabled. -/
def State.latch (s : State) (n : Notice) : State :=
  let x := s.notices.get (noticeIx n)
  if x.enabled then
    s.withNotices (s.notices.set (noticeIx n).val { x with latch := true } (noticeIx n).isLt)
  else s

/-- Latch the enabled notices whose condition holds in `after` and did not hold in `before`. -/
def latchNew (before after : State) : State :=
  Notice.all.foldl
    (fun s n => if after.condition n && !before.condition n then s.latch n else s) after

/-- End a command: the notices whose conditions came to hold in it latch (R191). -/
def done (before after : State) : Host.Outcome State Fault Refusal := .next (latchNew before after)

/-! ### Frames -/

/-- A frame of this node under the current epoch (R46, R176). -/
def State.frame (s : State) (k : FrameKind) (payload : List Byte) : Frame :=
  { kind := k, origin := s.cfg.segment, epoch := s.stop.epoch, payload := payload }

/-- Append a frame to the transmit queue (R180). -/
def State.push (s : State) (f : Frame) : State := s.withLine { s.line with tx := s.line.tx ++ [f] }

/-- Place a frame, or lose it and set the transmit overflow flag (R181); raises no cause. -/
def State.place (s : State) (f : Frame) : State :=
  if s.line.open f.kind.cls then s.push f else s.withLine { s.line with txOverflow := true }

/-! ### Zones (R84 to R87) -/

/-- Profile entry `i` (R84). -/
def State.profileAt (s : State) (i : Nat) : Nat := (s.cfg.profile[i]?).getD 0

/-- The first entry from `lo` to `hi` whose value meets `p`. -/
def State.findEntry (s : State) (lo hi : Nat) (p : Nat → Bool) : Option Nat :=
  (List.range' lo (hi + 1 - lo)).find? fun i => p (s.profileAt i)

/-- The zone enters RISING at entry `i`, or RUNNING when that is entry re (R84, R85). -/
def State.riseAt (s : State) (z : ZoneId) (i : Nat) (x : Zone) : Zone :=
  { x with
    state := if i = (s.zoneCfg z).riseEnd then .running else .rising
    position := i, output := s.profileAt i, stepTimer := 0, silenceTimer := 0
    silenceStopped := false, risePending := false }

/-- A takeover of a fall (R85). With no entry at or above the output the zone is RUNNING at
re, its step timer restarted too (DESIGN CHOICE, log 21). -/
def State.takeover (s : State) (z : ZoneId) (x : Zone) : Zone :=
  let c := s.zoneCfg z
  s.riseAt z ((s.findEntry c.riseStart c.riseEnd fun v => x.output ≤ v).getD c.riseEnd) x

/-- A fall request by the zone's state (R86). -/
def State.fallZone (s : State) (z : ZoneId) (x : Zone) : Zone :=
  let c := s.zoneCfg z
  match x.state with
  | .idle | .braked => { x with risePending := false }
  | .falling => x
  | .rising | .running =>
    match s.findEntry c.fallStart c.fallEnd fun v => v ≤ x.output with
    | some i => { x with state := .falling, position := i, output := s.profileAt i, stepTimer := 0 }
    | none => { x with state := .idle, output := 0 }

/-- A brake request (R87). -/
def Zone.brake (x : Zone) : Zone := { x with state := .braked, output := 0, risePending := false }

/-- A brake request of every zone in use. -/
def State.brakeAll (s : State) : State := s.mapZones fun z x => if s.inUse z then x.brake else x

/-- A fall request of every zone in use. -/
def State.fallAll (s : State) : State :=
  s.mapZones fun z x => if s.inUse z then s.fallZone z x else x

/-- Every pending rise begins (R80, R84). -/
def State.beginRises (s : State) : State :=
  s.mapZones fun z x => if x.risePending then s.riseAt z (s.zoneCfg z).riseStart x else x

/-- A rise becomes pending; the chain leaves OFF for WAIT, or for ON when DRDY is present, and a rise
begins at once when the chain is ON (R80, R84). -/
def State.pendRise (s : State) (z : ZoneId) : State :=
  let first := !s.anyRisePending
  let s1 := s.setZone z { s.zone z with risePending := true }
  match s.chain.state with
  | .on => s1.beginRises
  | .off =>
    if s.pins.drdy then (s1.withChain { state := .on, readyTimer := 0 }).beginRises
    else s1.withChain { state := .wait, readyTimer := 0 }
  | .wait => if first then s1.withChain { state := .wait, readyTimer := 0 } else s1
  | .failed => s

/-- A rise request of a zone (R80, R84): dropped while the stop aggregate or the supply monitor
calls for the brake, and in FAILED. -/
def State.riseZone (s : State) (z : ZoneId) : State :=
  if !s.inUse z || s.braking || s.chain.state == .failed then s
  else
    match (s.zone z).state with
    | .idle | .braked => s.pendRise z
    | .rising | .running => s
    | .falling => s.setZone z (s.takeover z (s.zone z))

/-- A rise request of every zone in use. -/
def State.riseAll (s : State) : State := ((s.riseZone .z1).riseZone .z2).riseZone .z3

/-- The release condition of the drive chain (R82). -/
def State.releaseHolds (s : State) : Bool :=
  s.allRest && !s.anyRisePending &&
  (match s.stop.path with
    | .halted | .clearing | .ready | .idle => true
    | .unconfigured | .run | .flush | .halting => false)

/-- The chain returns to OFF when the release condition holds (R82). The ready timer then reads 0
(DESIGN CHOICE, log 56). -/
def State.releaseChain (s : State) : State :=
  if s.releaseHolds then s.withChain { state := .off, readyTimer := 0 } else s

/-! ### Path state (R61) -/

/-- The notice that watches a path state (12.4). -/
def PathState.notice : PathState → Option Notice
  | .halted => some .halted
  | .clearing => some .clearing
  | .ready => some .ready
  | .run => some .run
  | .unconfigured | .idle | .flush | .halting => none

/-- Latch the notice of a path state that is entered, be it left again in the same command (R191; log 19). -/
def State.latchPath (s : State) (p : PathState) : State :=
  match p.notice with
  | some n => s.latch n
  | none => s

/-- Leaving RUN returns the rest timer to 0 (R146). -/
def State.leaveRun (s : State) (p : PathState) : State :=
  if s.stop.path = .run ∧ p ≠ .run then
    s.withFeed { s.feed with restTimer := 0, restQueued := false }
  else s

/-- Leaving IDLE clears the start mark (R145) and the mark of a PASS taken in IDLE (R147). -/
def State.leaveIdle (s : State) (p : PathState) : State :=
  if s.stop.path = .idle ∧ p ≠ .idle then
    (s.withFeed { s.feed with startMark := false }).withTrack { s.track with idlePass := false }
  else s

/-- The notice of a path state that is entered afresh latches. -/
def State.notePath (s : State) (p : PathState) : State :=
  if s.stop.path = p then s else s.latchPath p

def State.setPath (s : State) (p : PathState) : State := s.withStop { s.stop with path := p }

/-- Enter a path state (R61); the drive chain's release is tested then (R82). -/
def State.enter (s : State) (p : PathState) : State :=
  ((((s.leaveRun p).leaveIdle p).notePath p).setPath p).releaseChain

/-! ### Jam causes (R44 to R60) -/

/-- Where a raised cause takes effect (R45). -/
def Cause.takesEffect (c : Cause) (p : PathState) : Bool :=
  match c with
  | .late | .stall | .length | .gap | .gate | .pulse | .finish => p == .run || p == .flush
  | .stray => p == .idle || p == .run || p == .flush
  | .drive | .interlock | .queue | .line | .supply => p == .run || p == .flush || p == .halting
  | .notready => false

/-- The next epoch (R46). -/
def nextEpoch (e : Nat) : Nat := if e = 255 then 1 else e + 1

/-- Add a site to the jam site list (R47). -/
def StopUnit.addSite (u : StopUnit) (x : Site) : StopUnit :=
  if u.sites.any fun y => y.segment == x.segment then u
  else if u.sites.length < siteCap then { u with sites := u.sites ++ [x] }
  else { u with overflow := true }

/-- Set the own-cause record (R48, R49). -/
def StopUnit.setOwn (u : StopUnit) (c : Cause) (place sheet : Nat) : StopUnit :=
  match u.own with
  | none =>
    { u with own := some { cause := c, place := place, sheet := sheet, cycle := c.needsCycle } }
  | some o => { u with own := some { o with cycle := o.cycle || c.needsCycle } }

/-- Count a cause that takes effect (R60). -/
def StopUnit.count (u : StopUnit) (c : Cause) : StopUnit :=
  let seen := (u.counters[c.code - 1]?).getD 0
  { u with counters := u.counters.setIfInBounds (c.code - 1) (satAdd counterTop seen 1) }

/-- Set the stance-table entry of a segment (R62). -/
def StopUnit.setStance (u : StopUnit) (seg : Nat) (st : Stance) : StopUnit :=
  if seg = 0 then u else { u with stances := u.stances.setIfInBounds (seg - 1) st }

/-- This node's site for a cause (R51). -/
def State.siteOf (s : State) (c : Cause) (place sheet : Nat) : Site :=
  { segment := s.cfg.segment, cause := c, place := place, sheet := sheet }

/-- Own-cause record and cause counter for a cause that takes effect (R48, R60). -/
def State.ownCause (s : State) (c : Cause) (place sheet : Nat) : State :=
  s.withStop ((s.stop.setOwn c place sheet).count c)

/-- Place a JAMCALL that carries a site under the current epoch (R54, R181). -/
def State.jamcall (s : State) (x : Site) : State := s.place (s.frame .jamcall (jamcallPayload x))

/-- A cause joins the current stop, before the turn to HALTING (R52). -/
def State.joinSite (s : State) (c : Cause) (place sheet : Nat) : State :=
  let s1 := s.ownCause c place sheet
  (s1.withStop (s1.stop.addSite (s.siteOf c place sheet))).jamcall (s.siteOf c place sheet)

/-- The frame that announces a stance (R63). -/
def State.stanceFrame (s : State) (st : Stance) : Frame := s.frame .stopstate (stopstatePayload st)

/-- Place STOPSTATE; without a place it is lost, and LINE joins the stop of a HALTING node and is
dropped in HALTED (R45, R63, R181). -/
def State.announceStance (s : State) (st : Stance) : State :=
  if s.line.open FrameKind.stopstate.cls then s.push (s.stanceFrame st)
  else
    let s := s.withLine { s.line with txOverflow := true }
    if Cause.line.takesEffect s.stop.path then s.joinSite .line 2 0 else s

/-- Remove the pending pulse delays (R97). -/
def State.dropDelays (s : State) : State :=
  s.withPulses (s.pulses.map fun p => { p with delay := none })

/-- The panel group found open at entry to HALTED: the node goes on to CLEARING (R116). -/
def State.openedAtHalt (s : State) : State := if s.groupOpen then s.enter .clearing else s

/-- Enter HALTED (R74): pending delays go (R97), STOPSTATE HALTED is queued, and the panel group is
looked at (R116). -/
def State.enterHalted (s : State) : State :=
  (((s.enter .halted).dropDelays).announceStance .halted).openedAtHalt

/-- The own-cause record holds SUPPLY or INTERLOCK (R73). -/
def State.ownBrakes (s : State) : Bool :=
  match s.stop.own with
  | some o => o.cause == .supply || o.cause == .interlock
  | none => false

/-- The zone requests of HALTING (R73). -/
def State.restZones (s : State) : State := if s.ownBrakes then s.brakeAll else s.fallAll

/-- HALTED at once when every zone is at rest (R74), and otherwise STOPSTATE HALTING (R63; log 11). -/
def State.haltTest (s : State) : State :=
  if s.allRest then s.enterHalted else s.announceStance .halting

/-- Enter HALTING (R73). -/
def State.enterHalting (s : State) : State := (s.enter .halting).restZones.haltTest

/-- HALTING passes to HALTED when every zone is at rest (R74); otherwise the chain's release is
tested (R82). Made at each change of zone state. -/
def State.zonesChanged (s : State) : State :=
  if s.stop.path = .halting ∧ s.allRest = true then s.enterHalted else s.releaseChain

/-- A node in FLUSH with a halt ahead of an item turns to HALTING (R69). -/
def State.haltAheadTest (s : State) : State :=
  if s.stop.path = .flush ∧ s.haltAhead = true then s.enterHalting else s

/-- A node in FLUSH that has drained turns to HALTING (R71). -/
def State.drainTest (s : State) : State :=
  if s.stop.path = .flush ∧ s.drained = true then s.enterHalting else s

/-- FLUSH turns to HALTING when a cause has joined (R52); in HALTING a first cause SUPPLY or INTERLOCK
brakes every zone (R75). `before` is the own-cause record that the cause found. -/
def State.afterJoin (s : State) (before : Option OwnCause) : State :=
  if s.stop.path = .flush then s.enterHalting
  else if before = none ∧ s.ownBrakes = true then s.brakeAll.zonesChanged
  else s

/-- A cause that takes effect in FLUSH or HALTING (R52). -/
def State.joinStop (s : State) (c : Cause) (place sheet : Nat) : State :=
  (s.joinSite c place sheet).afterJoin s.stop.own

/-- STOPSTATE FLUSHING (R68). Without a place it raises LINE, which turns the node to HALTING. -/
def State.announceFlush (s : State) : State :=
  if s.line.open FrameKind.stopstate.cls then s.push (s.stanceFrame .flushing)
  else (s.withLine { s.line with txOverflow := true }).joinStop .line 2 0

/-- Enter FLUSH (R68). -/
def State.enterFlush (s : State) : State :=
  (s.enter .flush).announceFlush.haltAheadTest.drainTest

/-- The clearing unit's work in hand ends at a stop start (R117). -/
def ClearUnit.endWork (c : ClearUnit) : ClearUnit :=
  if c.phase ≠ .noSurvey ∨ c.residual = true ∨ c.binds ≠ [] then .reset
  else { c with opened := false, withdrawn := false }

/-- The node takes HALTING at a stop start by rows 1 to 4 of R66; `from_` is the path state it was in. -/
def State.mustHalt (s : State) (from_ : PathState) : Bool :=
  s.isSite || s.isKind .feed || s.haltAhead || !(from_ == .run || from_ == .flush)

/-- Steps 1 to 3 and 5 of a stop start (R50). -/
def StopUnit.begin (u : StopUnit) (epoch : Nat) (x : Site) : StopUnit :=
  ({ u with
    epoch := epoch, sites := [], overflow := false
    stances := Vector.replicate 15 .unknown } : StopUnit).addSite x

/-- Steps 1 to 5 of a stop start (R50), with the panel-cycle flag (R106) and the work of the clearing
and plan units ended (R117, R165). -/
def State.newStop (s : State) (epoch : Nat) (x : Site) : State :=
  (((s.withStop (s.stop.begin epoch x)).withTags { s.tags with panelCycle := s.groupOpen }).withClear
    s.clear.endWork).withPlan .reset

/-- Step 6 of a stop start (R50): the stance (R66). -/
def State.takeStance (s : State) (from_ : PathState) : State :=
  if s.mustHalt from_ then s.enterHalting else s.enterFlush

/-- A stop start (R50). -/
def State.stopStart (s : State) (epoch : Nat) (x : Site) : State :=
  (s.newStop epoch x).takeStance s.stop.path

/-- A cause starts a stop at this node (R51). -/
def State.startStop (s : State) (c : Cause) (place sheet : Nat) : State :=
  let x := s.siteOf c place sheet
  ((s.ownCause c place sheet).stopStart (nextEpoch s.stop.epoch) x).jamcall x

/-- Raise a cause: by the path state it starts a stop, joins one, or is dropped (R45, R51, R52). -/
def State.raise (s : State) (c : Cause) (place sheet : Nat) : State :=
  if c.takesEffect s.stop.path then
    match s.stop.path with
    | .idle | .run => s.startStop c place sheet
    | .flush | .halting => s.joinStop c place sheet
    | .unconfigured | .halted | .clearing | .ready => s
  else s

/-- A cause that takes effect where the command found the node, in a node that an earlier cause of the
command has begun or joined a stop of and that has come to rest at once: the second joins (R52, R108;
log 40). -/
def Cause.joinsAtRest (c : Cause) (from_ p : PathState) : Bool :=
  c.takesEffect from_ && c.takesEffect .halting && (p == .halted || p == .clearing)

/-- Raise a cause in a command that found the node in `from_` (R52): as `State.raise` does, and where
an earlier cause of the same command has brought the node to rest, the cause joins the stop. -/
def State.raiseFrom (s : State) (from_ : PathState) (c : Cause) (place sheet : Nat) : State :=
  if c.joinsAtRest from_ s.stop.path then s.joinSite c place sheet else s.raise c place sheet

/-- A frame without a place is lost and the transmit overflow flag is set (R181). -/
def State.loseFrame (s : State) : State := s.withLine { s.line with txOverflow := true }

/-- Queue a frame that is placed at the moment its block queues it: without a place it is lost, the
transmit overflow flag is set and LINE is raised with place 2 (R181). `from_` is the path state in
which the command found the node. -/
def State.queueFrame (s : State) (from_ : PathState) (f : Frame) : State :=
  if s.line.open f.kind.cls then s.push f else s.loseFrame.raiseFrom from_ .line 2 0

/-- The front frame of the receive queue, if it is of kind `k`, and the state without it (R182). No
frame is taken in UNCONFIGURED (R45). -/
def State.takeFrame (s : State) (k : FrameKind) : Option (Frame × State) :=
  match s.line.rx with
  | [] => none
  | f :: rest =>
    if s.configured && f.kind == k then some (f, s.withLine { s.line with rx := rest }) else none

/-! ### Feeding's tests -/

/-- A rise request of a zone that is IDLE or BRAKED with no rise pending (R141). -/
def State.wantZone (s : State) (z : ZoneId) : State :=
  if (s.zone z).atRest && !(s.zone z).risePending then s.riseZone z else s

/-- The rise requests of the feed unit at an issue test in RUN with a page available (R141). The
issue itself is the command ISSUE, which is due when R136 holds (log 31). -/
def State.feedTest (s : State) : State :=
  if s.isKind .feed && s.stop.path == .run && s.feed.candidate.isSome then
    ((s.wantZone .z1).wantZone .z2).wantZone .z3
  else s

/-- The rest timer returns to 0 while one of the three collections is non-empty (R146). -/
def FeedUnit.restTest (f : FeedUnit) : FeedUnit :=
  if f.allEmpty then f else { f with restTimer := 0, restQueued := false }

/-- A node in IDLE that a PASS has raised falls when it is empty again (R147). -/
def State.idleFallTest (s : State) : State :=
  if s.stop.path = .idle ∧ s.track.idlePass = true ∧ s.track.table = [] ∧ s.track.arrivals = [] ∧
      s.track.orphan = none then
    ((s.fallAll).withTrack { s.track with idlePass := false }).releaseChain
  else s

/-- The tests made whenever an entry leaves the segment table or the arrival queue or an orphan
record ends (R71, R141, R147). -/
def State.leftTests (s : State) : State := s.drainTest.idleFallTest.feedTest

/-! ### Entries by sheet ID -/

/-- The segment-table entry of a sheet. -/
def State.entryOf (s : State) (sheet : Nat) : Option Entry :=
  s.track.table.find? fun e => e.record.sheet == sheet

/-- Rewrite the entries of a sheet; the table holds at most one (R4). -/
def State.mapEntry (s : State) (sheet : Nat) (f : Entry → Entry) : State :=
  s.withTable (s.track.table.map fun e => if e.record.sheet == sheet then f e else e)

/-- Rewrite a record. -/
def Entry.mapRecord (e : Entry) (f : SheetRecord → SheetRecord) : Entry :=
  { e with record := f e.record }

end Sys2Proof.Machine
end

