-- ==== Sys2Proof/Machine/Drive.lean ====
section
/-! DEFINITION. The drive chain and the zones: DRDY (R80 to R82), profile steps (R85, R86) and encoder silence (R88). -/

namespace Sys2Proof.Machine

/-- The pin DRDY takes a level. -/
def State.setDrdy (s : State) (high : Bool) : State := s.withPins { s.pins with drdy := high }

/-- A zone in use is RISING, RUNNING or FALLING. -/
def State.anyMoving (s : State) : Bool := !s.allRest

/-- DRDY_PRESENT (R80), as the 1 ms time base reads it (R81; log 55): in WAIT the chain goes ON and every
pending rise begins. The ready timer keeps its value (DESIGN CHOICE, log 56). -/
def execDrdyPresent (s : State) : Host.Outcome State Fault Refusal :=
  let s1 := s.setDrdy true
  if s.chain.state = .wait then
    done s ((s1.withChain { state := .on, readyTimer := s.chain.readyTimer }).beginRises).feedTest
  else .next s1

/-- Every pending rise is withdrawn. -/
def State.withdrawRises (s : State) : State := s.mapZones fun _ x => { x with risePending := false }

/-- The drive chain fails: FAILED, DRIVE with place 0 (R80, R82), and the tests of R74 and R82, which
the withdrawn rises and braked zones may meet (log 34). -/
def State.chainFails (s : State) : State :=
  ((s.withChain { s.chain with state := .failed }).raise .drive 0 0).zonesChanged

/-- The ready timer runs (R80). -/
def State.readyRuns (s : State) : Bool := s.chain.state == .wait && s.anyRisePending

/-- READY_TIMER_EXPIRY (R80). Taken whenever the ready timer runs (log 2). The timer then holds 100 ms
until the chain is OFF (DESIGN CHOICE, log 56). -/
def execReadyTimerExpiry (s : State) : Host.Outcome State Fault Refusal :=
  if s.readyRuns then
    done s ((s.withdrawRises.withChain { s.chain with readyTimer := readyMs }).chainFails)
  else .next s

/-- Brake the zones in use that move (R82). -/
def State.brakeMoving (s : State) : State :=
  s.mapZones fun z x => if s.inUse z && !x.atRest then x.brake else x

/-- DRDY_LOST (R80, R82), as the 1 ms time base reads it (R81; log 55). In the WAIT that follows, the
ready timer reads 0 before a rise becomes pending (DESIGN CHOICE, log 56). -/
def execDrdyLost (s : State) : Host.Outcome State Fault Refusal :=
  let s1 := s.setDrdy false
  if s.chain.state = .on then
    if s.anyMoving then done s s1.brakeMoving.chainFails
    else done s (s1.withChain { state := .wait, readyTimer := 0 })
  else .next s1

/-- One profile step of a zone (R85, R86). -/
def State.stepZone (s : State) (z : ZoneId) (x : Zone) : Zone :=
  let c := s.zoneCfg z
  let p := x.position + 1
  match x.state with
  | .rising =>
    { x with
      state := if c.riseEnd ≤ p then .running else .rising
      position := p, output := s.profileAt p, stepTimer := 0 }
  | .falling =>
    if x.position < c.fallEnd then
      { x with position := p, output := min (s.profileAt p) x.output, stepTimer := 0 }
    else { x with state := .idle, output := 0, stepTimer := 0 }
  | .idle | .running | .braked => x

/-- The step timer of a zone runs: RISING or FALLING (R84). -/
def State.stepRuns (s : State) (z : ZoneId) : Bool :=
  s.inUse z && ((s.zone z).state == .rising || (s.zone z).state == .falling)

/-- ZONE_STEP (R85, R86). Taken whenever the step timer runs (log 2). -/
def execZoneStep (z : ZoneId) (s : State) : Host.Outcome State Fault Refusal :=
  if s.stepRuns z then
    let x := s.stepZone z (s.zone z)
    let s1 := (s.setZone z x).zonesChanged
    done s (if x.state = .running then s1.feedTest else s1)
  else .next s

/-- The silence timer of a zone runs: RISING or RUNNING, and no DRIVE raised since it restarted (R88). -/
def State.silenceRuns (s : State) (z : ZoneId) : Bool :=
  s.inUse z && ((s.zone z).state == .rising || (s.zone z).state == .running) &&
  !(s.zone z).silenceStopped

/-- The silence time of a zone, 2^k ms (R88). -/
def State.silenceTime (s : State) (z : ZoneId) : Nat := 2 ^ (s.zoneCfg z).silenceExp

/-- The silence timer of a zone stands at the silence time with its DRIVE not yet raised (R88): also in
a zone that something else of the same ms has brought to fall or to rest. -/
def State.silenceReached (s : State) (z : ZoneId) : Bool :=
  s.inUse z && !(s.zone z).silenceStopped && decide (s.silenceTime z ≤ (s.zone z).silenceTimer)

/-- The silence timer stops at the silence time until the zone's next counted edge or rise (R88). -/
def State.stopSilence (s : State) (z : ZoneId) : State :=
  s.setZone z { s.zone z with silenceTimer := s.silenceTime z, silenceStopped := true }

/-- A zone's silence in a command that found the node in `from_`: its timer stops and DRIVE is raised
(R88). -/
def State.silence (s : State) (from_ : PathState) (z : ZoneId) : State :=
  (s.stopSilence z).raiseFrom from_ .drive z.num 0

/-- The zones whose silences are taken with that of `z`: `z` first, and then each other zone whose silence
timer has reached its time too. -/
def State.silentWith (s : State) (z : ZoneId) : List ZoneId :=
  z :: ZoneId.all.filter fun y => y != z && s.silenceReached y

/-- SILENCE_TIMEOUT (R88). Taken whenever the silence timer runs (log 2), or stands at its time. Silences
that come together are the causes of one command, so each takes effect where the first does, and the later
ones join its stop (R52; log 40). The path state that the command finds decides (R45). -/
def execSilenceTimeout (z : ZoneId) (s : State) : Host.Outcome State Fault Refusal :=
  if s.silenceRuns z || s.silenceReached z then
    done s ((s.silentWith z).foldl (fun t y => t.silence s.stop.path y) s)
  else .next s

end Sys2Proof.Machine
end

