-- ==== Sys2Proof/Machine/Line.lean ====
section
/-! DEFINITION. The line port: sending (R178, R179), the node's own frames (R182) and receiving (R177). -/

namespace Sys2Proof.Machine

/-- FRAME_TRANSMIT_START (R178): the frame of the lowest class, and within it the oldest, is sent. That
the line is idle is the sender's to say (log 30). -/
def execFrameTransmitStart (s : State) : Host.Outcome State Fault Refusal :=
  if s.configured && s.line.sending.isNone then
    .next (s.withLine { s.line with sending := chooseFrame s.line.tx })
  else .next s

/-- The node stops driving the line; the frame stays in the transmit queue. -/
def LineUnit.release (l : LineUnit) : LineUnit := { l with sending := none }

/-- ARBITRATION_LOST (R178): the node stops driving; nothing is counted. -/
def execArbitrationLost (s : State) : Host.Outcome State Fault Refusal :=
  .next (s.withLine s.line.release)

/-- The consecutive error count stands at 16: LINE, the error-limit flag, and the count returns to 0
(R179). The table has a row for this, and what would change the count comes after it (log 50). -/
def State.limitTest (s : State) : State :=
  if errorLimit ≤ s.line.errorRun then
    (s.withLine { s.line with limitFlag := true, errorRun := 0 }).raise .line 3 0
  else s

/-- A transmit error is counted (R179). -/
def LineUnit.countError (l : LineUnit) : LineUnit :=
  { l.release with
    txErrors := satAdd counterTop l.txErrors 1, errorRun := min errorLimit (l.errorRun + 1) }

/-- TRANSMIT_ERROR (R179). -/
def execTransmitError (s : State) : Host.Outcome State Fault Refusal :=
  match s.line.sending with
  | none => .next s
  | some _ => done s (s.limitTest.withLine s.limitTest.line.countError)

/-- ERROR_LIMIT_REACHED (R179). -/
def execErrorLimitReached (s : State) : Host.Outcome State Fault Refusal :=
  if errorLimit ≤ s.line.errorRun then done s s.limitTest else .next s

/-- The receive queue is full: the frame is dropped, the receive overflow flag is set and LINE is
raised with place 1 (R177, R182), in a command that found the node in `from_`. -/
def State.rxOverflows (s : State) (from_ : PathState) : State :=
  (s.withLine { s.line with rxOverflow := true }).raiseFrom from_ .line 1 0

/-- A frame enters the receive queue if it has room. -/
def State.receive (s : State) (from_ : PathState) (f : Frame) : State :=
  if s.line.rx.length < rxCap then s.withLine { s.line with rx := s.line.rx ++ [f] }
  else s.rxOverflows from_

/-- The node's own GO is dropped at its full receive queue: in IDLE the start mark is cleared (R145),
and in SENT the plan's GO is to be queued again (R163; log 24). -/
def State.goDropped (s : State) : State :=
  if !s.isKind .feed then s
  else if s.stop.path = .idle then s.withFeed { s.feed with startMark := false }
  else if s.plan.phase = .sent then s.withPlan { s.plan with goAgain := true }
  else s

/-- A frame has been sent (R179, R182): it leaves the transmit queue and enters the receive queue. -/
def State.sent (s : State) (from_ : PathState) (f : Frame) : State :=
  let s1 := s.withLine { s.line.release with tx := s.line.tx.erase f, errorRun := 0 }
  if s1.line.rx.length < rxCap then s1.receive from_ f
  else if f.kind = .go then (s1.rxOverflows from_).goDropped
  else s1.rxOverflows from_

/-- FRAME_SENT (R179). -/
def execFrameSent (s : State) : Host.Outcome State Fault Refusal :=
  match s.line.sending with
  | none => .next s
  | some f => done s (s.limitTest.sent s.stop.path f)

/-- The node reads another node's frame: it is configured and does not itself send (R177). -/
def State.listens (s : State) : Bool := s.configured && s.line.sending.isNone

/-- A CRC error is counted (R177, case 1). -/
def State.countCrc (s : State) : State :=
  s.withLine { s.line with crcErrors := satAdd counterTop s.line.crcErrors 1 }

/-- FRAME_RECEIVED (R177). -/
def execFrameReceived (bits : List Bool) (s : State) : Host.Outcome State Fault Refusal :=
  if s.listens then
    match readFrame bits with
    | .crcError => .next s.countCrc
    | .stale => .next s.countStale
    | .frame f => done s (s.receive s.stop.path f)
  else .next s

/-- FRAME_CUT_SHORT (R177, case 1). -/
def execFrameCutShort (s : State) : Host.Outcome State Fault Refusal :=
  if s.listens then .next s.countCrc else .next s

end Sys2Proof.Machine
end

