-- ==== Sys2Proof/Machine/ConfigStore.lean ====
section
/-! DEFINITION. The configuration store: CONFIG WRITE and CONFIG READ of every item (12.1, R185) and the checks of START (R186). -/

namespace Sys2Proof.Machine

/-! ### Values in range -/

/-- A number from `lo` to `hi`. -/
def ranged (lo hi : Nat) : ConfigValue → Option Nat
  | .number n => if (lo : Int) ≤ n ∧ n ≤ (hi : Int) then some n.toNat else none
  | _ => none

/-- A choice of two. -/
def flagOf : ConfigValue → Option Bool
  | .flag b => some b
  | _ => none

/-- A station 1 to 4. -/
def stationOf (v : ConfigValue) : Option StationId := (ranged 1 4 v).bind StationId.ofNum

/-- A list of segment IDs 1 to 15, none twice, of at most `most` (log 7). -/
def segmentsOf (most : Nat) : ConfigValue → Option (List Nat)
  | .segments l =>
    if l.all (fun g => 1 ≤ g && g ≤ 15) && decide l.Nodup && decide (l.length ≤ most) then some l
    else none
  | _ => none

/-- A route of the leg map, or none to leave the leg out. The next segment is 1 to 15. -/
def routeOf : ConfigValue → Option (Option Route)
  | .route none => some none
  | .route (some r) => if 1 ≤ r.next ∧ r.next ≤ 15 then some (some r) else none
  | _ => none

/-- A leg that the leg map may name: a sink is 1 to 15. -/
def legOk : Leg → Bool
  | .purge | .duplex => true
  | .sink d => 1 ≤ d && d ≤ 15

/-- An index 1 to 4 of a station. -/
def stationIx (k : Nat) : Option (Fin 4) := (StationId.ofNum k).map StationId.ix

/-- An index 1 to 3 of a zone. -/
def zoneIx (z : Nat) : Option (Fin 3) := (ZoneId.ofNum z).map ZoneId.ix

/-- An index 1 or 2. -/
def duoIx : Nat → Option (Fin 2)
  | 1 => some 0
  | 2 => some 1
  | _ => none

/-- A media class 0 to 3. -/
def classIx (m : Nat) : Option (Fin 4) := if h : m < 4 then some ⟨m, h⟩ else none

/-- An index 1 to 4 of an input. -/
def inputIx (i : Nat) : Option (Fin 4) := stationIx i

/-- An index 1 to 8 of a slot. -/
def slotIx (n : Nat) : Option (Fin 8) :=
  if h : 1 ≤ n ∧ n ≤ 8 then some ⟨n - 1, by omega⟩ else none

/-! ### Writing -/

/-- Rewrite the items of one station. -/
def editStation (c : Configuration) (k : Nat) (f : StationCfg → Option StationCfg) :
    Option Configuration :=
  (stationIx k).bind fun i =>
    (f (c.stations.get i)).map fun x => { c with stations := c.stations.set i x }

/-- Rewrite the items of one zone. -/
def editZone (c : Configuration) (z : Nat) (f : ZoneCfg → Option ZoneCfg) : Option Configuration :=
  (zoneIx z).bind fun i => (f (c.zones.get i)).map fun x => { c with zones := c.zones.set i x }

/-- Rewrite the items of one pulse output. -/
def editPulse (c : Configuration) (p : Nat) (f : PulseCfg → Option PulseCfg) :
    Option Configuration :=
  (duoIx p).bind fun i => (f (c.pulses.get i)).map fun x => { c with pulses := c.pulses.set i x }

/-- Rewrite the items of one upstream segment. -/
def editUpstream (c : Configuration) (n : Nat) (f : Upstream → Option Upstream) :
    Option Configuration :=
  (duoIx n).bind fun i =>
    (f (c.upstream.get i)).map fun x => { c with upstream := c.upstream.set i x }

/-- Rewrite the windows of one media class. -/
def editWindow (c : Configuration) (m : Nat) (f : Window → Option Window) : Option Configuration :=
  (classIx m).bind fun i =>
    (f (c.windows.get i)).map fun x => { c with windows := c.windows.set i x }

/-- Rewrite the items of one slot. -/
def editSlot (c : Configuration) (n : Nat) (f : SlotCfg → Option SlotCfg) : Option Configuration :=
  (slotIx n).bind fun i =>
    (f (c.slots.get i)).map fun x => { c with slots := c.slots.set i.val x i.isLt }

/-- Write the leg map's entry for a leg (R3). -/
def writeRoute (c : Configuration) (leg : Leg) (r : Option Route) : Configuration :=
  let rest := c.legMap.filter fun row => row.leg != leg
  { c with legMap := match r with
      | some r => rest ++ [{ leg := leg, route := r }]
      | none => rest }

/-- The configuration after a write; none where the item, its index or the value is refused with
RANGE (R185). An item that is a station's number takes 1 to 4, whatever stations are present, the pace
station among them (R137; DESIGN CHOICE, log 57). -/
def writeItem (c : Configuration) (item : ConfigItem) (v : ConfigValue) : Option Configuration :=
  match item with
  | .segment => (ranged 1 15 v).map fun n => { c with segment := n }
  | .kind => match v with
    | .kind (some k) => some { c with kind := some k }
    | _ => none
  | .attn => match v with
    | .attn p => some { c with attn := p }
    | _ => none
  | .stationPresent k => editStation c k fun x => (flagOf v).map fun b => { x with present := b }
  | .stationPolarity k => editStation c k fun x => match v with
    | .polarity p => some { x with polarity := p }
    | _ => none
  | .stationZone k => editStation c k fun x =>
    ((ranged 1 3 v).bind ZoneId.ofNum).map fun z => { x with zone := z }
  | .stationFilter k => editStation c k fun x => (ranged 0 15 v).map fun n => { x with filter := n }
  | .stationSpacing k =>
    if k = 1 then none
    else editStation c k fun x => (ranged 1 20000 v).map fun n => { x with spacing := n }
  | .lengthCheck k => editStation c k fun x => (flagOf v).map fun b => { x with lengthCheck := b }
  | .stationGain k => editStation c k fun x =>
    (ranged 0 131071 v).map fun n => { x with gain := n }
  | .stationOffset k => editStation c k fun x => match v with
    | .number n => if -32768 ≤ n ∧ n ≤ 32767 then some { x with offset := n } else none
    | _ => none
  | .passDistance => (ranged 0 2000 v).map fun n => { c with passDistance := n }
  | .orphanHold => (ranged 0 1023 v).map fun n => { c with orphanHold := n }
  | .upstreamSegment i => editUpstream c i fun x =>
    (ranged 0 15 v).map fun n => { x with segment := n }
  | .linkDistance i => editUpstream c i fun x => (ranged 1 20000 v).map fun n => { x with link := n }
  | .pickDistance => (ranged 1 20000 v).map fun n => { c with pickDistance := n }
  | .nextSegment => (ranged 0 15 v).map fun n => { c with nextSegment := n }
  | .route leg => if legOk leg then (routeOf v).map (writeRoute c leg) else none
  | .imageStation => (stationOf v).map fun k => { c with imageStation := k }
  | .fixStation => (stationOf v).map fun k => { c with fixStation := k }
  | .turnStation => (stationOf v).map fun k => { c with turnStation := k }
  | .windowLate m => editWindow c m fun x => (ranged 0 1023 v).map fun n => { x with late := n }
  | .windowStall m => editWindow c m fun x => (ranged 0 1023 v).map fun n => { x with stall := n }
  | .windowTolerance m => editWindow c m fun x =>
    (ranged 0 1023 v).map fun n => { x with tolerance := n }
  | .gapMin => (ranged 0 4095 v).map fun n => { c with gapMin := n }
  | .pitch z => editZone c z fun x => (ranged 1 65535 v).map fun n => { x with pitch := n }
  | .edgeMode z => editZone c z fun x => match v with
    | .edgeMode m => some { x with mode := m }
    | _ => none
  | .riseStart z => editZone c z fun x => (ranged 0 255 v).map fun n => { x with riseStart := n }
  | .riseEnd z => editZone c z fun x => (ranged 0 255 v).map fun n => { x with riseEnd := n }
  | .fallStart z => editZone c z fun x => (ranged 0 255 v).map fun n => { x with fallStart := n }
  | .fallEnd z => editZone c z fun x => (ranged 0 255 v).map fun n => { x with fallEnd := n }
  | .stepInterval z => editZone c z fun x => (ranged 1 16 v).map fun n => { x with stepMs := n }
  | .silenceExp z => editZone c z fun x => (ranged 2 8 v).map fun n => { x with silenceExp := n }
  | .profile e =>
    if e < 256 then
      (ranged 0 4095 v).map fun n => { c with profile := c.profile.setIfInBounds e n }
    else none
  | .gateSet => (stationOf v).map fun k => { c with gateSet := k }
  | .gateStation => (stationOf v).map fun k => { c with gateStation := k }
  | .gateDistance => (ranged 1 20000 v).map fun n => { c with gateDistance := n }
  | .gateGuard => (ranged 0 1023 v).map fun n => { c with gateGuard := n }
  | .pulseSource p => editPulse c p fun x => match v with
    | .source t => some { x with source := t }
    | _ => none
  | .pulseEdge p => editPulse c p fun x => match v with
    | .edge e => some { x with edge := e }
    | _ => none
  | .pulseQualifier p => editPulse c p fun x => match v with
    | .qualifier q => some { x with qualifier := q }
    | _ => none
  | .pulseA1 p => editPulse c p fun x => (ranged 0 65535 v).map fun n => { x with a1 := n }
  | .pulseB1 p => editPulse c p fun x => (ranged 1 255 v).map fun n => { x with b1 := n }
  | .pulseA2 p => editPulse c p fun x => (ranged 0 65535 v).map fun n => { x with a2 := n }
  | .pulseB2 p => editPulse c p fun x => (ranged 1 255 v).map fun n => { x with b2 := n }
  | .pickWidth => (ranged 1 255 v).map fun n => { c with pickWidth := n }
  | .inputTag i =>
    (inputIx i).bind fun ix =>
      (ranged 0 63 v).map fun n => { c with inputTags := c.inputTags.set ix n }
  | .slotTag n => editSlot c n fun x => (ranged 0 63 v).map fun t => { x with tag := t }
  | .slotInvert n => editSlot c n fun x => (flagOf v).map fun b => { x with invert := b }
  | .slotPanel n => editSlot c n fun x => (flagOf v).map fun b => { x with panel := b }
  | .slotStop n => editSlot c n fun x => (flagOf v).map fun b => { x with stop := b }
  | .slotTray n => editSlot c n fun x => match v with
    | .classes m => some { x with tray := m }
    | _ => none
  | .slotForward n => editSlot c n fun x => match v with
    | .forward f => some { x with forward := f }
    | _ => none
  | .stopInvert => (flagOf v).map fun b => { c with stopInvert := b }
  | .supplySelect => match v with
    | .number n => if 0 ≤ n ∧ n ≤ 3 then some { c with supplySelect := two n.toNat } else none
    | _ => none
  | .roster => (segmentsOf 15 v).map fun l => { c with roster := l }
  | .preImage => (segmentsOf 3 v).map fun l => { c with preImage := l }
  | .purgeSink => (ranged 1 15 v).map fun n => { c with purgeSink := n }
  | .paceStation => (stationOf v).map fun k => { c with paceStation := k }
  | .paceGap => (ranged 0 4095 v).map fun n => { c with paceGap := n }
  | .restDelay =>
    ((ranged 100 25500 v).filter fun n => n % 100 == 0).map fun n => { c with restDelay := n }
  | .pageLow => (ranged 0 15 v).map fun n => { c with pageLow := n }
  | .unknown => none

/-! ### Reading -/

/-- A number as an item's value. -/
def numVal (n : Nat) : ConfigValue := .number n

/-- An item's value; none for an unknown selector or index (R185). -/
def readItem (c : Configuration) (item : ConfigItem) : Option ConfigValue :=
  let station (k : Nat) (f : StationCfg → ConfigValue) :=
    (stationIx k).map fun i => f (c.stations.get i)
  let zone (z : Nat) (f : ZoneCfg → ConfigValue) := (zoneIx z).map fun i => f (c.zones.get i)
  let pulse (p : Nat) (f : PulseCfg → ConfigValue) := (duoIx p).map fun i => f (c.pulses.get i)
  let window (m : Nat) (f : Window → Nat) := (classIx m).map fun i => numVal (f (c.windows.get i))
  let slot (n : Nat) (f : SlotCfg → ConfigValue) := (slotIx n).map fun i => f (c.slots.get i)
  match item with
  | .segment => some (numVal c.segment)
  | .kind => some (.kind c.kind)
  | .attn => some (.attn c.attn)
  | .stationPresent k => station k fun x => .flag x.present
  | .stationPolarity k => station k fun x => .polarity x.polarity
  | .stationZone k => station k fun x => numVal x.zone.num
  | .stationFilter k => station k fun x => numVal x.filter
  | .stationSpacing k => if k = 1 then none else station k fun x => numVal x.spacing
  | .lengthCheck k => station k fun x => .flag x.lengthCheck
  | .stationGain k => station k fun x => numVal x.gain
  | .stationOffset k => station k fun x => .number x.offset
  | .passDistance => some (numVal c.passDistance)
  | .orphanHold => some (numVal c.orphanHold)
  | .upstreamSegment i => (duoIx i).map fun i => numVal (c.upstream.get i).segment
  | .linkDistance i => (duoIx i).map fun i => numVal (c.upstream.get i).link
  | .pickDistance => some (numVal c.pickDistance)
  | .nextSegment => some (numVal c.nextSegment)
  | .route leg =>
    if legOk leg then
      some (.route ((c.legMap.find? fun row => row.leg == leg).map LegRow.route))
    else none
  | .imageStation => some (numVal c.imageStation.num)
  | .fixStation => some (numVal c.fixStation.num)
  | .turnStation => some (numVal c.turnStation.num)
  | .windowLate m => window m Window.late
  | .windowStall m => window m Window.stall
  | .windowTolerance m => window m Window.tolerance
  | .gapMin => some (numVal c.gapMin)
  | .pitch z => zone z fun x => numVal x.pitch
  | .edgeMode z => zone z fun x => .edgeMode x.mode
  | .riseStart z => zone z fun x => numVal x.riseStart
  | .riseEnd z => zone z fun x => numVal x.riseEnd
  | .fallStart z => zone z fun x => numVal x.fallStart
  | .fallEnd z => zone z fun x => numVal x.fallEnd
  | .stepInterval z => zone z fun x => numVal x.stepMs
  | .silenceExp z => zone z fun x => numVal x.silenceExp
  | .profile e => if e < 256 then some (numVal ((c.profile[e]?).getD 0)) else none
  | .gateSet => some (numVal c.gateSet.num)
  | .gateStation => some (numVal c.gateStation.num)
  | .gateDistance => some (numVal c.gateDistance)
  | .gateGuard => some (numVal c.gateGuard)
  | .pulseSource p => pulse p fun x => .source x.source
  | .pulseEdge p => pulse p fun x => .edge x.edge
  | .pulseQualifier p => pulse p fun x => .qualifier x.qualifier
  | .pulseA1 p => pulse p fun x => numVal x.a1
  | .pulseB1 p => pulse p fun x => numVal x.b1
  | .pulseA2 p => pulse p fun x => numVal x.a2
  | .pulseB2 p => pulse p fun x => numVal x.b2
  | .pickWidth => some (numVal c.pickWidth)
  | .inputTag i => (inputIx i).map fun i => numVal (c.inputTags.get i)
  | .slotTag n => slot n fun x => numVal x.tag
  | .slotInvert n => slot n fun x => .flag x.invert
  | .slotPanel n => slot n fun x => .flag x.panel
  | .slotStop n => slot n fun x => .flag x.stop
  | .slotTray n => slot n fun x => .classes x.tray
  | .slotForward n => slot n fun x => .forward x.forward
  | .stopInvert => some (.flag c.stopInvert)
  | .supplySelect => some (numVal c.supplySelect.val)
  | .roster => some (.segments c.roster)
  | .preImage => some (.segments c.preImage)
  | .purgeSink => some (numVal c.purgeSink)
  | .paceStation => some (numVal c.paceStation.num)
  | .paceGap => some (numVal c.paceGap)
  | .restDelay => some (numVal c.restDelay)
  | .pageLow => some (numVal c.pageLow)
  | .unknown => none

/-! ### The checks of START (R186) -/

/-- Station `k` is present. -/
def cfgPresent (c : Configuration) (k : StationId) : Bool := (c.stations.get k.ix).present

/-- A present station names the zone. The zone item of a station that is not present names none
(DEDUCED, log 47). -/
def cfgNames (c : Configuration) (z : ZoneId) : Bool :=
  StationId.all.any fun k => cfgPresent c k && (c.stations.get k.ix).zone == z

/-- Check 2 fails: no station is present. -/
def noStation (c : Configuration) : Bool := StationId.all.all fun k => !cfgPresent c k

/-- Check 3 fails: a station is present whose forerunner is not. -/
def stationsBroken (c : Configuration) : Bool :=
  (cfgPresent c .s2 && !cfgPresent c .s1) || (cfgPresent c .s3 && !cfgPresent c .s2) ||
  (cfgPresent c .s4 && !cfgPresent c .s3)

/-- Check 4 fails: a zone named by a station has pitch 0. -/
def pitchMissing (c : Configuration) : Bool :=
  ZoneId.all.any fun z => cfgNames c z && (c.zones.get z.ix).pitch == 0

/-- Check 5 fails: a zone named by a station has a region with start above end. -/
def regionBroken (c : Configuration) : Bool :=
  ZoneId.all.any fun z =>
    let x := c.zones.get z.ix
    cfgNames c z && (decide (x.riseEnd < x.riseStart) || decide (x.fallEnd < x.fallStart))

/-- The leg map has an entry for a leg. -/
def maps (c : Configuration) (leg : Leg) : Bool := c.legMap.any fun row => row.leg == leg

/-- The node is a sink. -/
def cfgSink (c : Configuration) : Bool :=
  match c.kind with
  | some k => k.isSink
  | none => false

/-- Check 6 fails: a node that is not a sink has no way out, or a leg map without a PURGE entry. A leg
that is not mapped is covered by that entry. -/
def routeMissing (c : Configuration) : Bool :=
  (!cfgSink c && c.nextSegment == 0 && c.legMap.isEmpty) ||
  (!c.legMap.isEmpty && !maps c .purge)

/-- Check 7 fails: gate position B is used and the gate-set or gate station is not present. -/
def gateBroken (c : Configuration) : Bool :=
  (c.legMap.any fun row => row.route.gate == .b) &&
  !(cfgPresent c c.gateSet && cfgPresent c c.gateStation)

/-- Check 8 fails: at FEED, the roster lacks the own segment ID or the purge sink. -/
def rosterBroken (c : Configuration) : Bool :=
  c.kind == some .feed && !(c.roster.contains c.segment && c.roster.contains c.purgeSink)

/-- Check 9 fails: at IMAGE, FIX or TURN, the kind's station is not present. -/
def sideStationMissing (c : Configuration) : Bool :=
  (c.kind == some .image && !cfgPresent c c.imageStation) ||
  (c.kind == some .fix && !cfgPresent c c.fixStation) ||
  (c.kind == some .turn && !cfgPresent c c.turnStation)

/-- A pulse output's trigger and qualifier do not agree (R94). -/
def pulseBroken (c : Configuration) (p : PulseId) : Bool :=
  let x := c.pulses.get p.ix
  match x.source with
  | .unused => p == .p1 && c.kind == some .feed
  | .station k =>
    x.qualifier == .pick || !cfgPresent c k || (p == .p1 && c.kind == some .feed)
  | .issue => x.qualifier != .pick || p == .p2 || c.kind != some .feed

/-- Check 10 fails. -/
def pulsesBroken (c : Configuration) : Bool :=
  pulseBroken c .p1 || pulseBroken c .p2 ||
  (c.kind == some .image && c.pulses.a.qualifier == .release && c.pulses.b.qualifier == .release)

/-- Check 11 fails: a tray mask at a node that is not FEED. -/
def trayBroken (c : Configuration) : Bool :=
  c.kind != some .feed &&
  c.slots.toList.any fun x => x.tray.a || x.tray.b || x.tray.c || x.tray.d

/-- The number of the first check of START that fails (R186). -/
def failedCheck (c : Configuration) : Option Nat :=
  if c.segment = 0 ∨ c.kind = none then some 1
  else if noStation c then some 2
  else if stationsBroken c then some 3
  else if pitchMissing c then some 4
  else if regionBroken c then some 5
  else if routeMissing c then some 6
  else if gateBroken c then some 7
  else if rosterBroken c then some 8
  else if sideStationMissing c then some 9
  else if pulsesBroken c then some 10
  else if trayBroken c then some 11
  else none

end Sys2Proof.Machine
end

