-- ==== Sys2Proof/Machine/Route.lean ====
section
/-! DEFINITION. The route and pulse unit: gate claims and their service (R89 to R93), pulse triggers and pulse starts (R94 to R99), and the commands GATE_GUARD_FAIL, PULSE_DELAY_COMPLETE and PULSE_WIDTH_END. -/

namespace Sys2Proof.Machine

/-! ### The gate -/

/-- The front claim becomes SET, and with it a claim behind that requires the same position (R91). -/
def setFront : List Claim → List Claim
  | [] => []
  | c :: rest =>
    { c with set := true } :: rest.map fun d => if d.pos == c.pos then { d with set := true } else d

/-- The gate may move: the gate station is uncovered in RUN, FLUSH or HALTING (R91). -/
def State.gateFree (s : State) : Bool :=
  !(s.station s.cfg.gateStation).covered && s.stop.path.moves

/-- Serve the front claim (R91). A claim that requires the gate's own position is SET without a
movement, in every path state (log 33). -/
def State.gateService (s : State) : State :=
  match s.gate.claims with
  | [] => s
  | c :: rest =>
    if c.set then s
    else if c.pos = s.gate.pos ∨ s.gateFree = true then
      s.withGate { pos := c.pos, claims := setFront (c :: rest) }
    else s

/-- A sheet's claim leaves the list, and the claim behind it is served (R92). -/
def State.leaveClaim (s : State) (sheet : Nat) : State :=
  if s.gate.claims.any fun c => c.sheet == sheet then
    (s.withGate { s.gate with claims := s.gate.claims.filter fun c => c.sheet != sheet }).gateService
  else s

/-- The claim of R90 for an entry: its state by cases 3 and 4. -/
def State.claimFor (s : State) (sheet : Nat) (pos : GatePos) : Claim :=
  { sheet := sheet, pos := pos
    set := match s.gate.claims with
      | [] => pos == s.gate.pos
      | c :: _ => c.set && c.pos == pos }

/-- Make a gate claim for the entry of a sheet at a node with a gate (R90). The service test of R91 is made
with the claim, ahead of the guard test of R93 at the same edge (DESIGN CHOICE, log 45). -/
def State.makeClaim (s : State) (sheet : Nat) : State :=
  match s.entryOf sheet with
  | none => s
  | some e =>
    match s.routeFor e.record.leg with
    | none => s
    | some r =>
      if s.cfg.gateStation.num ≤ e.trail then
        if s.gate.claims.isEmpty && s.gateFree then s.withGate { s.gate with pos := r.gate } else s
      else if claimCap ≤ s.gate.claims.length then s.raise .gate s.cfg.gateStation.num sheet
      else
        ((s.withGate { s.gate with claims := s.gate.claims ++ [s.claimFor sheet r.gate] }).mapEntry
          sheet fun e => { e with claimed := r.next }).gateService

/-- The guard test at a leading edge of a sheet whose claim waits (R93): beyond the gate-set station, and
at it where the gate distance is at or below the guard. -/
def State.guardAtEdge (s : State) (sheet : Nat) : State :=
  if s.gate.claims.any fun c => c.sheet == sheet && s.guardFails c then
    s.raise .gate s.cfg.gateStation.num sheet
  else s

/-- GATE for every WAITING claim whose guard test fails (R93), the front claim first: where two fail, the
first turns the node to HALTING or beyond and the second is dropped there (R45; DESIGN CHOICE, log 15). -/
def State.guardTests (s : State) : State :=
  s.gate.claims.foldl
    (fun s c => if s.guardFails c then s.raise .gate s.cfg.gateStation.num c.sheet else s) s

/-! ### Side changes that a pulse start makes -/

/-- Write the state of the current side. -/
def SheetRecord.setCurrent (r : SheetRecord) (x : SideState) : SheetRecord :=
  match r.current with
  | .one => { r with side1 := x }
  | .two => { r with side2 := some x }

/-- The image rule (R20): the current side of a released sheet whose leading edge has passed the
image station goes from BLANK to UNFIXED; in FLUSH the halt-ahead test follows (R69). -/
def State.imageRule (s : State) (sheet : Nat) : State :=
  match s.entryOf sheet with
  | none => s
  | some e =>
    if s.isKind .image && e.record.released && s.cfg.imageStation.num ≤ e.lead &&
        e.record.currentState == some .blank then
      (s.mapEntry sheet fun e => e.mapRecord fun r => r.setCurrent .unfixed).haltAheadTest
    else s

/-- The released flag of a sheet still in the table is set (R99), and the image rule is applied. -/
def State.releaseSheet (s : State) (sheet : Nat) : State :=
  (s.mapEntry sheet fun e => e.mapRecord fun r => { r with released := true }).imageRule sheet

/-! ### Pulse outputs -/

def State.pulse (s : State) (p : PulseId) : Pulse := s.pulses.get p.ix
def State.pulseCfg (s : State) (p : PulseId) : PulseCfg := s.cfg.pulses.get p.ix

/-- A pulse starts (R96): the delay goes, the width is active, and at the IMAGE node the RELEASE
output sets the released flag (R99). -/
def State.startPulse (s : State) (p : PulseId) (d : PulseDelay) : State :=
  let s1 := s.setPulse p
    { delay := none, active := some { timer := 0, width := d.width, sheet := d.sheet } }
  if s.isKind .image && (s.pulseCfg p).qualifier == .release then s1.releaseSheet d.sheet else s1

/-- A complete delay starts its pulse, or waits while a width is active (R96). -/
def State.completeDelay (s : State) (p : PulseId) : State :=
  match (s.pulse p).delay, (s.pulse p).active with
  | some d, none => if d.target ≤ d.tracker then s.startPulse p d else s
  | _, _ => s

/-- A trigger that no delay stands before makes one pending (R96). A delay of 0 pu is complete at the
trigger. -/
def State.takeTrigger (s : State) (p : PulseId) (a b sheet : Nat) : State :=
  match (s.pulse p).delay with
  | some _ => s.raise .pulse p.num sheet
  | none =>
    (s.setPulse p { s.pulse p with
      delay := some { tracker := 0, target := a, width := b, sheet := sheet } }).completeDelay p

/-- Deal with a trigger (R96). A delay that the tracker has completed starts its pulse ahead of it: the
carry comes before the edge (R28). -/
def State.trigger (s : State) (p : PulseId) (a b sheet : Nat) : State :=
  (s.completeDelay p).takeTrigger p a b sheet

/-- A record meets a qualifier at a station trigger (R95). -/
def SheetRecord.qualifies (r : SheetRecord) : Qualifier → Bool
  | .any => true
  | .release => r.page1.isSome && r.currentState == some .blank && !r.purge
  | .pick => false

/-- Delay and width of a pulse output for a media class (R94, R95). -/
def pulseConstants (c : PulseCfg) (m : Fin 4) : Nat × Nat :=
  if m.val ≤ 1 then (c.a1, c.b1) else (c.a2, c.b2)

/-- The station trigger of one output at a matched edge (R95). -/
def State.stationTrigger (s : State) (p : PulseId) (k : StationId) (edge : TriggerEdge)
    (r : SheetRecord) : State :=
  let c := s.pulseCfg p
  if c.source = .station k ∧ c.edge = edge ∧ s.stop.path.moves = true ∧ r.qualifies c.qualifier = true
  then s.trigger p (pulseConstants c r.media).1 (pulseConstants c r.media).2 r.sheet
  else s

/-- The station triggers of both outputs at an edge matched to a sheet's entry (R95), P1 before P2: the
spec leaves open which PULSE comes first (DESIGN CHOICE, log 45). -/
def State.edgeTriggers (s : State) (k : StationId) (edge : TriggerEdge) (sheet : Nat) : State :=
  match s.entryOf sheet with
  | none => s
  | some e => (s.stationTrigger .p1 k edge e.record).stationTrigger .p2 k edge e.record

/-! ### Commands -/

/-- GATE_GUARD_FAIL (R93): the guard test of a WAITING claim fails and GATE is raised. -/
def execGateGuardFail (index : Nat) (s : State) : Host.Outcome State Fault Refusal :=
  match s.gate.claims[index]? with
  | some c =>
    if s.guardFails c then done s (s.raise .gate s.cfg.gateStation.num c.sheet) else .next s
  | none => .next s

/-- PULSE_DELAY_COMPLETE (R96). -/
def execPulseDelayComplete (p : PulseId) (s : State) : Host.Outcome State Fault Refusal :=
  done s (s.completeDelay p)

/-- The width of a pulse output ends: PO goes low, or a complete delay's pulse starts (R96). -/
def State.endWidth (s : State) (p : PulseId) : State :=
  match (s.pulse p).active with
  | none => s
  | some _ => (s.setPulse p { s.pulse p with active := none }).completeDelay p

/-- PULSE_WIDTH_END (R96): the width timer reaches B. Taken whenever a width is active (log 2). -/
def execPulseWidthEnd (p : PulseId) (s : State) : Host.Outcome State Fault Refusal :=
  done s (s.endWidth p)

end Sys2Proof.Machine
end

