-- ==== Sys2Proof/Machine/Feed.lean ====
section
/-! DEFINITION. The feed unit: issue (R136 to R141), the frames from the sinks (R142 to R144), start and rest of the path (R145 to R147), and dropped pages (R148). -/

namespace Sys2Proof.Machine

/-! ### Issue -/

/-- The next trial sheet ID (R139). -/
def nextSheet (n : Nat) : Nat := if n = 255 then 1 else n + 1

/-- The first trial ID, from `t` on, that no issued entry holds (R139). -/
def allocate (issued : List Issued) : (trials : Nat) → (t : Nat) → Nat
  | 0, t => t
  | k + 1, t => if issued.any fun i => i.sheet == t then allocate issued k (nextSheet t) else t

/-- The sheet ID that the allocator gives next (R139). -/
def FeedUnit.nextId (f : FeedUnit) : Nat := allocate f.issued issuedCap (nextSheet f.lastSheet)

/-- The candidate leaves the queue it stands in (R134, R140). -/
def FeedUnit.removeCandidate (f : FeedUnit) : FeedUnit :=
  if f.resume.any fun d => !f.faulted d.stream then
    { f with resume := f.resume.eraseP fun d => !f.faulted d.stream }
  else { f with pages := f.pages.eraseP fun d => !f.faulted d.stream }

/-- The record made at pick (R1, R140). -/
def PageDesc.pick (d : PageDesc) (sheet : Nat) : SheetRecord :=
  { sheet := sheet, stream := d.stream, page1 := some d.page1, page2 := d.page2, set := d.set
    first := d.first, last := d.last, media := d.media, nominal := d.nominal, measured := none
    dest := d.dest, purge := false, side1 := .blank, side2 := d.page2.map fun _ => .blank
    current := .one, released := false, retry := d.retry }

/-- The IN-FLIGHT issued entry of a page under a sheet ID (R140, R161). -/
def PageDesc.issuedAs (d : PageDesc) (sheet : Nat) : Issued :=
  { sheet := sheet, page := d, compiled := false }

/-- The arrival entry of a pick (R9). -/
def State.pickArrival (s : State) (r : SheetRecord) : Arrival :=
  { record := r, sender := 0, link := 0, linkDistance := s.cfg.pickDistance, unresolved := false }

/-- A pick enters the arrival queue (R9). -/
def State.addPick (s : State) (r : SheetRecord) : State :=
  if s.track.arrivals.length < arrivalCap then
    s.withArrivals (s.track.arrivals ++ [s.pickArrival r])
  else s.raise .queue 2 r.sheet

/-- Issue of a page (R140). -/
def State.issuePage (s : State) (d : PageDesc) : State :=
  let id := s.feed.nextId
  let f := s.feed.removeCandidate
  let f := { f with lastSheet := id, issued := f.issued ++ [d.issuedAs id] }
  ((s.withFeed f.restTest).addPick (d.pick id)).trigger .p1 0 s.cfg.pickWidth id

/-- ISSUE (R140), when the conditions of R136 hold. -/
def execIssue (s : State) : Host.Outcome State Fault Refusal :=
  match s.issuable with
  | some d => done s (s.issuePage d)
  | none => .next s

/-- PACE_GAP_REACHED (R137, R141): the issue test. Its rise requests are made here; the issue, when
R136 holds, is ISSUE, which is then due (log 31). -/
def execPaceGapReached (s : State) : Host.Outcome State Fault Refusal :=
  if s.isKind .feed && s.stop.path == .run && decide (s.cfg.paceGap ≤ s.feed.pace) then
    done s s.feedTest
  else .next s

/-! ### Start and rest -/

/-- START_GO (R145), taken whenever the start test holds (log 31, log 62). -/
def execStartGo (s : State) : Host.Outcome State Fault Refusal :=
  if s.startTest then
    if s.line.open FrameKind.go.cls then
      done s ((s.push (s.frame .go [])).withFeed { s.feed with startMark := true })
    else done s ((s.withLine { s.line with txOverflow := true }).raise .line 2 0)
  else .next s

/-- The rest timer runs (R146). -/
def State.restRuns (s : State) : Bool := s.resting && !s.feed.restQueued

/-- REST_TIMER_EXPIRY (R146). Taken whenever the rest timer runs (log 2). -/
def execRestTimerExpiry (s : State) : Host.Outcome State Fault Refusal :=
  if s.restRuns then
    done s ((s.withFeed { s.feed with restTimer := s.cfg.restDelay, restQueued := true }).queueFrame
      s.stop.path (s.frame .rest []))
  else .next s

/-- Empty the site list and make the own-cause record absent (R59). -/
def State.clearSites (s : State) : State :=
  s.withStop { s.stop with sites := [], overflow := false, own := none }

/-- The node holds no record, no arrival entry and no orphan record (R147). -/
def State.holdsNothing (s : State) : Bool :=
  s.track.table.isEmpty && s.track.arrivals.isEmpty && s.track.orphan.isNone

/-- REST carried out (R147, R97). -/
def State.rest (s : State) : State := ((s.fallAll.clearSites).enter .idle).dropDelays

/-- REST_TAKEN (R147). -/
def execRestTaken (s : State) : Host.Outcome State Fault Refusal :=
  match s.takeFrame .rest with
  | some (_, s1) => if s.stop.path = .run ∧ s.holdsNothing = true then done s s1.rest else done s s1
  | none => .next s

/-! ### Dropped pages -/

/-- A page is dropped (R148). -/
def FeedUnit.dropPage (f : FeedUnit) (d : PageDesc) : FeedUnit :=
  if f.faulted d.stream then f
  else { f with faults := f.faults.set d.stream { faulted := true, first := d.page1 } }

/-! ### DELIVER and SETCLOSE -/

/-- The variant field of a DELIVER. -/
def deliverVariant (f : Frame) : Nat := field f.payload 1 7 4

/-- An issued entry matches a DELIVER: sheet ID, stream and page1 agree (R142). -/
def Issued.matchesDeliver (i : Issued) (f : Frame) : Bool :=
  flagAt f.payload 1 0 && i.sheet == byteAt f.payload 0 &&
  i.page.stream == two (field f.payload 1 3 2) && i.page.page1 == wordAt f.payload 2

/-- The matched entry of a DELIVER (R142). -/
def FeedUnit.matched (u : FeedUnit) (f : Frame) : Option Issued :=
  u.issued.find? fun i => i.matchesDeliver f

/-- The matched entry leaves the issued list. -/
def FeedUnit.removeMatched (u : FeedUnit) (f : Frame) : FeedUnit :=
  { u with issued := u.issued.eraseP fun i => i.matchesDeliver f }

/-- DELIVER FINAL at the FEED node (R142); a variant outside the three is stale there. -/
def State.deliverFinal (s : State) (f : Frame) : State :=
  if !s.isKind .feed then s
  else if deliverVariant f != Variant.final.code then s.countStale
  else
    match s.feed.matched f with
    | some _ => (s.withFeed (s.feed.removeMatched f)).feedTest
    | none => s

/-- The frame in front is a DELIVER whose variant `p` accepts. -/
def State.takeDeliver (s : State) (p : Nat → Bool) : Option (Frame × State) :=
  match s.takeFrame .deliver with
  | some (f, s1) => if p (deliverVariant f) then some (f, s1) else none
  | none => none

/-- DELIVER_FINAL (R142); it takes a DELIVER of an invalid variant too (log 13). -/
def execDeliverFinal (s : State) : Host.Outcome State Fault Refusal :=
  match s.takeDeliver fun v => v != Variant.compiled.code && v != Variant.purge.code with
  | some (f, s1) => done s (s1.deliverFinal f)
  | none => .next s

/-- The matched entry becomes COMPILED. -/
def compileMatched (f : Frame) : List Issued → List Issued
  | [] => []
  | i :: rest =>
    if i.matchesDeliver f then { i with compiled := true } :: rest else i :: compileMatched f rest

/-- DELIVER COMPILED at the FEED node (R142). -/
def State.deliverCompiled (s : State) (f : Frame) : State :=
  if s.isKind .feed then s.withFeed { s.feed with issued := compileMatched f s.feed.issued } else s

/-- DELIVER_COMPILED (R142). -/
def execDeliverCompiled (s : State) : Host.Outcome State Fault Refusal :=
  match s.takeDeliver fun v => v == Variant.compiled.code with
  | some (f, s1) => done s (s1.deliverCompiled f)
  | none => .next s

/-- The page of a sheet that went to the purge bin unplanned (R143). -/
def FeedUnit.returnPage (u : FeedUnit) (d : PageDesc) : FeedUnit :=
  if d.retry = 3 ∨ resumeCap ≤ u.resume.length then u.dropPage d
  else { u with resume := u.resume ++ [{ d with retry := d.retry + 1 }] }

/-- DELIVER PURGE at the FEED node (R143). -/
def State.deliverPurge (s : State) (f : Frame) : State :=
  if s.isKind .feed then
    match s.feed.matched f with
    | some i => (s.withFeed ((s.feed.removeMatched f).returnPage i.page)).feedTest
    | none => s
  else s

/-- DELIVER_PURGE (R143). -/
def execDeliverPurge (s : State) : Host.Outcome State Fault Refusal :=
  match s.takeDeliver fun v => v == Variant.purge.code with
  | some (f, s1) => done s (s1.deliverPurge f)
  | none => .next s

/-- An issued entry is of a stream and set. -/
def Issued.ofSet (i : Issued) (stream : Fin 4) (set : Nat) : Bool :=
  i.page.stream == stream && i.page.set == set

/-- SETCLOSE at the FEED node (R144). -/
def State.setclose (s : State) (f : Frame) : State :=
  let stream := two (field f.payload 0 7 6)
  let set := 256 * field f.payload 0 3 0 + byteAt f.payload 1
  let count := byteAt f.payload 2
  if !s.isKind .feed then s
  else if count = 0 ∨ 16 < count then s.countStale
  else
    let kept := s.feed.issued.filter fun i => !i.ofSet stream set
    let removed := s.feed.issued.length - kept.length
    let s1 := s.withFeed { s.feed with
      issued := kept
      lastClose := some { stream := stream, set := set, count := count, removed := removed } }
    if removed = 0 then s1 else s1.feedTest

/-- SETCLOSE_TAKEN (R144). -/
def execSetcloseTaken (s : State) : Host.Outcome State Fault Refusal :=
  match s.takeFrame .setclose with
  | some (f, s1) => done s (s1.setclose f)
  | none => .next s

end Sys2Proof.Machine
end

