-- ==== Sys2Proof/Machine/Plan.lean ====
section
/-! DEFINITION. The plan unit: gathering (R151 to R153), the plan (R154 to R162) and its emission (R163, R164). -/

namespace Sys2Proof.Machine

/-! ### Gathering -/

/-- Ranks of the dispositions, strongest first (R151). -/
def Disposition.rank : Disposition → Nat
  | .removed => 0 | .purged => 1 | .unseen => 2 | .heldPurge => 3 | .heldContinue => 4
  | .heldBlank => 5

/-- `d` is stronger than the merged disposition `m`. -/
def Disposition.overrides (d : Disposition) (m : Option Disposition) : Bool :=
  match m with
  | none => true
  | some x => d.rank < x.rank

/-- A REPORT as the plan unit reads it; none when its sheet ID is 0, its disposition is none of the
six or side1 is coded absent (R151, case 2). -/
def reportOf (p : List Byte) : Option Report :=
  if byteAt p 0 = 0 then none
  else
    match dispositionOf (field p 1 7 4), sideOf (field p 2 3 2) with
    | some d, some side1 =>
      some { sheet := byteAt p 0, disposition := d, side1 := side1
             side2 := sideOf (field p 2 1 0), media := two (field p 2 7 6), position := field p 1 2 0 }
    | _, _ => none

/-- The report's sides are all blank (R151). -/
def Report.allBlank (r : Report) : Bool :=
  r.side1 == .blank && (r.side2 == some .blank || r.side2 == none)

/-- The merge of a report into its map entry (R151). -/
def MapEntry.merge (m : MapEntry) (r : Report) : MapEntry :=
  let cont := m.continues || r.disposition == .heldContinue
  if r.disposition.overrides m.disposition then
    { disposition := some r.disposition, blankSides := r.allBlank, continues := cont
      media := r.media }
  else if m.disposition = some r.disposition then
    { m with blankSides := m.blankSides && r.allBlank, continues := cont }
  else { m with continues := cont }

/-- The map entry of a sheet ID (R150). -/
def PlanUnit.entry (u : PlanUnit) (sheet : Nat) : MapEntry := (u.map[sheet - 1]?).getD .reset

/-- The rank of a segment in the pre-image order; one not in it ranks after all that are (R152). -/
def rankIn (order : List Nat) (seg : Nat) : Nat := order.idxOf seg

/-- The candidate of a sheet takes the report's place when it ranks before (R152). -/
def Candidate.revise (order : List Nat) (origin : Nat) (r : Report) (c : Candidate) : Candidate :=
  if c.sheet = r.sheet ∧ rankIn order origin < rankIn order c.segment then
    { c with segment := origin, position := r.position }
  else c

/-- The blank candidate list after a merge that left `merged` (R152). -/
def PlanUnit.offer (u : PlanUnit) (order : List Nat) (origin : Nat) (r : Report)
    (merged : Option Disposition) : PlanUnit :=
  if merged != some .heldBlank then
    { u with candidates := u.candidates.filter fun c => c.sheet != r.sheet }
  else if u.candidates.any fun c => c.sheet == r.sheet then
    { u with candidates := u.candidates.map (Candidate.revise order origin r) }
  else if u.candidates.length < candidateCap then
    { u with candidates := u.candidates ++
        [{ sheet := r.sheet, segment := origin, position := r.position, media := r.media }] }
  else { u with overflow := true }

/-- A report merged into the map and offered to the candidate list (R151, R152). -/
def PlanUnit.gather (u : PlanUnit) (order : List Nat) (origin : Nat) (r : Report) : PlanUnit :=
  let m := (u.entry r.sheet).merge r
  ({ u with map := u.map.setIfInBounds (r.sheet - 1) m } : PlanUnit).offer order origin r
    m.disposition

/-- The path states in which a REPORT is merged (R151, cases 3 and 5). -/
def PathState.gathers : PathState → Bool
  | .halting | .halted | .clearing | .ready => true
  | .unconfigured | .idle | .run | .flush => false

/-- A REPORT at the FEED node (R151, R164). -/
def State.report (s : State) (f : Frame) : State :=
  if f.epoch != s.stop.epoch || !s.cfg.roster.contains f.origin then s
  else
    match reportOf f.payload with
    | none => s
    | some r =>
      if !s.stop.path.gathers then s
      else if s.plan.phase != .gathering then s.withPlan { s.plan with late := true }
      else s.withPlan (s.plan.gather s.cfg.preImage f.origin r)

/-- REPORT_TAKEN (R151); a node of another kind discards it (R124). -/
def execReportTaken (s : State) : Host.Outcome State Fault Refusal :=
  match s.takeFrame .report with
  | some (f, s1) => done s (if s.isKind .feed then s1.report f else s1)
  | none => .next s

/-! ### The plan -/

/-- The classes of R155. -/
inductive PlanClass where
  | reprint | blankReturn | continuing
deriving DecidableEq, Repr

/-- The class of a merged disposition; none is LOST (R155). -/
def planClass : Option Disposition → PlanClass
  | some .heldBlank => .blankReturn
  | some .heldContinue => .continuing
  | some .removed | some .purged | some .unseen | some .heldPurge | none => .reprint

/-- An issued entry with its class. -/
structure Sorted where
  entry : Issued
  cls : PlanClass
deriving DecidableEq, Repr

/-- The order rule (R156): behind the first entry of a stream that is not continuing, every continuing
entry of the stream joins the reprint set. `broken` marks the streams with such an entry ahead. -/
def orderRule : (broken : Quad Bool) → List Sorted → List Sorted
  | _, [] => []
  | broken, x :: rest =>
    match x.cls with
    | .reprint | .blankReturn => x :: orderRule (broken.set x.entry.page.stream true) rest
    | .continuing =>
      (if broken.get x.entry.page.stream then { x with cls := .reprint } else x)
        :: orderRule broken rest

/-- The issued list sorted into classes (R155, R156). -/
def PlanUnit.sorted (u : PlanUnit) (issued : List Issued) : List Sorted :=
  orderRule ⟨false, false, false, false⟩
    (issued.map fun i => { entry := i, cls := planClass (u.entry i.sheet).disposition })

/-- The entry's retry is increased (R157). -/
def PlanUnit.increases (u : PlanUnit) (x : Sorted) : Bool :=
  x.cls == .reprint &&
  !((u.entry x.entry.sheet).disposition == some .removed && (u.entry x.entry.sheet).blankSides)

/-- A stream is faulted for this plan: an increase would take a retry to 4 (R157). -/
def PlanUnit.faultsStream (u : PlanUnit) (l : List Sorted) (stream : Fin 4) : Bool :=
  l.any fun x => x.entry.page.stream == stream && u.increases x && x.entry.page.retry == 3

/-- The entry's page comes back: it is in the reprint set or in blank return (R158). -/
def Sorted.returned (x : Sorted) : Bool := x.cls != .continuing

/-- The pages dropped by R157, in issue order. -/
def PlanUnit.dropped (u : PlanUnit) (l : List Sorted) : List PageDesc :=
  (l.filter fun x => x.returned && u.faultsStream l x.entry.page.stream).map fun x => x.entry.page

/-- The returned pages Q (R158), with the retry left by R157. -/
def PlanUnit.returnedPages (u : PlanUnit) (l : List Sorted) : List PageDesc :=
  (l.filter fun x => x.returned && !u.faultsStream l x.entry.page.stream).map fun x =>
    if u.increases x then { x.entry.page with retry := x.entry.page.retry + 1 } else x.entry.page

/-- The blank candidates in path order (R159). Two of one segment with the same position, between which
R159 gives no order, come as they stand in the candidate list (DESIGN CHOICE, log 46). -/
def pathOrder (order : List Nat) (l : List Candidate) : List Candidate :=
  (List.range order.length).flatMap (fun rank => (List.range 8).flatMap fun pos =>
    l.filter fun c => rankIn order c.segment == rank && c.position == pos)
  ++ l.filter fun c => order.length ≤ rankIn order c.segment

/-- What binding has left: the pages of Q, the PLAN frames and the bound entries (R159). -/
structure Binding where
  pages : List PageDesc
  cmds : List PlanCmd
  bound : List Issued
deriving DecidableEq, Repr

/-- One candidate is dealt with (R159). A bindable page is one whose stream is not faulted. -/
def bindOne (order : List Nat) (u : FeedUnit) (b : Binding) (c : Candidate) : Binding :=
  let purge := { b with cmds := b.cmds ++ [.purge c.sheet] }
  if order.length ≤ rankIn order c.segment then purge
  else
    match b.pages.find? fun d => !u.faulted d.stream with
    | none => purge
    | some d =>
      if d.media = c.media then
        { pages := b.pages.eraseP fun d => !u.faulted d.stream
          cmds := b.cmds ++ [.bind c.sheet d]
          bound := b.bound ++ [d.issuedAs c.sheet] }
      else purge

/-- The binding of a plan (R159). -/
def bindAll (order : List Nat) (u : FeedUnit) (q : List PageDesc) (l : List Candidate) : Binding :=
  (pathOrder order l).foldl (bindOne order u) { pages := q, cmds := [], bound := [] }

/-- Drop pages one after another (R148). -/
def FeedUnit.dropPages (u : FeedUnit) (l : List PageDesc) : FeedUnit := l.foldl FeedUnit.dropPage u

/-- The PLAN PURGEs of the first part of the plan list (R162). -/
def PlanUnit.purges (u : PlanUnit) (l : List Sorted) : List PlanCmd :=
  (l.filter fun x => x.cls == .reprint && (u.entry x.entry.sheet).continues).map fun x =>
    .purge x.entry.sheet

/-- The feed unit and the plan list that a plan makes (R155 to R162). The descriptors that R160 drops go
from the front to the back, so a stream's first dropped page is the one nearest the front (DESIGN CHOICE,
log 58). -/
def buildPlan (order : List Nat) (u : PlanUnit) (f : FeedUnit) : FeedUnit × List PlanCmd :=
  let l := u.sorted f.issued
  let f1 := f.dropPages (u.dropped l)
  let b := bindAll order f1 (u.returnedPages l) u.candidates
  let resume := b.pages ++ f.resume
  let kept := (l.filter fun x => !x.returned).map Sorted.entry
  (({ f1 with resume := resume.take resumeCap, issued := kept ++ b.bound } : FeedUnit).dropPages
      (resume.drop resumeCap),
    u.purges l ++ b.cmds)

/-- The test of R154. -/
def State.planDue (s : State) : Bool :=
  s.isKind .feed && s.stop.path == .ready && s.plan.phase == .gathering && s.missing.isEmpty

/-- Build a plan when its test holds (R154). -/
def State.planTest (s : State) : State :=
  if s.planDue then
    let p := buildPlan s.cfg.preImage s.plan s.feed
    (s.withFeed p.1).withPlan { s.plan with phase := .emitting, list := p.2 }
  else s

/-- A segment joins the readiness set (R153); one that the set had lost since the plan was built sets
the late-report mark (R164). -/
def PlanUnit.joinReady (u : PlanUnit) (seg : Nat) : PlanUnit :=
  if u.readySet.contains seg then u
  else { u with readySet := u.readySet ++ [seg], late := u.late || u.phase != .gathering }

/-- A READY at the FEED node (R153). -/
def State.readyFrom (s : State) (f : Frame) : State :=
  if f.epoch != s.stop.epoch || !s.cfg.roster.contains f.origin then s
  else if flagAt f.payload 0 0 then
    s.withPlan { s.plan with readySet := s.plan.readySet.filter fun g => g != f.origin }
  else (s.withPlan (s.plan.joinReady f.origin)).planTest

/-- READY_TAKEN (R153); a node of another kind discards it (R125). -/
def execReadyTaken (s : State) : Host.Outcome State Fault Refusal :=
  match s.takeFrame .ready with
  | some (f, s1) => done s (if s.isKind .feed then s1.readyFrom f else s1)
  | none => .next s

/-! ### Emission -/

/-- PLAN_FRAME_QUEUED (R163). -/
def execPlanFrameQueued (s : State) : Host.Outcome State Fault Refusal :=
  match s.plan.list with
  | [] => .next s
  | c :: rest =>
    if s.plan.phase = .emitting ∧ s.line.open FrameKind.plan.cls = true then
      done s ((s.push (s.frame .plan (planPayload c))).withPlan { s.plan with list := rest })
    else .next s

/-- The plan's GO is to be queued: the plan list is empty in EMITTING, or the node's own GO was
dropped at its full receive queue in SENT (R163). -/
def PlanUnit.goDue (u : PlanUnit) : Bool :=
  (u.phase == .emitting && u.list.isEmpty) || (u.phase == .sent && u.goAgain)

/-- PLAN_GO_QUEUED (R163). -/
def execPlanGoQueued (s : State) : Host.Outcome State Fault Refusal :=
  if s.plan.goDue && s.line.open FrameKind.go.cls then
    done s ((s.push (s.frame .go [])).withPlan { s.plan with phase := .sent, goAgain := false })
  else .next s

end Sys2Proof.Machine
end

