-- ==== Sys2Proof/Machine/Delivery.lean ====
section
/-! DEFINITION. The delivery unit (R166 to R175): taking a sheet at the last station, compiling, stapling, and its command ANNOUNCEMENT_QUEUED. The commands FDONE and OPERATION_TIMEOUT are in Clearing.lean, since a void's end goes on with the survey. -/

namespace Sys2Proof.Machine

/-- A reject (R167). -/
def State.reject (s : State) (r : SheetRecord) (why : RejectReason) : State :=
  s.withDeliv { s.deliv with
    rejects := satAdd counterTop s.deliv.rejects 1
    lastReject := some { sheet := r.sheet, stream := r.stream, page1 := r.page1, reason := why } }

/-- Place a formed frame at the back of the announcement list; with 12 frames there, LINE is raised
with place 2 and the frame is lost (R169). `from_` is the path state in which the command found the
node. -/
def State.announce (s : State) (from_ : PathState) (a : Announcement) : State :=
  if s.deliv.announce.length < announceCap then
    s.withDeliv { s.deliv with announce := s.deliv.announce ++ [a] }
  else s.raiseFrom from_ .line 2 0

/-- Start a finish operation (R172): FSEL takes its level and FOP goes high. -/
def State.startOp (s : State) (op : FinishOp) : State :=
  s.withDeliv { s.deliv with op := op, opTimer := 0, fsel := op == .void }

/-- The finish operation ends: FOP goes low and FSEL is left as it is (R172). -/
def State.endOp (s : State) : State := s.withDeliv { s.deliv with op := .noOp, stapleCount := 0 }

/-- The length of the run of records of one stream and set from the front that ends at the first
last-of-set, if there is one (R171). -/
def runLength (stream : Fin 4) (set : Nat) : List CompileRecord → Option Nat
  | [] => none
  | r :: rest =>
    if r.stream = stream ∧ r.set = set then
      if r.last then some 1 else (runLength stream set rest).map (· + 1)
    else none

/-- The staple run at the front of the compile list (R171). -/
def stapleRun : List CompileRecord → Option Nat
  | [] => none
  | r :: rest => if r.first then runLength r.stream r.set (r :: rest) else none

/-- The staple test (R171). -/
def State.stapleTest (s : State) : State :=
  if s.deliv.op = .noOp ∧ s.deliv.heldMark = false then
    match stapleRun s.deliv.compile with
    | some n => (s.withDeliv { s.deliv with stapleCount := n }).startOp .staple
    | none => s
  else s

/-- The compile record of a sheet (R166). -/
def SheetRecord.compileRecord (r : SheetRecord) : CompileRecord :=
  { sheet := r.sheet, stream := r.stream, page1 := r.page1, page2 := r.page2, set := r.set
    first := r.first, last := r.last, media := r.media, side1 := r.side1, side2 := r.side2 }

/-- Compilation at a FINISH node (R170). -/
def State.compileSheet (s : State) (from_ : PathState) (r : SheetRecord) : State :=
  if compileCap ≤ s.deliv.compile.length then s.raise .finish 0 r.sheet
  else
    ((s.withDeliv { s.deliv with compile := s.deliv.compile ++ [r.compileRecord] }).announce
      from_ (.deliver .compiled r.sheet r.stream r.page1)).stapleTest

/-- Paper drawn out by hand: HALTED, CLEARING or READY (R167). -/
def PathState.byHand : PathState → Bool
  | .halted | .clearing | .ready => true
  | .unconfigured | .idle | .run | .flush | .halting => false

/-- A side of the record is UNFIXED. -/
def SheetRecord.unfixed (r : SheetRecord) : Bool :=
  r.side1 == .unfixed || r.side2 == some .unfixed

/-- The delivery unit takes a record at a sink's last station (R167, R168): `from_` is the path state at
the trailing edge, before a cause of the same edge has acted. -/
def State.takeRecord (s : State) (from_ : PathState) (r : SheetRecord) : State :=
  if from_.byHand then s.reject r .hand
  else
    match s.cfg.kind with
    | some .purge => s.announce from_ (.deliver .purge r.sheet r.stream r.page1)
    | some .stack =>
      if r.purge then s.reject r .purgeFlag
      else if r.unfixed then s.reject r .unfixed
      else s.announce from_ (.deliver .final r.sheet r.stream r.page1)
    | some .finish =>
      if r.purge then s.reject r .purgeFlag
      else if r.unfixed then s.reject r .unfixed
      else s.compileSheet from_ r
    | some .feed | some .plain | some .image | some .fix | some .turn | none => s

/-- A staple ends with FDONE (R173). -/
def State.stapleDone (s : State) : State :=
  let n := s.deliv.stapleCount
  let s1 := s.endOp.withDeliv
    { s.endOp.deliv with compile := s.deliv.compile.drop n }
  match s.deliv.compile with
  | [] => s1.stapleTest
  | r :: _ => (s1.announce s.stop.path (.setclose r.stream r.set n)).stapleTest

/-- An operation ends without FDONE: the compile list stays and the held mark is set (R174, R175). -/
def State.opFailed (s : State) : State :=
  s.endOp.withDeliv { s.endOp.deliv with heldMark := true }

/-- The frame of an announcement, under the epoch current when it is queued (R169; log 17). -/
def State.announceFrame (s : State) : Announcement → Frame
  | .deliver v sheet stream page1 => s.frame .deliver (deliverPayload v sheet stream page1)
  | .setclose stream set count => s.frame .setclose (setclosePayload stream set count)

/-- ANNOUNCEMENT_QUEUED (R169): the front frame goes to the transmit queue when a place is open to
class 4. -/
def execAnnouncementQueued (s : State) : Host.Outcome State Fault Refusal :=
  match s.deliv.announce with
  | [] => .next s
  | a :: rest =>
    if s.line.open FrameKind.deliver.cls then
      done s ((s.push (s.announceFrame a)).withDeliv { s.deliv with announce := rest })
    else .next s

end Sys2Proof.Machine
end

