-- ==== Sys2Proof/Machine/Stations.lean ====
section
/-! DEFINITION. Edges and distance: the counted edge (R24 to R26), the filter (R28, R29), the leading and trailing edges with all that they bring about (R11, R14 to R16, R20 to R22, R31 to R37, R42, R43), and the commands ENCODER_COUNTED_EDGE, SENSOR_RAW_CHANGE, FILTER_COUNT_COMPLETE and STILL_EDGE. -/

namespace Sys2Proof.Machine

/-! ### Handing on -/

/-- The turn hold applies to an entry (R18). -/
def State.turnHeld (s : State) (e : Entry) : Bool :=
  s.isKind .turn && e.record.leg == .duplex && decide (e.trail < s.cfg.turnStation.num)

/-- An entry leaves the segment table, its gate claim with it (R6, R92), and the tests that follow
are made (R71, R141, R147). -/
def State.removeEntry (s : State) (sheet : Nat) : State :=
  ((s.withTable (s.track.table.eraseP fun e => e.record.sheet == sheet)).leaveClaim sheet).leftTests

/-- The PASS of an entry to its next segment (R17). -/
def State.passFrame (s : State) (e : Entry) : Frame :=
  s.frame .pass (passPayload (s.nextOf e) e.record)

/-- Steps 3 and 4 of R17: the pass-sent mark is set, and the entry becomes HANDED, or leaves with its
trail landmark at n. -/
def State.handOn (s : State) (sheet : Nat) : State :=
  match s.entryOf sheet with
  | none => s
  | some e =>
    if e.trail < s.lastStation then
      s.mapEntry sheet fun e => { e with passSent := true, loc := .handed, passHold := .clear }
    else s.removeEntry sheet

/-- The node announces an entry to its next segment (R17), in a command that found it in `from_`. -/
def State.sendPass (s : State) (from_ : PathState) (e : Entry) : State :=
  (s.queueFrame from_ (s.passFrame e)).handOn e.record.sheet

/-! ### Leading edge -/

/-- What a leading edge at S1 finds in the arrival queue (R14): entries whose sheet is in the table
already are discarded from the front. -/
inductive S1Match where
  | matched (a : Arrival) (rest : List Arrival)
  | full (a : Arrival) (queue : List Arrival)
  | empty
deriving DecidableEq, Repr

def s1Match (table : List Entry) : List Arrival → S1Match
  | [] => .empty
  | a :: rest =>
    if tableCap ≤ table.length then .full a (a :: rest)
    else if table.any fun e => e.record.sheet == a.record.sheet then s1Match table rest
    else .matched a rest

/-- The first entry from the front with lead landmark k - 1 (R15). -/
def leadAt (k : Nat) (table : List Entry) : Option Entry := table.find? fun e => e.lead + 1 == k

/-- The sheet that a leading edge at station `k` is matched to, or 0 (R42). A leading edge at S1 is
matched to the front arrival entry though the table is full (R14). -/
def State.leadSheet (s : State) (k : StationId) : Nat :=
  match k with
  | .s1 =>
    match s1Match s.track.table s.track.arrivals with
    | .matched a _ | .full a _ => a.record.sheet
    | .empty => 0
  | .s2 | .s3 | .s4 =>
    match leadAt k.num s.track.table with
    | some e => e.record.sheet
    | none => 0

/-- The segment-table entry of an arrival matched at S1 (R14), or of an adopted orphan with its hold
tracker as `distance` (R13). -/
def State.newEntry (s : State) (r : SheetRecord) (sender distance : Nat) : Entry :=
  { record := r, loc := .transit, lead := 1, trail := 0, leadTracker := distance
    passTracker := if s.lastStation = 1 then some distance else none
    passSent := false, disposition := none, source := sender, claimed := 0, passHold := .clear }

/-- A claim at the gate-set station of a node with a gate (R90). -/
def State.claimAt (s : State) (k : StationId) (sheet : Nat) : State :=
  if s.hasGate && k == s.cfg.gateSet then s.makeClaim sheet else s

/-- The image rule where the image station is `k` (R20). -/
def State.imageAt (s : State) (k : StationId) (sheet : Nat) : State :=
  if k = s.cfg.imageStation then s.imageRule sheet else s

/-- What follows a leading edge matched to a sheet's entry: gate claim (R90), guard test (R93), pulse
triggers (R95), image rule (R20), and the tests of R69 and R141. The spec gives no order among them:
the claim is served before the guard test, GATE comes before PULSE, and the test of R69 last; a pass
point that the edge itself reaches (R17, pass distance 0) is a later step (DESIGN CHOICE, log 45). -/
def State.afterLead (s : State) (k : StationId) (sheet : Nat) : State :=
  ((((s.claimAt k sheet).guardAtEdge sheet).edgeTriggers k .leading sheet).imageAt k
    sheet).haltAheadTest.leftTests

/-- The tests that follow when arrival entries were discarded from the queue (R14, R71, R141). -/
def State.discardTests (s : State) (discarded : List Arrival) : State :=
  if discarded = [] then s else s.leftTests

/-- A leading edge at S1 (R11, R14) of a node that it found in `from_`. -/
def State.leadS1 (s : State) (from_ : PathState) : State :=
  match s1Match s.track.table s.track.arrivals with
  | .matched a rest =>
    (s.withTrack { s.track with
      table := s.track.table ++ [s.newEntry a.record a.sender 0], arrivals := rest }).afterLead
        .s1 a.record.sheet
  | .full a queue => (s.withArrivals queue).raiseFrom from_ .queue 1 a.record.sheet
  | .empty =>
    if s.stop.path = .idle then (s.withArrivals []).raise .stray 1 0
    else (s.withTrack { s.track with arrivals := [], orphan := some 0 }).discardTests s.track.arrivals

/-- A leading edge at a station beyond S1 (R15). -/
def State.leadBeyond (s : State) (k : StationId) : State :=
  match leadAt k.num s.track.table with
  | none => s.raise .stray k.num 0
  | some e =>
    (s.mapEntry e.record.sheet fun e =>
      { e with
        lead := k.num, leadTracker := 0
        passTracker := if s.lastStation = k.num then some 0 else e.passTracker }).afterLead
      k e.record.sheet

/-- A leading edge restarts a station's cover measurements (R31). -/
def Station.cover (st : Station) (still : Bool) : Station :=
  { st with
    covered := true, count := 0, stillTimer := 0, stillBegun := still, coverCount := 0
    coverTracker := 0 }

/-- The GAP test (R42). -/
def State.gapTest (s : State) (k : StationId) (gap sheet : Nat) : State :=
  if gap < s.cfg.gapMin then s.raise .gap k.num sheet else s

/-- A leading edge of a node that it found in `from_` is matched (R11, R14, R15). -/
def State.matchLead (s : State) (from_ : PathState) (k : StationId) : State :=
  match k with
  | .s1 => s.leadS1 from_
  | .s2 | .s3 | .s4 => s.leadBeyond k

/-- A filtered leading edge (R31): the GAP test (R42), the cover measurements, and the matching. -/
def State.leadingEdge (s : State) (k : StationId) (still : Bool) : State :=
  ((s.setStation k ((s.station k).cover still)).gapTest k (s.station k).gapTracker
    (s.leadSheet k)).matchLead s.stop.path k

/-! ### Trailing edge -/

/-- The corrected length is computed (R35). -/
def State.lengthDue (s : State) (k : StationId) (still : Bool) : Bool :=
  (s.stationCfg k).lengthCheck && !still && !(s.station k).stillBegun &&
  (s.station k).coverCount != trackerTop

/-- L of R36 at a station. -/
def State.lengthAt (s : State) (k : StationId) : Nat :=
  correctedLength (s.station k).coverCount (s.zoneCfg (s.stationCfg k).zone).pitch
    (s.stationCfg k).gain (s.stationCfg k).offset

/-- abs(L - nominal) exceeds T of the media class (R43). -/
def State.lengthFails (s : State) (r : SheetRecord) (l : Nat) : Bool :=
  (s.window r.media).tolerance + r.nominal < l || (s.window r.media).tolerance + l < r.nominal

/-- The measured length of a sheet's entry is stored (R37). -/
def State.storeLength (s : State) (sheet l : Nat) : State :=
  s.mapEntry sheet fun e => e.mapRecord fun r => { r with measured := some l }

/-- Measured length and LENGTH test at a trailing edge matched to an entry (R35, R37, R43). -/
def State.measure (s : State) (k : StationId) (still : Bool) (e : Entry) : State :=
  if s.lengthDue k still then
    let l := s.lengthAt k
    let s1 := s.storeLength e.record.sheet l
    if s.lengthFails e.record l then s1.raise .length k.num e.record.sheet else s1
  else s

/-- UNFIXED becomes FIXED (R21). -/
def SideState.fuse : SideState → SideState
  | .unfixed => .fixed
  | .blank => .blank
  | .fixed => .fixed

/-- The fix rule at the FIX node's fix station (R21); the halt-ahead test follows (R69). -/
def State.fixRule (s : State) (k : StationId) (sheet : Nat) : State :=
  if s.isKind .fix && k == s.cfg.fixStation then
    (s.mapEntry sheet fun e => e.mapRecord fun r =>
      { r with side1 := r.side1.fuse, side2 := r.side2.map SideState.fuse }).haltAheadTest
  else s

/-- The record turned to side 2 (R22). -/
def SheetRecord.turn (r : SheetRecord) : SheetRecord := { r with current := .two, released := false }

/-- The PASS that the turn hold kept back, sent with the record as turned (R18). -/
def State.heldPass (s : State) (from_ : PathState) (sheet : Nat) : State :=
  match s.entryOf sheet with
  | none => s
  | some e =>
    if e.loc = .transit ∧ e.passSent = false ∧ e.passHold ≠ .clear then s.sendPass from_ e else s

/-- The turn rule at the TURN node's turn station (R22). -/
def State.turnRule (s : State) (from_ : PathState) (k : StationId) (sheet : Nat) : State :=
  if s.isKind .turn && k == s.cfg.turnStation then
    match s.entryOf sheet with
    | none => s
    | some e =>
      if e.record.leg = .duplex then
        (s.mapEntry sheet fun e => e.mapRecord SheetRecord.turn).heldPass from_ sheet
      else s
  else s

/-- The trailing edge at Sn (R16) of a node that it found in `from_`. -/
def State.atLast (s : State) (from_ : PathState) (sheet : Nat) : State :=
  match s.entryOf sheet with
  | none => s
  | some e =>
    if s.isSink then (s.takeRecord from_ e.record).removeEntry sheet
    else
      match e.loc with
      | .handed => s.removeEntry sheet
      | .transit => s
      | .held => if e.passSent then s.removeEntry sheet else s

/-- The matched entry's trail landmark becomes k (R16). -/
def State.passTrail (s : State) (k : StationId) (sheet : Nat) : State :=
  s.mapEntry sheet fun e => { e with trail := k.num }

/-- The claim of a sheet whose trailing edge has cleared the gate station leaves (R92). -/
def State.clearClaim (s : State) (k : StationId) (sheet : Nat) : State :=
  if s.hasGate && decide (s.cfg.gateStation.num ≤ k.num) then s.leaveClaim sheet else s

/-- At Sn the matched entry is dealt with (R16). -/
def State.endAt (s : State) (from_ : PathState) (k : StationId) (sheet : Nat) : State :=
  if k.num = s.lastStation then s.atLast from_ sheet else s

/-- A trailing edge matched to an entry (R16): measurement, side changes, gate claim, pulse triggers
and, at Sn, the entry's end. R35 puts the LENGTH test before what R16 does by local state and kind; the
order of the rest is the model's: LENGTH first, then the fix rule with its test of R69, the claim's
leaving, PULSE and the turn rule (DESIGN CHOICE, log 45). -/
def State.trailEffects (s : State) (k : StationId) (still : Bool) (e : Entry) : State :=
  (((((((s.passTrail k e.record.sheet).measure k still e).fixRule k e.record.sheet).clearClaim k
    e.record.sheet).edgeTriggers k .trailing e.record.sheet).turnRule s.stop.path k
      e.record.sheet).endAt s.stop.path k e.record.sheet)

/-- Station `k`'s STALL test, failing in `s`, does not fail by an advance: it did not fail in `before`, or
its failing there waited for an advance already (R38). -/
def State.stallWaits (s before : State) (k : StationId) : Bool :=
  s.stalled k && (!before.stalled k || before.track.stallHeld.get k.ix)

/-- A STALL test that comes to fail because another entry or another length is expected, and not because
its tracker advances, waits for the tracker's next advance (R38). -/
def State.holdStalls (s before : State) : State :=
  s.withTrack { s.track with
    stallHeld := ⟨s.stallWaits before .s1, s.stallWaits before .s2, s.stallWaits before .s3,
      s.stallWaits before .s4⟩ }

/-- A trailing edge matched to an entry (R16), with the STALL tests that it makes fail held back. -/
def State.trailMatched (s : State) (k : StationId) (still : Bool) (e : Entry) : State :=
  (s.trailEffects k still e).holdStalls s

/-- The pace tracker restarts at a trailing edge at the pace station (R137). -/
def State.restartPace (s : State) (k : StationId) : State :=
  if s.isKind .feed && k == s.cfg.paceStation then s.withFeed { s.feed with pace := 0 } else s

/-- A trailing edge ends a held orphan (R12). -/
def State.endOrphan (s : State) : State := ((s.withOrphan none).raise .stray 1 0).leftTests

/-- A trailing edge ends a station's cover and restarts its gap tracker (R33, R34). -/
def Station.uncover (st : Station) : Station :=
  { st with covered := false, count := 0, stillTimer := 0, gapTracker := 0 }

/-- A trailing edge is matched (R12, R16). -/
def State.matchTrail (s : State) (k : StationId) (still : Bool) : State :=
  if k = .s1 ∧ s.track.orphan ≠ none then s.endOrphan
  else
    match expectedAt k.num s.track.table with
    | none => s
    | some e => s.trailMatched k still e

/-- The gate station's filtered level turns uncovered: the test for service that R91 makes then, after
the other effects of the edge (DESIGN CHOICE, log 45). -/
def State.gateClears (s : State) (k : StationId) : State :=
  if k = s.cfg.gateStation then s.gateService else s

/-- A filtered trailing edge (R16, R33, R34). The gate's service for its station's turn to uncovered is
made after what the edge does to the matched entry (DESIGN CHOICE, log 45). -/
def State.trailingEdge (s : State) (k : StationId) (still : Bool) : State :=
  ((((s.setStation k (s.station k).uncover).restartPace k).matchTrail k still).gateClears k).feedTest

/-- The filtered level takes the raw level (R28, R29). -/
def State.takeEdge (s : State) (k : StationId) (still : Bool) : State :=
  if s.rawCovered k then s.leadingEdge k still else s.trailingEdge k still

/-! ### Counted edges -/

/-- A tracker advances by a carry (R26). -/
def advance (w t : Nat) : Nat := satAdd trackerTop t w

/-- A station at a counted edge of its zone with carry `w` (R28, R32 to R34); `raw` is its raw level
and `f` its filter length. -/
def Station.edge (st : Station) (w f : Nat) (raw : Bool) : Station :=
  { st with
    coverCount := if st.covered then satAdd trackerTop st.coverCount 1 else st.coverCount
    coverTracker := if st.covered then advance w st.coverTracker else st.coverTracker
    gapTracker := advance w st.gapTracker
    count := if raw != st.covered then min f (st.count + 1) else st.count
    stillTimer := 0 }

/-- An entry at a counted edge of zone `z` with carry `w` (R26). An entry whose PASS was withheld is
due its PASS when its pass-point tracker advances with the hold ended (R5, R18). -/
def State.edgeEntry (s : State) (z : ZoneId) (w : Nat) (e : Entry) : Entry :=
  let onPass := s.zoneOf s.lastStation == some z
  { e with
    leadTracker := if s.zoneOf e.lead == some z then advance w e.leadTracker else e.leadTracker
    passTracker := if onPass then e.passTracker.map (advance w) else e.passTracker
    passHold :=
      if onPass && 0 < w && e.passTracker.isSome && e.passHold == .withheld && e.loc == .transit
          && !s.turnHeld e then .due
      else e.passHold }

/-- A pending delay at a counted edge of zone `z` (R96). -/
def State.edgePulse (s : State) (z : ZoneId) (w : Nat) (c : PulseCfg) (p : Pulse) : Pulse :=
  match c.source with
  | .station k =>
    if (s.stationCfg k).zone = z then
      { p with delay := p.delay.map fun d => { d with tracker := advance w d.tracker } }
    else p
  | .unused | .issue => p

/-- The carry of a counted edge (R25). -/
def State.carry (s : State) (z : ZoneId) : Nat := ((s.zone z).frac + (s.zoneCfg z).pitch) / 4096

/-- A zone at its own counted edge (R25, R88). -/
def State.edgeZone (s : State) (z : ZoneId) : Zone :=
  { s.zone z with
    frac := ((s.zone z).frac + (s.zoneCfg z).pitch) % 4096, silenceTimer := 0
    silenceStopped := false }

/-- A station at a counted edge of zone `z` with carry `w` (R28, R32 to R34). -/
def State.edgeStation (s : State) (z : ZoneId) (w : Nat) (k : StationId) : Station :=
  if s.present k && (s.stationCfg k).zone == z then
    (s.station k).edge w (s.stationCfg k).filter (s.rawCovered k)
  else s.station k

/-- Station `k`'s STALL test still waits when the trackers of zone `z` advance (R38). -/
def State.heldOff (s : State) (z : ZoneId) (k : StationId) : Bool :=
  s.track.stallHeld.get k.ix && (s.stationCfg k).zone != z

/-- The tracking unit at a counted edge of zone `z` with carry `w` (R10, R26). -/
def State.edgeTrack (s : State) (z : ZoneId) (w : Nat) : TrackUnit :=
  { s.track with
    table := s.track.table.map (s.edgeEntry z w)
    arrivals :=
      if s.zoneOf 1 == some z then s.track.arrivals.map fun a => { a with link := advance w a.link }
      else s.track.arrivals
    orphan := if s.zoneOf 1 == some z then s.track.orphan.map (advance w) else s.track.orphan
    stallHeld :=
      if 0 < w then
        ⟨s.heldOff z .s1, s.heldOff z .s2, s.heldOff z .s3, s.heldOff z .s4⟩
      else s.track.stallHeld }

/-- The feed unit at a counted edge of zone `z` with carry `w` (R137). -/
def State.edgeFeed (s : State) (z : ZoneId) (w : Nat) : FeedUnit :=
  if s.isKind .feed && (s.stationCfg s.cfg.paceStation).zone == z then
    { s.feed with pace := advance w s.feed.pace }
  else s.feed

/-- A counted edge of a zone (R25, R26, R28, R32, R88). -/
def State.countEdge (s : State) (z : ZoneId) : State :=
  let w := s.carry z
  ((((s.setZone z (s.edgeZone z)).withStations
    ⟨s.edgeStation z w .s1, s.edgeStation z w .s2, s.edgeStation z w .s3,
     s.edgeStation z w .s4⟩).withTrack (s.edgeTrack z w)).withPulses
      ⟨s.edgePulse z w (s.pulseCfg .p1) s.pulses.a,
       s.edgePulse z w (s.pulseCfg .p2) s.pulses.b⟩).withFeed (s.edgeFeed z w)

/-- A transition of an encoder is a counted edge of a zone in use (R24). -/
def State.counts (s : State) (z : ZoneId) (rising : Bool) : Bool :=
  s.inUse z && (rising || (s.zoneCfg z).mode == .both)

/-- The pin ENCx takes a level. -/
def State.setEnc (s : State) (z : ZoneId) (high : Bool) : State :=
  s.withPins { s.pins with enc := s.pins.enc.set z.ix high }

/-- The pin SNSk takes a level. -/
def State.setSns (s : State) (k : StationId) (high : Bool) : State :=
  s.withPins { s.pins with sns := s.pins.sns.set k.ix high }

/-- A station acts: the node is configured and the station is present (R30). -/
def State.active (s : State) (k : StationId) : Bool := s.configured && s.present k

/-! ### Commands -/

/-- ENCODER_COUNTED_EDGE (R25): a transition of ENCx; a counted one advances what is bound to the zone. -/
def execEncoderCountedEdge (z : ZoneId) (rising : Bool) (s : State) :
    Host.Outcome State Fault Refusal :=
  let s1 := s.setEnc z rising
  if s.counts z rising then done s (s1.countEdge z) else .next s1

/-- SENSOR_RAW_CHANGE (R28): the pin takes its new level. A raw level that comes to differ from the
filtered level restarts the pending count, or makes an edge at once when F is 0; one that returns to
it ends the count. -/
def execSensorRawChange (k : StationId) (high : Bool) (s : State) :
    Host.Outcome State Fault Refusal :=
  let s1 := s.setSns k high
  if s.active k && s.pins.sns.get k.ix != high then
    if s1.rawCovered k != (s.station k).covered && (s.stationCfg k).filter == 0 then
      done s (s1.takeEdge k false)
    else done s (s1.setStation k { s.station k with count := 0, stillTimer := 0 })
  else .next s1

/-- The filter is complete: the raw level differs and has held through F counted edges (R28). -/
def State.filterDone (s : State) (k : StationId) : Bool :=
  s.active k && s.rawCovered k != (s.station k).covered &&
  decide ((s.stationCfg k).filter ≤ (s.station k).count)

/-- FILTER_COUNT_COMPLETE (R28): a counted-edge edge. -/
def execFilterCountComplete (k : StationId) (s : State) : Host.Outcome State Fault Refusal :=
  if s.filterDone k then done s (s.takeEdge k false) else .next s

/-- The still time may run: the raw level differs and the station has a filter (R29). -/
def State.stillRuns (s : State) (k : StationId) : Bool :=
  s.active k && s.rawCovered k != (s.station k).covered && (s.stationCfg k).filter != 0

/-- STILL_EDGE (R29): the raw level has differed for 16 ms without a counted edge. Taken whenever the
raw level differs at a station with a filter (log 2). -/
def execStillEdge (k : StationId) (s : State) : Host.Outcome State Fault Refusal :=
  if s.stillRuns k then done s (s.takeEdge k true) else .next s

end Sys2Proof.Machine
end

