-- ==== Sys2Proof/Machine/Tracking.lean ====
section
/-! DEFINITION. Sheets between their edges: the pass point (R17, R18), the window tests (R39 to R41), the orphan's expiry (R12) and a PASS that is taken (R8, R13, R70, R147). -/

namespace Sys2Proof.Machine

/-! ### Pass point -/

/-- A TRANSIT entry whose PASS is not sent. -/
def Entry.unsent (e : Entry) : Bool := e.loc == .transit && !e.passSent

/-- The entry's pass-point tracker has reached the pass distance (R17). -/
def State.atPassPoint (s : State) (e : Entry) : Bool :=
  match e.passTracker with
  | some t => s.cfg.passDistance ≤ t
  | none => false

/-- An entry comes to its pass point for the first time (R17). -/
def State.passDue (s : State) (e : Entry) : Bool :=
  s.configured && !s.isSink && e.unsent && s.atPassPoint e && e.passHold == .clear

/-- The pass point is reached: PASS, or the turn hold withholds it (R17, R18). -/
def State.passPoint (s : State) (e : Entry) : State :=
  if s.turnHeld e then s.mapEntry e.record.sheet fun e => { e with passHold := .withheld }
  else s.sendPass s.stop.path e

/-- PASS_POINT_REACHED (R17). -/
def execPassPointReached (index : Nat) (s : State) : Host.Outcome State Fault Refusal :=
  match s.track.table[index]? with
  | some e => if s.passDue e then done s (s.passPoint e) else .next s
  | none => .next s

/-- A withheld PASS is due: the tracker has advanced since the hold ended (R5, R18). -/
def State.deferredDue (s : State) (e : Entry) : Bool :=
  s.configured && !s.isSink && e.unsent && e.passHold == .due && !s.turnHeld e

/-- DEFERRED_PASS (R5, R18). -/
def execDeferredPass (index : Nat) (s : State) : Host.Outcome State Fault Refusal :=
  match s.track.table[index]? with
  | some e => if s.deferredDue e then done s (s.sendPass s.stop.path e) else .next s
  | none => .next s

/-! ### Window tests -/

/-- LATE_AT_STATION (R39). -/
def execLateAtStation (index : Nat) (s : State) : Host.Outcome State Fault Refusal :=
  match s.track.table[index]? with
  | some e =>
    if s.configured && s.lateEntry e then done s (s.raise .late (e.lead + 1) e.record.sheet)
    else .next s
  | none => .next s

/-- LATE_AT_S1 (R40). -/
def execLateAtS1 (index : Nat) (s : State) : Host.Outcome State Fault Refusal :=
  match s.track.arrivals[index]? with
  | some a =>
    if s.configured && s.lateArrival a then done s (s.raise .late 1 a.record.sheet) else .next s
  | none => .next s

/-- STALL (R41). -/
def execStall (k : StationId) (s : State) : Host.Outcome State Fault Refusal :=
  if s.configured && s.stalled k then done s (s.raise .stall k.num (s.stallSheet k)) else .next s

/-! ### Orphan -/

/-- The hold tracker of a held orphan record exceeds H (R12). -/
def State.orphanExpired (s : State) : Bool :=
  match s.track.orphan with
  | some h => s.cfg.orphanHold < h
  | none => false

/-- ORPHAN_HOLD_EXPIRY (R12). -/
def execOrphanHoldExpiry (s : State) : Host.Outcome State Fault Refusal :=
  if s.configured && s.orphanExpired then done s s.endOrphan else .next s

/-! ### PASS -/

/-- An upstream segment of the node (R8). -/
def State.isUpstream (s : State) (seg : Nat) : Bool :=
  seg != 0 && (s.cfg.upstream.a.segment == seg || s.cfg.upstream.b.segment == seg)

/-- The link distance configured for an upstream segment (R7): the first item's where both upstream items
name the segment (DESIGN CHOICE, log 51). -/
def State.linkOf (s : State) (seg : Nat) : Nat :=
  if s.cfg.upstream.a.segment = seg then s.cfg.upstream.a.link else s.cfg.upstream.b.link

/-- The arrival entry that a PASS makes (R8, R70): unresolved at once when its sender is halting. -/
def State.arrivalOf (s : State) (r : SheetRecord) (origin : Nat) : Arrival :=
  { record := r, sender := origin, link := 0, linkDistance := s.linkOf origin
    unresolved := s.stop.path.stopped && (s.stop.stanceOfSegment origin).isHalting }

/-- Replace the arrival entry of the same sheet (R8, case 4). Where two hold the sheet ID (R7), case 4 does
not say which is replaced, and the model replaces the older (DESIGN CHOICE, log 59). -/
def replaceArrival (a : Arrival) : List Arrival → List Arrival
  | [] => []
  | b :: rest => if b.record.sheet = a.record.sheet then a :: rest else b :: replaceArrival a rest

/-- What follows when an arrival entry is made or replaced: the halt-ahead and drain tests in FLUSH
(R69, R71), and the rise of every zone in IDLE (R147). -/
def State.arrived (s : State) : State :=
  if s.stop.path = .idle then s.riseAll.withTrack { s.riseAll.track with idlePass := true }
  else s.haltAheadTest.drainTest

/-- Cases 4 to 6 of R8, in a command that found the node in `from_`. -/
def State.announceArrival (s : State) (from_ : PathState) (r : SheetRecord) (origin : Nat) : State :=
  let a := s.arrivalOf r origin
  if s.track.arrivals.any fun b => b.record.sheet == r.sheet then
    (s.withArrivals (replaceArrival a s.track.arrivals)).arrived
  else if arrivalCap ≤ s.track.arrivals.length then s.raiseFrom from_ .queue 2 r.sheet
  else (s.withArrivals (s.track.arrivals ++ [a])).arrived

/-- Adoption of the orphan (R13), with the gate claim of R90 and the image rule of R20 where S1 is the
image station (log 32, log 41), and the tests of R69, R71 and R141. -/
def State.adopt (s : State) (r : SheetRecord) (origin hold : Nat) : State :=
  (((s.withTrack { s.track with
    table := s.track.table ++ [s.newEntry r origin hold], orphan := none }).claimAt .s1
      r.sheet).imageAt .s1 r.sheet).haltAheadTest.leftTests

/-- Cases 2 to 6 of R8. An orphan whose hold tracker has passed H is past adoption: it ends with STRAY
before the PASS is dealt with (R12). -/
def State.takePass (s : State) (r : SheetRecord) (origin : Nat) : State :=
  if (s.entryOf r.sheet).isSome then s
  else
    match s.track.orphan with
    | some h =>
      if s.cfg.orphanHold < h then s.endOrphan.announceArrival s.stop.path r origin
      else if s.track.table.length < tableCap then s.adopt r origin h
      else (((s.withOrphan none).raise .queue 1 r.sheet).leftTests).announceArrival s.stop.path r origin
    | none => s.announceArrival s.stop.path r origin

/-- A PASS frame taken from the receive queue (R8). One that case 1 discards for its origin or its sheet
ID is not counted as stale, whatever its record holds (DESIGN CHOICE, log 54). -/
def State.passFrom (s : State) (f : Frame) : State :=
  if passReceiver f.payload != s.cfg.segment then s
  else if !s.isUpstream f.origin || byteAt f.payload 1 == 0 then s
  else
    match passRecord f.payload with
    | none => s.countStale
    | some r => if r.inRange then s.takePass r f.origin else s.countStale

/-- PASS_TAKEN (R8). -/
def execPassTaken (s : State) : Host.Outcome State Fault Refusal :=
  match s.takeFrame .pass with
  | some (f, s1) => done s (s1.passFrom f)
  | none => .next s

end Sys2Proof.Machine
end

