-- ==== Sys2Proof/Machine/Clearing.lean ====
section
/-! DEFINITION. The clearing unit: the survey (R115 to R123), the end of a finish operation (R119, R172 to R175), REPORT and READY (R124, R125), PLAN in READY (R126 to R128) and GO (R129 to R131). -/

namespace Sys2Proof.Machine

/-! ### The survey -/

/-- The report of a segment-table entry (R123, R124). -/
def Entry.report (e : Entry) (d : Disposition) (position : Nat) : Report :=
  { sheet := e.record.sheet, disposition := d, side1 := e.record.side1, side2 := e.record.side2
    media := e.record.media, position := position }

/-- The report of an arrival entry (R123). -/
def Arrival.report (a : Arrival) (d : Disposition) : Report :=
  { sheet := a.record.sheet, disposition := d, side1 := a.record.side1, side2 := a.record.side2
    media := a.record.media, position := 0 }

/-- The report of a compile-list record (R119, R123). -/
def CompileRecord.report (c : CompileRecord) (d : Disposition) : Report :=
  { sheet := c.sheet, disposition := d, side1 := c.side1, side2 := c.side2, media := c.media
    position := 0 }

/-- The reports of the segment table, front to back, from position `n` (R123). -/
def tableReports (judge : Entry → Disposition) : (n : Nat) → List Entry → List Report
  | _, [] => []
  | n, e :: rest => e.report (judge e) n :: tableReports judge (n + 1) rest

/-- An entry as the survey leaves it: HELD with its disposition, or gone (R123). -/
def keepEntry (judge : Entry → Disposition) (e : Entry) : Option Entry :=
  if (judge e).keeps then some { e with loc := .held, disposition := some (judge e) } else none

/-- A residual ends the survey without reports (R122). -/
def State.residualFound (s : State) : State :=
  s.withClear { s.clear with residual := true, phase := .noSurvey, opened := false }

/-- The gate claims of removed entries leave with them (R92). -/
def State.leaveClaims (s : State) (removed : List Entry) : State :=
  removed.foldl (fun s e => s.leaveClaim e.record.sheet) s

/-- Dispositions are applied and the reports join the report list (R123). -/
def State.applySurvey (s : State) (judge : Entry → Disposition) (arrival : Disposition)
    (compiled : List Report) : State :=
  let reports := tableReports judge 0 s.track.table
    ++ s.track.arrivals.map (fun a => a.report arrival) ++ compiled
  let s1 := s.withTrack { s.track with
    table := s.track.table.filterMap (keepEntry judge), arrivals := [] }
  let s1 := s1.leaveClaims (s.track.table.filter fun e => !(judge e).keeps)
  s1.withClear { s.clear with
    phase := .reporting, reports := s.clear.reports ++ reports, opened := false }

/-- The compile list is emptied and the held mark cleared (R174, R175). -/
def State.emptyCompile (s : State) : State :=
  s.withDeliv { s.deliv with compile := [], heldMark := false }

/-- The full form (R120): everything is REMOVED. -/
def State.fullForm (s : State) : State :=
  if s.residualAt [] then s.residualFound
  else
    (s.applySurvey (fun _ => .removed) .removed
      (s.deliv.compile.map fun c => c.report .removed)).emptyCompile

/-- The consistency form (R121). -/
def State.consistencyForm (s : State) : State :=
  if s.residualAt (s.track.table.filter fun e => (s.classify e).keeps) then s.residualFound
  else s.applySurvey s.classify .unseen []

/-- Step 1 of R118: HALTED passes to CLEARING. -/
def State.enterClearing (s : State) : State :=
  if s.stop.path = .halted then s.enter .clearing else s

/-- The bind list is emptied. -/
def State.emptyBinds (s : State) : State := s.withClear { s.clear with binds := [] }

/-- Steps 4 and 5 of R118: the form of the survey. -/
def State.surveyForm (s : State) : State :=
  if s.tags.panelCycle then s.fullForm
  else if s.isKind .finish && !s.deliv.compile.isEmpty then
    (s.startOp .void).withClear { s.clear with phase := .voidWait }
  else s.consistencyForm

/-- A survey (R118 to R123). -/
def State.survey (s : State) : State := (s.enterClearing.withOrphan none).emptyBinds.surveyForm

/-- SURVEY_START (R118), when the conditions of R115 hold. -/
def execSurveyStart (s : State) : Host.Outcome State Fault Refusal :=
  if s.surveyReady then done s s.survey else .next s

/-! ### The end of a finish operation -/

/-- A void ends with FDONE in VOID WAIT: a PURGED report for each compile record, and the survey goes
on by the consistency form (R119, R175). R119 forms these reports before the classification, and R123 lists
those of the compile list third: the model has them stand ahead of the table's and the arrival queue's
reports (DESIGN CHOICE, log 61). -/
def State.voidDone (s : State) : State :=
  let s1 := s.endOp.withClear { s.clear with
    phase := .noSurvey
    reports := s.clear.reports ++ s.deliv.compile.map fun c => c.report .purged }
  s1.emptyCompile.consistencyForm

/-- FDONE ends the operation in flight (R173, R175). -/
def State.opDone (s : State) : State :=
  match s.deliv.op with
  | .noOp => s
  | .staple => s.stapleDone
  | .void => if s.clear.phase = .voidWait then s.voidDone else s.opFailed

/-- The pin FDONE takes a level. -/
def State.setFdone (s : State) (high : Bool) : State := s.withPins { s.pins with fdone := high }

/-- FDONE (R172): a low-to-high transition while an operation is in flight ends it. The command stands for
a level that the reading on the 1 ms time base finds (DESIGN CHOICE, log 55). -/
def execFdone (high : Bool) (s : State) : Host.Outcome State Fault Refusal :=
  let s1 := s.setFdone high
  if high && !s.pins.fdone && s.isKind .finish then done s s1.opDone else .next s1

/-- OPERATION_TIMEOUT (R172, R174, R175): the operation ends without FDONE, and in VOID WAIT the survey
ends with a residual (R119). Taken whenever an operation is in flight (log 2). -/
def execOperationTimeout (s : State) : Host.Outcome State Fault Refusal :=
  if s.deliv.op = .noOp then .next s
  else
    let s1 := (s.withDeliv { s.deliv with opTimer := operationMs }).opFailed
    if s.deliv.op = .void ∧ s.clear.phase = .voidWait then done s s1.residualFound else done s s1

/-! ### REPORT and READY -/

/-- The frame of a report (R124). -/
def State.reportFrame (s : State) (r : Report) : Frame := s.frame .report (reportPayload r)

/-- The clearing unit after its front report is queued: with the list empty and a panel opened
meanwhile, the survey ends (R125). -/
def ClearUnit.afterReport (c : ClearUnit) (rest : List Report) : ClearUnit :=
  if rest = [] ∧ c.opened = true then
    { c with reports := [], phase := .noSurvey, opened := false }
  else { c with reports := rest }

/-- REPORT_QUEUED (R124). A withdrawn READY that waits for a place goes first (log 16). -/
def execReportQueued (s : State) : Host.Outcome State Fault Refusal :=
  match s.clear.reports with
  | [] => .next s
  | r :: rest =>
    if s.clear.phase = .reporting ∧ s.clear.withdrawn = false ∧
        s.line.open FrameKind.report.cls = true then
      done s ((s.push (s.reportFrame r)).withClear (s.clear.afterReport rest))
    else .next s

/-- A READY frame (R125). -/
def State.readyFrame (s : State) (withdrawn : Bool) : Frame :=
  s.frame .ready (readyPayload withdrawn)

/-- The READY of R125 is due: reports and announcements are all queued (R169). -/
def State.readyDue (s : State) : Bool :=
  s.clear.phase == .reporting && s.clear.reports.isEmpty && s.deliv.announce.isEmpty &&
  !s.clear.opened && !s.clear.withdrawn

/-- READY is queued and the node enters READY (R125, R48); at the FEED node the test of R154 is made. -/
def State.announceReady (s : State) : State :=
  let s1 := (s.push (s.readyFrame false)).withClear { s.clear with phase := .noSurvey }
  ((s1.withStop { s.stop with own := none }).enter .ready).planTest

/-- READY_QUEUED (R125); a withdrawn READY that waits for a place is queued by it too (log 16). -/
def execReadyQueued (s : State) : Host.Outcome State Fault Refusal :=
  if s.line.open FrameKind.ready.cls then
    if s.clear.withdrawn then
      done s ((s.push (s.readyFrame true)).withClear { s.clear with withdrawn := false })
    else if s.readyDue then done s s.announceReady
    else .next s
  else .next s

/-! ### PLAN -/

/-- PURGE of a sheet in READY (R127). The sheet leaves the bind list though no entry of it is held any
more, for which R127 says both that it is removed and that the frame is ignored (DESIGN CHOICE,
log 42). -/
def State.planPurge (s : State) (sheet : Nat) : State :=
  let mark (r : SheetRecord) : SheetRecord :=
    if r.sheet = sheet then { r with purge := true } else r
  let s1 := s.withTrack { s.track with
    table := s.track.table.map fun e => e.mapRecord mark
    arrivals := s.track.arrivals.map fun a => { a with record := mark a.record } }
  s1.withClear { s.clear with binds := s.clear.binds.filter fun b => b != sheet }

/-- An entry that a BIND may rebind (R128). -/
def Entry.bindable (e : Entry) : Bool :=
  e.disposition == some .heldBlank && e.record.side1 == .blank &&
  (e.record.side2 == some .blank || e.record.side2 == none)

/-- A record rebound to a page (R128). -/
def SheetRecord.bind (r : SheetRecord) (d : PageDesc) : SheetRecord :=
  { r with
    stream := d.stream, page1 := some d.page1, page2 := d.page2, set := d.set, first := d.first
    last := d.last, dest := d.dest, retry := d.retry, side2 := d.page2.map fun _ => .blank
    current := .one, released := false, purge := false }

/-- A sheet ID joins the bind list, once (R128). -/
def ClearUnit.addBind (c : ClearUnit) (sheet : Nat) : ClearUnit :=
  if c.binds.contains sheet then c else { c with binds := c.binds ++ [sheet] }

/-- BIND of a sheet in READY (R128). -/
def State.planBind (s : State) (sheet : Nat) (d : PageDesc) : State :=
  match s.entryOf sheet with
  | none => s
  | some e =>
    if e.bindable then
      (s.mapEntry sheet fun e => e.mapRecord fun r => r.bind d).withClear (s.clear.addBind sheet)
    else s

/-- A PLAN frame by epoch and path state (R126); a malformed one is stale first (log 14). -/
def State.planFrom (s : State) (f : Frame) (act : State → State) : State :=
  if planMalformed f.payload then s.countStale
  else if s.stop.path = .idle then s
  else if f.epoch ≠ s.stop.epoch then s.countStale
  else if s.stop.path = .ready then act s
  else s

/-- The PLAN in front carries BIND. -/
def isBind (f : Frame) : Bool := byteAt f.payload 0 == 2

/-- PLAN_PURGE (R127); it takes a PLAN of an invalid command too (log 13). -/
def execPlanPurge (s : State) : Host.Outcome State Fault Refusal :=
  match s.takeFrame .plan with
  | some (f, s1) =>
    if isBind f then .next s
    else done s (s1.planFrom f fun s => s.planPurge (byteAt f.payload 1))
  | none => .next s

/-- PLAN_BIND (R128). -/
def execPlanBind (s : State) : Host.Outcome State Fault Refusal :=
  match s.takeFrame .plan with
  | some (f, s1) =>
    if isBind f then
      done s (s1.planFrom f fun s => s.planBind (byteAt f.payload 1) (planPage f.payload))
    else .next s
  | none => .next s

/-! ### GO -/

/-- The purge default of an entry at GO (R129, step 1). -/
def State.purgeDefault (s : State) (e : Entry) : Bool :=
  e.loc == .held &&
  (e.disposition == some .heldPurge ||
   (e.disposition == some .heldBlank && !s.clear.binds.contains e.record.sheet))

/-- A HELD entry returns at GO (R129, steps 1 and 2). A PASS whose point was reached during the halt
is sent at the tracker's next advance (R5). -/
def State.resume (s : State) (e : Entry) : Entry :=
  if e.loc = .held then
    { e with
      record := { e.record with purge := e.record.purge || s.purgeDefault e }
      loc := if e.passSent then .handed else .transit
      disposition := none
      passHold := if !e.passSent && !s.isSink && s.atPassPoint e then .withheld else e.passHold }
  else e

/-- Repeated PASS for the entries that GO returned to HANDED (R129, step 3), from the front of the table
to its back (DESIGN CHOICE, log 52). -/
def State.repeatPasses (s : State) (returned : List Entry) : State :=
  returned.foldl (fun s e => s.queueFrame .ready (s.passFrame e)) s

/-- An unresolved arrival entry is resolved at entry to RUN (R70). -/
def Arrival.resolve (a : Arrival) : Arrival :=
  if a.unresolved then { a with unresolved := false, link := 0 } else a

/-- The plan unit when the FEED node enters RUN at GO: all but the plan list and the late-report mark
return to their values of R150. -/
def PlanUnit.atGo (u : PlanUnit) : PlanUnit := { PlanUnit.reset with list := u.list, late := u.late }

/-- The FEED node's pace tracker when GO is taken in READY or IDLE, be it carried out or turned away by a
LOW supply (R137). -/
def State.openPace (s : State) : State :=
  if s.isKind .feed then s.withFeed { s.feed with pace := trackerTop } else s

/-- The plan unit when the FEED node enters RUN at GO (R150). -/
def State.planGo (s : State) : State :=
  if s.isKind .feed then s.withPlan s.plan.atGo else s

/-- The LATE tests at S1 (R40), for each arrival entry. -/
def State.arrivalTests (s : State) : State :=
  s.track.arrivals.foldl
    (fun t a => if s.lateArrival a then t.raise .late 1 a.record.sheet else t) s

/-- The LATE tests at the other stations (R39), for each segment-table entry. -/
def State.entryTests (s : State) : State :=
  s.track.table.foldl
    (fun t e => if s.lateEntry e then t.raise .late (e.lead + 1) e.record.sheet else t) s

/-- The STALL tests (R41), for each station. -/
def State.stallTests (s : State) : State :=
  StationId.all.foldl
    (fun t k => if s.stalled k then t.raise .stall k.num (s.stallSheet k) else t) s

/-- The window tests made on entry to RUN (R38): each arrival entry, each segment-table entry, each
station. -/
def State.windowTests (s : State) : State := s.arrivalTests.entryTests.stallTests

/-- The INTERLOCK condition read on entry to RUN (R108): one instance at most. It joins the stop that a
window test has begun (R52). -/
def State.interlockTest (s : State) : State :=
  if s.aggregate then s.raiseFrom .run .interlock s.lowestAsserted 0
  else if s.groupOpen then s.raiseFrom .run .interlock s.lowestOpen 0
  else s

/-- Every station's gap tracker is set to 65535 (R129, step 6). -/
def State.restartGaps (s : State) : State :=
  s.withStations (s.stations.map fun k => { k with gapTracker := trackerTop })

/-- The unresolved flags are cleared (R70). -/
def State.resolveArrivals (s : State) : State :=
  s.withArrivals (s.track.arrivals.map Arrival.resolve)

/-- The tests of step 8 of R129, in the order of log 15. -/
def State.runTests (s : State) : State :=
  s.windowTests.interlockTest.guardTests.gateService.feedTest

/-- Steps 4 to 8 of R129. -/
def State.enterRun (s : State) : State :=
  (((s.emptyBinds.clearSites).restartGaps.planGo.riseAll).enter .run).resolveArrivals.runTests

/-- Steps 1 to 3 of R129. -/
def State.returnHeld (s : State) : State :=
  let s1 := s.withTable (s.track.table.map s.resume)
  s1.repeatPasses ((s.track.table.filter fun e => e.loc == .held && e.passSent).map s.resume)

/-- GO carried out in READY, or SUPPLY raised (R53, R129). -/
def State.goReady (s : State) : State :=
  if s.supply.ok then s.returnHeld.enterRun else s.startStop .supply 0 0

/-- GO carried out in IDLE, or SUPPLY raised (R53, R130). -/
def State.go (s : State) : State :=
  if s.supply.ok then s.enterRun else s.startStop .supply 0 0

/-- GO of the current epoch, by path state (R129, R131). -/
def State.goCurrent (s : State) : State :=
  match s.stop.path with
  | .ready => s.openPace.goReady
  | .halted | .clearing => s.startStop .notready 0 0
  | .flush | .halting => s.countStale
  | .run | .idle | .unconfigured => s

/-- A GO frame (R129 to R131). -/
def State.goFrom (s : State) (f : Frame) : State :=
  if s.stop.path = .idle then (s.withStop { s.stop with epoch := f.epoch }).openPace.go
  else if f.epoch = s.stop.epoch then s.goCurrent
  else s.countStale

/-- GO_TAKEN (R129 to R131). -/
def execGoTaken (s : State) : Host.Outcome State Fault Refusal :=
  match s.takeFrame .go with
  | some (f, s1) => done s (s1.goFrom f)
  | none => .next s

end Sys2Proof.Machine
end

