-- ==== Sys2Proof/Machine/Tags.lean ====
section
/-! DEFINITION. Published inputs (R100, R101), TAGSTATE (R103 to R110, R116) and the supply monitor (R111 to R113). -/

namespace Sys2Proof.Machine

/-! ### Published inputs -/

def State.input (s : State) (i : InputId) : Input := s.tags.inputs.get i.ix
def State.inputTag (s : State) (i : InputId) : Nat := s.cfg.inputTags.get i.ix

/-- The raw level of an input: ASSERTED when the pin is high (R100). -/
def State.rawInput (s : State) (i : InputId) : Bool := s.pins.inp.get i.ix

/-- The input is published and the node configured (R100). -/
def State.published (s : State) (i : InputId) : Bool := s.configured && s.inputTag i != 0

def State.setInput (s : State) (i : InputId) (x : Input) : State :=
  s.withTags { s.tags with inputs := s.tags.inputs.set i.ix x }

/-- The pin INx takes a level. -/
def State.setInp (s : State) (i : InputId) (high : Bool) : State :=
  s.withPins { s.pins with inp := s.pins.inp.set i.ix high }

/-- INPUT_PIN_CHANGE (R100), a change that the 1 ms time base reads (log 55): the hold timer starts when the raw level comes to differ from the filtered
level, and stops when it returns to it. -/
def execInputPinChange (i : InputId) (high : Bool) (s : State) : Host.Outcome State Fault Refusal :=
  let s1 := s.setInp i high
  if s.published i && s.rawInput i != high then
    .next (s1.setInput i { s.input i with
      hold := if high != (s.input i).level then some 0 else none })
  else .next s1

/-- The TAGSTATE of a published input (R100). -/
def State.tagFrame (s : State) (i : InputId) (level : Bool) : Frame :=
  s.frame .tagstate (tagstatePayload (s.inputTag i) level)

/-- The hold timer of an input runs and its raw level differs (R100). -/
def State.holdRuns (s : State) (i : InputId) : Bool :=
  s.published i && (s.input i).hold.isSome && s.rawInput i != (s.input i).level

/-- TAG_HOLD_EXPIRY (R100). Taken whenever the hold timer runs (log 2). -/
def execTagHoldExpiry (i : InputId) (s : State) : Host.Outcome State Fault Refusal :=
  if s.holdRuns i then
    done s ((s.setInput i { level := s.rawInput i, hold := none }).queueFrame
      s.stop.path (s.tagFrame i (s.rawInput i)))
  else .next s

/-- One TAGSTATE for each published input, IN1 to IN4, with its present filtered level (R101). -/
def State.resendInputs (s : State) : State :=
  InputId.all.foldl
    (fun t i => if t.published i then t.queueFrame s.stop.path (t.tagFrame i (t.input i).level) else t) s

/-! ### TAGSTATE -/

/-- A slot's value after a TAGSTATE (R103). -/
def slotAfter (tag : Nat) (asserted : Bool) (c : SlotCfg) (v : SlotValue) : SlotValue :=
  if c.tag != 0 && c.tag == tag then hear c asserted else v

/-- The slots after a TAGSTATE (R103). -/
def State.hearTag (s : State) (tag : Nat) (asserted : Bool) : State :=
  s.withTags { s.tags with
    slots := Vector.ofFn fun i => slotAfter tag asserted (s.cfg.slots.get i) (s.tags.slots.get i) }

/-- The slots in use whose reading by `p` came to hold between two states, lowest number first, an order
that the spec leaves open (DESIGN CHOICE, log 23). -/
def newlyTrue (p : SlotCfg → SlotValue → Bool) (before after : State) : List Nat :=
  ((before.slotsInUse.zip after.slotsInUse).filter fun (b, a) =>
    !p b.2.1 b.2.2 && p a.2.1 a.2.2).map fun (_, a) => a.1

/-- The panel-cycle flag is set while the panel group reads open (R106). -/
def State.markCycle (s : State) : State :=
  if s.groupOpen then s.withTags { s.tags with panelCycle := true } else s

/-- A void in flight ends as at a timeout (R175); the operation timer stops at the value it has reached
(DESIGN CHOICE, log 56). -/
def State.voidOpened (s : State) : State := if s.deliv.op = .void then s.opFailed else s

/-- The clearing unit at a panel opening (R119, R125). -/
def ClearUnit.panelOpened (c : ClearUnit) : ClearUnit :=
  match c.phase with
  | .voidWait => { c with phase := .noSurvey, reports := [] }
  | .reporting =>
    if c.reports = [] then { c with phase := .noSurvey, opened := false }
    else { c with opened := true }
  | .noSurvey => c

/-- The panel group opens: a void in flight ends as at a timeout, and a survey waiting on it is
abandoned (R119, R175); in REPORTING the reports go out and READY does not (R125). -/
def State.surveyOpened (s : State) : State := s.voidOpened.withClear s.clear.panelOpened

/-- A READY with its withdrawn flag set is queued, or waits for a place (R116, R180; log 16). -/
def State.withdrawReady (s : State) : State :=
  if s.line.open FrameKind.ready.cls then s.push (s.readyFrame true)
  else s.withClear { s.clear with withdrawn := true }

/-- The clearing unit takes the panel group's turn to open (R116). -/
def State.groupOpens (s : State) : State :=
  match s.stop.path with
  | .halted => (s.surveyOpened).enter .clearing
  | .ready => s.surveyOpened.withdrawReady.enter .clearing
  | .clearing =>
    s.surveyOpened.withClear { s.surveyOpened.clear with residual := false }
  | .unconfigured | .idle | .run | .flush | .halting => s.surveyOpened

/-- The clearing unit acts when the panel group has opened (R116). -/
def State.openIf (s : State) (c : Bool) : State := if c then s.groupOpens else s

/-- INTERLOCK once for each of the slots named (R105, R108), in a command that found the node in
`from_`: the first starts or joins a stop and each later one joins it (R52). Slots that one TAGSTATE opens
come lowest number first (DESIGN CHOICE, log 23). -/
def State.interlocks (s : State) (from_ : PathState) (slots : List Nat) : State :=
  slots.foldl (fun s n => s.raiseFrom from_ .interlock n 0) s

/-- Brake every zone in use (R108). -/
def State.brakeIf (s : State) (c : Bool) : State := if c then s.brakeAll else s

/-- A TAGSTATE that names a tag (R103): the slots, then in the order of log 23 the panel-cycle flag, the
brake and INTERLOCK of the stop aggregate (R108), INTERLOCK of each panel slot that opened (R105), the
zone tests, the clearing unit (R116) and the feed unit's issue test (R141). -/
def State.tagChange (s : State) (tag : Nat) (asserted : Bool) : State :=
  let t := s.hearTag tag asserted
  let asserts := !s.aggregate && t.aggregate
  (((((t.markCycle.brakeIf asserts).interlocks s.stop.path
    (if asserts then (newlyTrue stopSlotAsserted s t).take 1 else [])).interlocks s.stop.path
      (newlyTrue panelSlotOpen s t)).zonesChanged).openIf (!s.groupOpen && t.groupOpen)).feedTest

/-- A TAGSTATE frame (R101, R103). A start announcement of origin 0, no segment, is answered like one of
another segment (DESIGN CHOICE, log 43). -/
def State.tagFrom (s : State) (f : Frame) : State :=
  let tag := byteAt f.payload 0
  let value := byteAt f.payload 1
  if 63 < tag ∨ 1 < value then s.countStale
  else if tag = 0 then (if f.origin = s.cfg.segment then s else s.resendInputs)
  else if (s.hearTag tag (value == 1)).tags.slots = s.tags.slots then s
  else s.tagChange tag (value == 1)

/-- TAGSTATE_TAKEN (R103). -/
def execTagstateTaken (s : State) : Host.Outcome State Fault Refusal :=
  match s.takeFrame .tagstate with
  | some (f, s1) => done s (s1.tagFrom f)
  | none => .next s

/-! ### The supply monitor -/

/-- The comparator is compared with the filtered state: the hold timer starts when they come to
differ, and stops when they agree (R112). -/
def State.superviseSupply (s : State) : State :=
  s.withSupply { s.supply with
    hold := if s.comparatorOk == s.supply.ok then none else some (s.supply.hold.getD 0) }

/-- VSENSE_CHANGE (R111, R112), a change that the 1 ms time base reads (log 55). The comparator is read
whenever RESETn is high. -/
def execVsenseChange (microvolts : Nat) (s : State) : Host.Outcome State Fault Refusal :=
  let s1 := s.withPins { s.pins with vsense := microvolts }
  if s.pins.resetn then .next s1.superviseSupply else .next s1

/-- The filtered state takes the comparator's result (R112, R113). -/
def State.supplyTurns (s : State) : State :=
  let s1 := s.withSupply { ok := s.comparatorOk, hold := none }
  if s.comparatorOk then s1 else ((s1.brakeAll).raise .supply 0 0).zonesChanged

/-- The supply hold timer runs and the comparator differs (R112). -/
def State.supplyRuns (s : State) : Bool := s.supply.hold.isSome && s.comparatorOk != s.supply.ok

/-- SUPPLY_HOLD_EXPIRY (R112). Taken whenever the hold timer runs (log 2). -/
def execSupplyHoldExpiry (s : State) : Host.Outcome State Fault Refusal :=
  if s.supplyRuns then done s s.supplyTurns else .next s

end Sys2Proof.Machine
end

