-- ==== Sys2Proof/Machine/LocalPort.lean ====
section
/-! DEFINITION. Reset (R188), the local commands with their replies (R133, R149, R185 to R190) and the notice commands (R191, R192). -/

namespace Sys2Proof.Machine

/-! ### Replies -/

/-- An accepted reply (11.6). -/
def accept (detail : Nat) (data : ReplyData) : Reply :=
  { status := .accepted, detail := detail, data := data }

/-- A refusal (11.6). -/
def refuse (why : Status) : Reply := { status := why, detail := 0, data := .noData }

/-- Give a reply. -/
def State.answer (s : State) (r : Reply) : State := s.withReply (some r)

/-- A refused command changes no state but the reply (R189). -/
def State.decline (s : State) (why : Status) : Host.Outcome State Fault Refusal :=
  .next (s.answer (refuse why))

/-- A local command of data length `n` that carries no data: while RESETn is low it is not taken (R188;
log 8), and a data length that does not suit it is refused (R189, check 1). -/
def State.command (s : State) (n : Nat) (act : Host.Outcome State Fault Refusal) :
    Host.Outcome State Fault Refusal :=
  if s.pins.resetn = false then .next s else if n ≠ 0 then s.decline .range else act

/-! ### Power-on reset -/

/-- Every block at its power-on value (R188). The levels of the input pins and the waiting commands are
outside the node and stay. -/
def State.powerOn (s : State) (resetn : Bool) : State :=
  (State.reset.withPins { s.pins with resetn := resetn }).withPending s.pending

/-- POWER_ON_RESET (R188): RESETn rises. The comparator is read from then on (R112). -/
def execPowerOnReset (s : State) : Host.Outcome State Fault Refusal :=
  .next (s.powerOn true).superviseSupply

/-- RESETN_LOW (R188): any operation ends at once and no output is active. -/
def execResetnLow (s : State) : Host.Outcome State Fault Refusal := .next (s.powerOn false)

/-! ### Configuration -/

/-- A request by the command code of its header (11.6): one of the twelve is its command, and any other
code is refused with RANGE (R189, check 1). The opcode table has a row for each of the twelve and none
for another code, so no command of the queue stands for one (log 28). -/
def State.request (s : State) (code : Nat) (act : Host.Outcome State Fault Refusal) :
    Host.Outcome State Fault Refusal :=
  if s.pins.resetn = false then .next s
  else if code = 0 ∨ 12 < code then s.decline .range
  else act

/-- CONFIG_WRITE (R185, R189): RANGE for data that does not suit the command comes before LOCKED
(DESIGN CHOICE, log 48). A new supply select is compared at once (R111). -/
def execConfigWrite (item : ConfigItem) (value : ConfigValue) (s : State) :
    Host.Outcome State Fault Refusal :=
  if s.pins.resetn = false then .next s
  else if value = .misfit then s.decline .range
  else if s.configured then s.decline .locked
  else
    match writeItem s.cfg item value with
    | none => s.decline .range
    | some c =>
      let s1 := (s.withCfg c).answer (accept 0 .noData)
      .next (if item = .supplySelect then s1.superviseSupply else s1)

/-- CONFIG_READ (R185). -/
def execConfigRead (item : ConfigItem) (dataLength : Nat) (s : State) :
    Host.Outcome State Fault Refusal :=
  s.command dataLength
    (match readItem s.cfg item with
    | none => s.decline .range
    | some v => .next (s.answer (accept 0 (.value v))))

/-! ### START and RESTART -/

/-- A published input at START: its level is the raw level (R101). -/
def State.startInput (s : State) (i : InputId) : Input :=
  { level := s.inputTag i != 0 && s.rawInput i, hold := none }

/-- The state in IDLE before anything is queued: every item but the configuration, the pins, the
supply monitor and the notices at its START value (R186, R187). -/
def State.startValues (s : State) : State :=
  ((((((State.reset.withCfg s.cfg).withPins s.pins).withSupply s.supply).withNotices
    s.notices).withPending s.pending).withStop { StopUnit.reset with path := .idle }).withTags
    { State.reset.tags with
      inputs := ⟨s.startInput .in1, s.startInput .in2, s.startInput .in3, s.startInput .in4⟩ }

/-- The start announcement is queued (R101). -/
def State.startAnnouncement (s : State) : State :=
  s.push (s.frame .tagstate (tagstatePayload 0 false))

/-- The node enters IDLE: the panel-cycle flag (R106), the brake where it is called for, the start
announcement and the TAGSTATEs (R101). -/
def State.enterIdle (s : State) (brake : Bool) : State :=
  (s.startValues.markCycle.brakeIf brake).startAnnouncement.resendInputs

/-- START (R186). The zones are braked while the stop aggregate (R108) or the supply (R113) calls for
it. -/
def execStart (dataLength : Nat) (s : State) : Host.Outcome State Fault Refusal :=
  s.command dataLength
    (if s.configured then s.decline .state
    else
      match failedCheck s.cfg with
      | some n => .next (s.answer { status := .config, detail := n, data := .noData })
      | none => done s ((s.enterIdle s.startValues.braking).answer (accept 0 .noData)))

/-- Every notice disabled, in EDGE mode and clear (R191). -/
def noticesOff : Vector NoticeState 12 :=
  Vector.replicate 12 { enabled := false, level := false, latch := false }

/-- RESTART (R187). Every zone in use is IDLE with BRKx released (R83), and braked again where the stop
aggregate calls for it (R108). -/
def execRestart (dataLength : Nat) (s : State) : Host.Outcome State Fault Refusal :=
  s.command dataLength
    (if s.configured then
      .next (((s.enterIdle s.startValues.aggregate).withNotices noticesOff).answer (accept 0 .noData))
    else s.decline .state)

/-! ### Pages and streams -/

/-- Check 3 of PAGE SUBMIT fails (R133). -/
def State.pageOutOfRange (s : State) (d : PageDesc) : Bool :=
  !(1000 ≤ d.nominal && d.nominal ≤ 4800 && s.cfg.roster.contains d.dest &&
    d.dest != s.cfg.segment && d.dest != s.cfg.purgeSink)

/-- The page stands in a collection of the feed unit already (R133, check 5). -/
def FeedUnit.holdsPage (f : FeedUnit) (stream : Fin 4) (page1 : Nat) : Bool :=
  f.pages.any (fun d => d.stream == stream && d.page1 == page1) ||
  f.issued.any (fun i => i.page.stream == stream && i.page.page1 == page1) ||
  f.resume.any fun d => d.stream == stream && d.page1 == page1

/-- The refusal of PAGE SUBMIT, if any (R133). -/
def State.pageRefusal (s : State) (d : PageDesc) : Option Status :=
  if !s.configured then some .state
  else if !s.isKind .feed then some .role
  else if s.pageOutOfRange d then some .range
  else if s.feed.faulted d.stream then some .held
  else if s.feed.holdsPage d.stream d.page1 then some .duplicate
  else if pageCap ≤ s.feed.pages.length then some .full
  else none

/-- A page joins the page queue (R133, R141). -/
def State.addPage (s : State) (d : PageDesc) : State :=
  let f := { s.feed with pages := s.feed.pages ++ [d] }
  ((s.withFeed f.restTest).answer (accept f.pages.length .noData)).feedTest

/-- PAGE_SUBMIT (R133). -/
def execPageSubmit (data : List Byte) (s : State) : Host.Outcome State Fault Refusal :=
  if s.pins.resetn = false then .next s
  else if data.length ≠ 9 then s.decline .range
  else
    match s.pageRefusal (pageOf data) with
    | some why => s.decline why
    | none => done s (s.addPage (pageOf data))

/-- The refusals that STREAM CANCEL and STREAM RELEASE share (R149). -/
def State.streamRefusal (s : State) (stream : Nat) : Option Status :=
  if !s.configured then some .state
  else if !s.isKind .feed then some .role
  else if 3 < stream then some .range
  else none

/-- A stream's fault flag is cleared (R149). -/
def FeedUnit.clearFault (f : FeedUnit) (stream : Fin 4) : FeedUnit :=
  { f with faults := f.faults.set stream { f.faults.get stream with faulted := false } }

/-- A stream's descriptors leave the page queue and the resume queue (R149). -/
def FeedUnit.cancel (f : FeedUnit) (stream : Fin 4) : FeedUnit :=
  { f.clearFault stream with
    pages := f.pages.filter fun d => d.stream != stream
    resume := f.resume.filter fun d => d.stream != stream }

/-- The number of descriptors in the two queues. -/
def FeedUnit.waiting (f : FeedUnit) : Nat := f.pages.length + f.resume.length

/-- STREAM_CANCEL (R149). -/
def execStreamCancel (stream dataLength : Nat) (s : State) : Host.Outcome State Fault Refusal :=
  s.command dataLength
    (match s.streamRefusal stream with
    | some why => s.decline why
    | none =>
      let f := s.feed.cancel (two stream)
      done s ((s.withFeed f).answer (accept (s.feed.waiting - f.waiting) .noData)).feedTest)

/-- STREAM_RELEASE (R149). -/
def execStreamRelease (stream dataLength : Nat) (s : State) : Host.Outcome State Fault Refusal :=
  s.command dataLength
    (match s.streamRefusal stream with
    | some why => s.decline why
    | none =>
      if s.feed.faulted (two stream) then
        done s ((s.withFeed (s.feed.clearFault (two stream))).answer (accept 0 .noData)).feedTest
      else s.decline .state)

/-! ### READ -/

/-- The collection is of the FEED node alone (R190). -/
def feedOnly : Collection → Bool
  | .pageQueue | .resumeQueue | .issuedList | .streamFaults | .lastClose | .allocator | .pace
  | .planUnit => true
  | .segmentTable | .arrivalQueue | .orphan | .stations | .zones | .gate | .pulses
  | .stopController | .slots | .supply | .clearing | .linePort | .delivery | .unknown => false

/-- Data of an entry that may not be there: an accepted reply of data length 0 then (R190). -/
def dataOf {α : Type} (f : α → ReplyData) : Option α → ReplyData
  | some x => f x
  | none => .noData

/-- Data of a collection of one entry, index 0. -/
def only (index : Nat) (d : ReplyData) : ReplyData := if index = 0 then d else .noData

/-- The named fields of an entry of a collection (R190). Stations, zones, pulse outputs and slots are
named by their own numbers, entries of a list from 0 at the front (log 7), and a stream's fault record
by its stream (DESIGN CHOICE, log 49). A node without a gate holds no entry of the gate (R89; DEDUCED,
log 53). -/
def State.readData (s : State) (c : Collection) (index : Nat) : ReplyData :=
  match c with
  | .segmentTable => dataOf .entry s.track.table[index]?
  | .arrivalQueue => dataOf .arrival s.track.arrivals[index]?
  | .orphan => if index = 0 then dataOf .orphan s.track.orphan else .noData
  | .stations => dataOf (fun i => .station (s.stations.get i)) (stationIx index)
  | .zones => dataOf (fun i => .zone (s.zones.get i) s.chain) (zoneIx index)
  | .gate => if s.hasGate then only index (.gate s.gate) else .noData
  | .pulses => dataOf (fun i => .pulse (s.pulses.get i)) (duoIx index)
  | .stopController =>
    only index (.stop s.stop.path s.stop.epoch s.stop.sites s.stop.overflow s.stop.stances s.stop.own)
  | .slots =>
    dataOf (fun i => .slot (s.tags.slots.get i) s.groupOpen s.tags.panelCycle s.aggregate)
      (slotIx index)
  | .supply => only index (.supply s.supply.ok s.cfg.supplySelect)
  | .clearing => only index (.clearing s.clear)
  | .linePort =>
    only index (.line s.line.tx.length s.line.rx.length (s.line.tx.map fun f => f.kind.cls))
  | .pageQueue => dataOf .page s.feed.pages[index]?
  | .resumeQueue => dataOf .page s.feed.resume[index]?
  | .issuedList => dataOf .issued s.feed.issued[index]?
  | .streamFaults => dataOf (fun i => .fault (s.feed.faults.get i)) (classIx index)
  | .lastClose => if index = 0 then dataOf .lastClose s.feed.lastClose else .noData
  | .allocator => only index (.allocator s.feed.lastSheet)
  | .pace => only index (.pace s.feed.pace)
  | .planUnit => only index (.plan s.plan s.missing)
  | .delivery => only index (.delivery s.deliv)
  | .unknown => .noData

/-- READ (R190): RANGE for a selector that names no collection (log 7), ROLE for a FEED or sink
collection at another kind. -/
def execRead (c : Collection) (index dataLength : Nat) (s : State) :
    Host.Outcome State Fault Refusal :=
  s.command dataLength
    (if c = .unknown then s.decline .range
    else if (feedOnly c && !s.isKind .feed) || (c == .delivery && !s.isSink) then s.decline .role
    else .next (s.answer (accept 0 (s.readData c index))))

/-- The counters and flags that READ COUNTERS returns (R190). -/
def State.counterData (s : State) : ReplyData :=
  .counters s.stop.counters s.line.crcErrors s.line.stale s.line.txErrors s.line.rxOverflow
    s.line.txOverflow s.line.limitFlag

/-- Counters 0 and flags clear (R60, R184). The consecutive error count is not cleared. -/
def State.zeroCounters (s : State) : State :=
  (s.withStop { s.stop with counters := Vector.replicate 14 0 }).withLine
    { s.line with
      crcErrors := 0, stale := 0, txErrors := 0, rxOverflow := false, txOverflow := false
      limitFlag := false }

/-- READ_COUNTERS (R190). -/
def execReadCounters (dataLength : Nat) (s : State) : Host.Outcome State Fault Refusal :=
  s.command dataLength (.next (s.zeroCounters.answer (accept 0 s.counterData)))

/-! ### Notices -/

/-- A notice's enable, mode and latch. -/
def State.notice (s : State) (n : Notice) : NoticeState := s.notices.get (noticeIx n)

/-- NOTICE_READ (R192). -/
def execNoticeRead (dataLength : Nat) (s : State) : Host.Outcome State Fault Refusal :=
  s.command dataLength
    (.next (s.answer (accept 0 (.notices (Notice.all.map fun n => (s.notice n, s.condition n))))))

/-- Rewrite every notice. -/
def State.mapNotices (s : State) (f : Notice → NoticeState → NoticeState) : State :=
  s.withNotices (Notice.all.foldl
    (fun v n => v.set (noticeIx n).val (f n (s.notice n)) (noticeIx n).isLt) s.notices)

/-- A latch is cleared; in LEVEL mode it is set again at once if the condition holds (R191). -/
def NoticeState.clear (x : NoticeState) (holds : Bool) : NoticeState :=
  { x with latch := x.enabled && x.level && holds }

/-- NOTICE_CLEAR (R191). -/
def execNoticeClear (names : List Notice) (fits : Bool) (s : State) :
    Host.Outcome State Fault Refusal :=
  s.command (if fits then 0 else 1)
    (.next ((s.mapNotices fun n x => if names.contains n then x.clear (s.condition n) else x).answer
      (accept 0 .noData)))

/-- A notice set up: disabled, its latch is clear; enabled, it latches if its condition holds (R191,
R192; log 18). -/
def NoticeState.setup (x : NoticeState) (enabled level holds : Bool) : NoticeState :=
  { enabled := enabled, level := level, latch := enabled && (x.latch || holds) }

/-- NOTICE_SETUP (R192). -/
def execNoticeSetup (enable level : List Notice) (fits : Bool) (s : State) :
    Host.Outcome State Fault Refusal :=
  s.command (if fits then 0 else 1)
    (.next ((s.mapNotices fun n x =>
        x.setup (enable.contains n) (level.contains n) (s.condition n)).answer (accept 0 .noData)))

end Sys2Proof.Machine
end

