-- ==== Sys2Proof/Machine/StopFrames.lean ====
section
/-! DEFINITION. The frames of the stop controller: JAMCALL (R55 to R57) and STOPSTATE (R64, R70). -/

namespace Sys2Proof.Machine

/-- The site that a JAMCALL carries; none for a frame that R55 discards as stale. -/
def jamcallSite (f : Frame) : Option Site :=
  if f.epoch = 0 ∨ f.origin = 0 ∨ 8 < byteAt f.payload 1 then none
  else
    (Cause.ofCode (byteAt f.payload 0)).map fun c =>
      { segment := f.origin, cause := c, place := byteAt f.payload 1, sheet := byteAt f.payload 2 }

/-- A JAMCALL joins the current stop: its epoch is current and the node is in a stop (R56). -/
def State.joins (s : State) (f : Frame) : Bool := f.epoch == s.stop.epoch && s.stop.path.stopped

/-- A JAMCALL frame (R55 to R57). -/
def State.jamcallFrom (s : State) (f : Frame) : State :=
  match jamcallSite f with
  | none => s.countStale
  | some x =>
    if s.joins f then (s.withStop (s.stop.addSite x)).haltAheadTest else s.stopStart f.epoch x

/-- JAMCALL_TAKEN (R55). -/
def execJamcallTaken (s : State) : Host.Outcome State Fault Refusal :=
  match s.takeFrame .jamcall with
  | some (f, s1) => done s (s1.jamcallFrom f)
  | none => .next s

/-- An arrival entry whose sender is the segment becomes unresolved (R70). -/
def Arrival.unresolve (seg : Nat) (a : Arrival) : Arrival :=
  if a.sender = seg then { a with unresolved := true } else a

/-- In a stop a halting stance sets unresolved flags (R70). -/
def State.unresolve (s : State) (seg : Nat) (st : Stance) : State :=
  if s.stop.path.stopped && st.isHalting then
    s.withArrivals (s.track.arrivals.map (Arrival.unresolve seg))
  else s

/-- A stance taken (R64): recorded, with the unresolved flags, and the node in FLUSH makes the tests
of R69 and R71. -/
def State.stance (s : State) (seg : Nat) (st : Stance) : State :=
  ((s.withStop (s.stop.setStance seg st)).unresolve seg st).haltAheadTest.drainTest

/-- A STOPSTATE frame (R64). -/
def State.stopstateFrom (s : State) (f : Frame) : State :=
  match stanceOf (byteAt f.payload 0) with
  | none => s.countStale
  | some st =>
    if f.origin = 0 ∨ f.epoch ≠ s.stop.epoch then s.countStale else s.stance f.origin st

/-- STOPSTATE_TAKEN (R64). -/
def execStopstateTaken (s : State) : Host.Outcome State Fault Refusal :=
  match s.takeFrame .stopstate with
  | some (f, s1) => done s (s1.stopstateFrom f)
  | none => .next s

end Sys2Proof.Machine
end

