-- ==== Sys2Proof/Machine/Tick.lean ====
section
/-! DEFINITION. What an idle node does when no command waits (log 3): the node's own step that is due, if there is one, and otherwise the passing of 1 ms on its time base. -/

namespace Sys2Proof.Machine

/-! ### One millisecond -/

/-- A timer that stops at `top`. -/
def tickTo (top t : Nat) : Nat := min top (t + 1)

/-- A station's still time (R29). -/
def State.tickStation (s : State) (k : StationId) : Station :=
  if s.stillRuns k then
    { s.station k with stillTimer := tickTo stillMs (s.station k).stillTimer }
  else s.station k

/-- A zone's step timer and silence timer (R84, R88). -/
def State.tickZone (s : State) (z : ZoneId) (x : Zone) : Zone :=
  { x with
    stepTimer := if s.stepRuns z then tickTo 16 x.stepTimer else x.stepTimer
    silenceTimer := if s.silenceRuns z then tickTo 256 x.silenceTimer else x.silenceTimer }

/-- The drive chain's ready timer (R80). -/
def State.tickChain (s : State) : Chain :=
  if s.readyRuns then { s.chain with readyTimer := tickTo readyMs s.chain.readyTimer } else s.chain

/-- An active pulse width (R96). -/
def Pulse.tick (p : Pulse) : Pulse :=
  { p with active := p.active.map fun w => { w with timer := tickTo counterTop w.timer } }

/-- A published input's hold timer (R100). -/
def Input.tick (x : Input) : Input := { x with hold := x.hold.map (tickTo inputHoldMs) }

/-- The finish operation's timer (R172). -/
def DeliveryUnit.tick (d : DeliveryUnit) : DeliveryUnit :=
  if d.op = .noOp then d else { d with opTimer := tickTo operationMs d.opTimer }

/-- The rest timer (R146). -/
def State.tickFeed (s : State) : FeedUnit :=
  if s.restRuns then { s.feed with restTimer := tickTo s.cfg.restDelay s.feed.restTimer }
  else s.feed

/-- 1 ms passes: every running timer advances. While RESETn is low none runs. -/
def State.tick (s : State) : State :=
  if s.pins.resetn = false then s
  else
    let t := s.withStations
      ⟨s.tickStation .s1, s.tickStation .s2, s.tickStation .s3, s.tickStation .s4⟩
    let t := t.withZones
      ⟨s.tickZone .z1 s.zones.a, s.tickZone .z2 s.zones.b, s.tickZone .z3 s.zones.c⟩
    let t := t.withChain s.tickChain
    let t := t.withPulses (s.pulses.map Pulse.tick)
    let t := t.withTags { s.tags with inputs := s.tags.inputs.map Input.tick }
    let t := t.withSupply { s.supply with hold := s.supply.hold.map (tickTo supplyHoldMs) }
    let t := t.withDeliv s.deliv.tick
    t.withFeed s.tickFeed

/-! ### Steps that are due -/

/-- A command when a condition holds. -/
def whenever (b : Bool) (c : Instr) : List Instr := if b then [c] else []

/-- The command that takes the front frame of the receive queue (R182). -/
def State.dueFrame (s : State) : List Instr :=
  match s.line.rx with
  | [] => []
  | f :: _ =>
    match f.kind with
    | .jamcall => [.jamcallTaken]
    | .stopstate => [.stopstateTaken]
    | .tagstate => [.tagstateTaken]
    | .pass => [.passTaken]
    | .deliver =>
      if deliverVariant f = Variant.compiled.code then [.deliverCompiled]
      else if deliverVariant f = Variant.purge.code then [.deliverPurge]
      else [.deliverFinal]
    | .setclose => [.setcloseTaken]
    | .report => [.reportTaken]
    | .ready => [.readyTaken]
    | .plan => if isBind f then [.planBind] else [.planPurge]
    | .go => [.goTaken]
    | .rest => [.restTaken]

/-- The window and guard tests take effect: RUN and FLUSH (R45). -/
def State.testsAct (s : State) : Bool := s.stop.path == .run || s.stop.path == .flush

/-- The indexes of a list whose entries meet `p`. -/
def indexesOf {α : Type} (p : α → Bool) (l : List α) : List Nat :=
  (List.range l.length).filter fun i => (l[i]?).any p

/-- Filtered edges that are due (R28, R29). At a counted edge the carry is applied before an edge that it
completes (R28), so what the carry brings about, `dueCarry` and `dueTests`, is taken before these. -/
def State.dueEdges (s : State) : List Instr :=
  StationId.all.flatMap (fun k =>
    whenever (s.filterDone k && (s.stationCfg k).filter != 0) (.filterCountComplete k)
    ++ whenever (s.stillRuns k && decide (stillMs ≤ (s.station k).stillTimer)) (.stillEdge k)
    ++ whenever (s.filterDone k && (s.stationCfg k).filter == 0) (.filterCountComplete k))

/-- A station's STALL test fails at an advance of its cover tracker, or its cover count is 65535 (R38,
R41). -/
def State.stallDue (s : State) (k : StationId) : Bool :=
  s.stalled k &&
  (!s.track.stallHeld.get k.ix || (s.station k).coverCount == trackerTop)

/-- Tests that fail and take effect (R38, R93), the orphan's expiry (R12) and the error limit (R179). -/
def State.dueTests (s : State) : List Instr :=
  whenever (decide (errorLimit ≤ s.line.errorRun)) .errorLimitReached
  ++ whenever (s.configured && s.orphanExpired) .orphanHoldExpiry
  ++ if s.testsAct then
    (indexesOf s.lateEntry s.track.table).map .lateAtStation
    ++ (indexesOf s.lateArrival s.track.arrivals).map .lateAtS1
    ++ StationId.all.flatMap (fun k => whenever (s.stallDue k) (.stall k))
    ++ (indexesOf s.guardFails s.gate.claims).map .gateGuardFail
  else []

/-- A pulse delay that is complete with no width active (R96). -/
def Pulse.delayDue (p : Pulse) : Bool :=
  p.active.isNone && p.delay.any fun d => decide (d.target ≤ d.tracker)

/-- The PASS that is due for the entry at index `i`: at its pass point (R17), or withheld there before (R5,
R18). -/
def State.duePass (s : State) (i : Nat) : List Instr :=
  match s.track.table[i]? with
  | some e => whenever (s.passDue e) (.passPointReached i) ++ whenever (s.deferredDue e) (.deferredPass i)
  | none => []

/-- Pass points that a tracker has reached, PASSes withheld there before, and delays that a tracker has
completed (R5, R17, R18, R96). Between entries whose PASS falls due at one advance the rules give no order:
the model goes from the front of the table to its back, be the PASS one at its pass point or a withheld one,
so that an entry leaves ahead of those behind it (R6; DESIGN CHOICE, log 60). -/
def State.dueCarry (s : State) : List Instr :=
  (List.range s.track.table.length).flatMap s.duePass
  ++ PulseId.all.flatMap fun p => whenever (s.pulse p).delayDue (.pulseDelayComplete p)

/-- A width whose timer has reached B (R96). -/
def Pulse.widthDue (p : Pulse) : Bool := p.active.any fun w => decide (w.width ≤ w.timer)

/-- Timers that have run out (R80, R84, R88, R96, R100, R112, R146, R172). The zones come
before the supply, whose brake brings the node to rest at once (log 3, log 40). -/
def State.dueTimers (s : State) : List Instr :=
  PulseId.all.flatMap (fun p => whenever (s.pulse p).widthDue (.pulseWidthEnd p))
  ++ whenever (s.readyRuns && decide (readyMs ≤ s.chain.readyTimer)) .readyTimerExpiry
  ++ ZoneId.all.flatMap (fun z =>
    whenever (s.stepRuns z && decide ((s.zoneCfg z).stepMs ≤ (s.zone z).stepTimer)) (.zoneStep z)
    ++ whenever (s.silenceReached z) (.silenceTimeout z))
  ++ InputId.all.flatMap (fun i =>
    whenever (s.holdRuns i && (s.input i).hold.any fun h => decide (inputHoldMs ≤ h))
      (.tagHoldExpiry i))
  ++ whenever (s.supplyRuns && s.supply.hold.any fun h => decide (supplyHoldMs ≤ h))
      .supplyHoldExpiry
  ++ whenever (s.deliv.op != .noOp && decide (operationMs ≤ s.deliv.opTimer)) .operationTimeout
  ++ whenever (s.restRuns && decide (s.cfg.restDelay ≤ s.feed.restTimer)) .restTimerExpiry

/-- A frame waits in a block's own list and a place is open to it (R180). -/
def State.dueLists (s : State) : List Instr :=
  whenever (!s.deliv.announce.isEmpty && s.line.open 4) .announcementQueued
  ++ whenever (s.clear.phase == .reporting && !s.clear.reports.isEmpty && !s.clear.withdrawn &&
      s.line.open 5) .reportQueued
  ++ whenever ((s.clear.withdrawn || s.readyDue) && s.line.open 5) .readyQueued
  ++ whenever (s.plan.phase == .emitting && !s.plan.list.isEmpty && s.line.open 6) .planFrameQueued
  ++ whenever (s.plan.goDue && s.line.open 6) .planGoQueued

/-- A zone in use at rest whose rise request would be taken (R84). -/
def State.riseWanted (s : State) : Bool :=
  !s.braking && s.chain.state != .failed &&
  ZoneId.all.any fun z => s.inUse z && (s.zone z).atRest && !(s.zone z).risePending

/-- The survey starts at once when its conditions hold (R115), whatever event made them hold (DESIGN CHOICE,
log 62). -/
def State.dueSurvey (s : State) : List Instr := whenever s.surveyReady .surveyStart

/-- Issue and start (R136, R137, R145). A start GO that finds no place is tried again at each 1 ms, and
only its first failure changes anything (log 29). The start GO is due as soon as its test holds, also after
an event that R145 does not list: a stream fault set in IDLE by DELIVER PURGE, which brings another candidate
forward (DESIGN CHOICE, log 62). -/
def State.dueStarts (s : State) : List Instr :=
  whenever s.issuable.isSome .issue
  ++ whenever (s.isKind .feed && s.stop.path == .run && decide (s.cfg.paceGap ≤ s.feed.pace) &&
      s.feed.candidate.isSome && s.riseWanted) .paceGapReached
  ++ whenever (s.startTest && (s.line.open 6 || !s.line.txOverflow)) .startGo

/-- The steps of the node's own that are due, in the order in which they are taken (log 3). -/
def State.due (s : State) : List Instr :=
  s.dueCarry ++ s.dueTests ++ s.dueSurvey ++ s.dueFrame ++ s.dueEdges ++ s.dueTimers ++ s.dueLists
  ++ s.dueStarts

end Sys2Proof.Machine
end

