-- ==== Sys2Proof/Machine/Dispatch.lean ====
section
/-! DEFINITION. The meaning of each command: one arm for each constructor of Instr. -/

namespace Sys2Proof.Machine

def exec (i : Instr) (s : State) : Host.Outcome State Fault Refusal :=
  match i with
  | .powerOnReset => Sys2Proof.Machine.execPowerOnReset s
  | .configWrite item value => Sys2Proof.Machine.execConfigWrite item value s
  | .configRead item dataLength => Sys2Proof.Machine.execConfigRead item dataLength s
  | .start dataLength => Sys2Proof.Machine.execStart dataLength s
  | .restart dataLength => Sys2Proof.Machine.execRestart dataLength s
  | .pageSubmit data => Sys2Proof.Machine.execPageSubmit data s
  | .streamCancel stream dataLength => Sys2Proof.Machine.execStreamCancel stream dataLength s
  | .streamRelease stream dataLength => Sys2Proof.Machine.execStreamRelease stream dataLength s
  | .read collection index dataLength => Sys2Proof.Machine.execRead collection index dataLength s
  | .readCounters dataLength => Sys2Proof.Machine.execReadCounters dataLength s
  | .noticeRead dataLength => Sys2Proof.Machine.execNoticeRead dataLength s
  | .noticeClear names fits => Sys2Proof.Machine.execNoticeClear names fits s
  | .noticeSetup enable level fits => Sys2Proof.Machine.execNoticeSetup enable level fits s
  | .encoderCountedEdge z rising => Sys2Proof.Machine.execEncoderCountedEdge z rising s
  | .sensorRawChange k high => Sys2Proof.Machine.execSensorRawChange k high s
  | .filterCountComplete k => Sys2Proof.Machine.execFilterCountComplete k s
  | .stillEdge k => Sys2Proof.Machine.execStillEdge k s
  | .passPointReached index => Sys2Proof.Machine.execPassPointReached index s
  | .deferredPass index => Sys2Proof.Machine.execDeferredPass index s
  | .lateAtStation index => Sys2Proof.Machine.execLateAtStation index s
  | .lateAtS1 index => Sys2Proof.Machine.execLateAtS1 index s
  | .stall k => Sys2Proof.Machine.execStall k s
  | .orphanHoldExpiry => Sys2Proof.Machine.execOrphanHoldExpiry s
  | .gateGuardFail index => Sys2Proof.Machine.execGateGuardFail index s
  | .pulseDelayComplete p => Sys2Proof.Machine.execPulseDelayComplete p s
  | .pulseWidthEnd p => Sys2Proof.Machine.execPulseWidthEnd p s
  | .paceGapReached => Sys2Proof.Machine.execPaceGapReached s
  | .issue => Sys2Proof.Machine.execIssue s
  | .startGo => Sys2Proof.Machine.execStartGo s
  | .restTimerExpiry => Sys2Proof.Machine.execRestTimerExpiry s
  | .drdyPresent => Sys2Proof.Machine.execDrdyPresent s
  | .readyTimerExpiry => Sys2Proof.Machine.execReadyTimerExpiry s
  | .drdyLost => Sys2Proof.Machine.execDrdyLost s
  | .zoneStep z => Sys2Proof.Machine.execZoneStep z s
  | .silenceTimeout z => Sys2Proof.Machine.execSilenceTimeout z s
  | .inputPinChange p high => Sys2Proof.Machine.execInputPinChange p high s
  | .tagHoldExpiry p => Sys2Proof.Machine.execTagHoldExpiry p s
  | .vsenseChange microvolts => Sys2Proof.Machine.execVsenseChange microvolts s
  | .supplyHoldExpiry => Sys2Proof.Machine.execSupplyHoldExpiry s
  | .fdone high => Sys2Proof.Machine.execFdone high s
  | .operationTimeout => Sys2Proof.Machine.execOperationTimeout s
  | .announcementQueued => Sys2Proof.Machine.execAnnouncementQueued s
  | .jamcallTaken => Sys2Proof.Machine.execJamcallTaken s
  | .stopstateTaken => Sys2Proof.Machine.execStopstateTaken s
  | .tagstateTaken => Sys2Proof.Machine.execTagstateTaken s
  | .passTaken => Sys2Proof.Machine.execPassTaken s
  | .deliverFinal => Sys2Proof.Machine.execDeliverFinal s
  | .deliverCompiled => Sys2Proof.Machine.execDeliverCompiled s
  | .deliverPurge => Sys2Proof.Machine.execDeliverPurge s
  | .setcloseTaken => Sys2Proof.Machine.execSetcloseTaken s
  | .reportTaken => Sys2Proof.Machine.execReportTaken s
  | .readyTaken => Sys2Proof.Machine.execReadyTaken s
  | .planFrameQueued => Sys2Proof.Machine.execPlanFrameQueued s
  | .planGoQueued => Sys2Proof.Machine.execPlanGoQueued s
  | .planPurge => Sys2Proof.Machine.execPlanPurge s
  | .planBind => Sys2Proof.Machine.execPlanBind s
  | .goTaken => Sys2Proof.Machine.execGoTaken s
  | .restTaken => Sys2Proof.Machine.execRestTaken s
  | .surveyStart => Sys2Proof.Machine.execSurveyStart s
  | .reportQueued => Sys2Proof.Machine.execReportQueued s
  | .readyQueued => Sys2Proof.Machine.execReadyQueued s
  | .frameTransmitStart => Sys2Proof.Machine.execFrameTransmitStart s
  | .arbitrationLost => Sys2Proof.Machine.execArbitrationLost s
  | .transmitError => Sys2Proof.Machine.execTransmitError s
  | .errorLimitReached => Sys2Proof.Machine.execErrorLimitReached s
  | .frameSent => Sys2Proof.Machine.execFrameSent s
  | .frameReceived bits => Sys2Proof.Machine.execFrameReceived bits s
  | .resetnLow => Sys2Proof.Machine.execResetnLow s
  | .frameCutShort => Sys2Proof.Machine.execFrameCutShort s

end Sys2Proof.Machine
end

