-- ==== Sys2Proof/Machine/Step.lean ====
section
/-! DEFINITION. One step of the machine: the command in front of the queue, or what an idle node does. -/

namespace Sys2Proof.Machine

/-- The command in front of the queue is taken, with the queue's rest. On an empty queue the node's own
step that is due is taken, and where none is due 1 ms passes (DESIGN CHOICE, log 3). -/
def step (s : State) : Host.Outcome State Fault Refusal :=
  match s.pending with
  | c :: rest => exec c (s.withPending rest)
  | [] =>
    match s.due with
    | c :: _ => exec c s
    | [] => .next s.tick

/-- The command that a word spells is put in front of the queue; a word that spells none changes
nothing. The table gives no bits, so no word spells a command (log 4). -/
def State.withFetchWord (s : State) (nbits w : Nat) : State :=
  match Sys2Proof.decodeTableWord nbits w with
  | some c => s.withPending (c :: s.pending)
  | none => s

end Sys2Proof.Machine
end

