-- ==== Sys2Proof/Safety.lean ====
section
/-! DEFINITION. The terms that the statements use: what a command may change, the invariants of a node, and what a stop's beginning and a start leave. -/

namespace Sys2Proof.Machine

/-! ### Frames -/

/-- The parts of State. -/
inductive Part where
  | cfg | pins | stop | stations | zones | chain | track | gate | pulses | tags | supply | clear
  | feed | plan | deliv | line | notices | reply | pending
deriving DecidableEq, Repr

/-- A part is the same in two states. -/
def Part.same (p : Part) (s t : State) : Prop :=
  match p with
  | .cfg => t.cfg = s.cfg
  | .pins => t.pins = s.pins
  | .stop => t.stop = s.stop
  | .stations => t.stations = s.stations
  | .zones => t.zones = s.zones
  | .chain => t.chain = s.chain
  | .track => t.track = s.track
  | .gate => t.gate = s.gate
  | .pulses => t.pulses = s.pulses
  | .tags => t.tags = s.tags
  | .supply => t.supply = s.supply
  | .clear => t.clear = s.clear
  | .feed => t.feed = s.feed
  | .plan => t.plan = s.plan
  | .deliv => t.deliv = s.deliv
  | .line => t.line = s.line
  | .notices => t.notices = s.notices
  | .reply => t.reply = s.reply
  | .pending => t.pending = s.pending

/-- Every part outside `l` is unchanged. -/
def changesOnly (l : List Part) (s t : State) : Prop := ∀ p, p ∉ l → p.same s t

/-- The parts that a stop's beginning and its stance rules may change. -/
def stopParts : List Part :=
  [.stop, .zones, .chain, .track, .pulses, .tags, .clear, .feed, .plan, .line, .notices]

/-- The parts that a filtered edge may change. -/
def edgeParts : List Part := [.stations, .gate, .deliv] ++ stopParts

/-- The parts that a command may change; it leaves every other part as it was. -/
def mayChange : Instr → List Part
  | .powerOnReset | .resetnLow =>
    [.cfg, .pins, .stop, .stations, .zones, .chain, .track, .gate, .pulses, .tags, .supply, .clear,
     .feed, .plan, .deliv, .line, .notices, .reply]
  | .start _ | .restart _ =>
    [.stop, .stations, .zones, .chain, .track, .gate, .pulses, .tags, .clear, .feed, .plan, .deliv,
     .line, .notices, .reply]
  | .configWrite _ _ => [.cfg, .supply, .reply]
  | .configRead _ _ | .read _ _ _ | .noticeRead _ => [.reply]
  | .readCounters _ => [.stop, .line, .reply]
  | .noticeClear _ _ | .noticeSetup _ _ _ => [.notices, .reply]
  | .pageSubmit _ | .streamCancel _ _ | .streamRelease _ _ => [.feed, .zones, .chain, .notices, .reply]
  | .encoderCountedEdge _ _ => [.pins, .zones, .stations, .track, .pulses, .feed, .notices]
  | .sensorRawChange _ _ => .pins :: edgeParts
  | .filterCountComplete _ | .stillEdge _ => edgeParts
  | .passPointReached _ | .deferredPass _ | .passTaken => .gate :: stopParts
  | .lateAtStation _ | .lateAtS1 _ | .stall _ | .gateGuardFail _ | .orphanHoldExpiry
  | .pulseDelayComplete _ | .pulseWidthEnd _ | .issue | .restTimerExpiry | .readyTimerExpiry
  | .zoneStep _ | .silenceTimeout _ | .tagHoldExpiry _ | .jamcallTaken | .stopstateTaken
  | .errorLimitReached | .transmitError | .frameSent | .frameReceived _ => stopParts
  | .paceGapReached => [.zones, .chain, .notices]
  | .startGo => [.line, .feed, .notices]
  | .drdyPresent => [.pins, .chain, .zones, .notices]
  | .drdyLost => .pins :: stopParts
  | .inputPinChange _ _ => [.pins, .tags]
  | .vsenseChange _ => [.pins, .supply]
  | .supplyHoldExpiry => .supply :: stopParts
  | .fdone _ => [.pins, .gate, .deliv] ++ stopParts
  | .operationTimeout => [.deliv, .clear, .notices]
  | .announcementQueued => [.deliv, .line, .notices]
  | .tagstateTaken => .deliv :: stopParts
  | .deliverFinal | .deliverCompiled | .deliverPurge | .setcloseTaken =>
    [.feed, .zones, .chain, .line, .notices]
  | .reportTaken | .planFrameQueued | .planGoQueued => [.plan, .line, .notices]
  | .readyTaken => [.feed, .plan, .line, .notices]
  | .planPurge | .planBind => [.track, .clear, .line, .notices]
  | .goTaken => [.stations, .gate] ++ stopParts
  | .restTaken => [.stop, .zones, .chain, .track, .pulses, .feed, .line, .notices]
  | .surveyStart => [.stop, .chain, .track, .gate, .clear, .feed, .deliv, .notices]
  | .reportQueued => [.clear, .line, .notices]
  | .readyQueued => [.stop, .chain, .track, .clear, .feed, .plan, .line, .notices]
  | .frameTransmitStart | .arbitrationLost | .frameCutShort => [.line]

/-! ### Invariants -/

/-- Thirteen collections are within their capacities (R4, R7, R47, R89, R132, R150, R152, R166, R169, R180,
R182): all but the report list and the bind list of R114. -/
structure WithinCaps (s : State) : Prop where
  table : s.track.table.length ≤ tableCap
  arrivals : s.track.arrivals.length ≤ arrivalCap
  sites : s.stop.sites.length ≤ siteCap
  claims : s.gate.claims.length ≤ claimCap
  pages : s.feed.pages.length ≤ pageCap
  resume : s.feed.resume.length ≤ resumeCap
  issued : s.feed.issued.length ≤ issuedCap
  candidates : s.plan.candidates.length ≤ candidateCap
  plan : s.plan.list.length ≤ 56
  compile : s.deliv.compile.length ≤ compileCap
  announce : s.deliv.announce.length ≤ announceCap
  tx : s.line.tx.length ≤ txCap
  rx : s.line.rx.length ≤ rxCap

/-- No two segment-table entries have the same sheet ID (R4). -/
def sheetsUnique (s : State) : Prop := (s.track.table.map fun e => e.record.sheet).Nodup

/-- The site-list law (R47, R58), with the own-cause record absent in IDLE, RUN and READY (R48, R59). -/
structure SiteLaw (s : State) : Prop where
  few : s.stop.sites.length ≤ siteCap
  distinct : (s.stop.sites.map Site.segment).Nodup
  quiet : s.stop.path = .idle ∨ s.stop.path = .run → s.stop.sites = []
  stopped : s.stop.path.stopped = true → s.stop.sites ≠ []
  ownAbsent : s.stop.path = .idle ∨ s.stop.path = .run ∨ s.stop.path = .ready → s.stop.own = none

/-- While the stop aggregate is asserted or the supply monitor reads low, every zone in use is IDLE or
BRAKED (R113), and no rise of it waits (R84, R87). -/
def brakeLaw (s : State) : Prop :=
  s.braking = true → ∀ z, s.inUse z = true →
    ((s.zone z).state = .idle ∨ (s.zone z).state = .braked) ∧ (s.zone z).risePending = false

/-- A survey in hand belongs to CLEARING: it waits for the finisher or its reports go out (R114, R116,
R118, R125). -/
def surveyLaw (s : State) : Prop := s.clear.phase ≠ .noSurvey → s.stop.path = .clearing

/-- The zones through a halt: a rise waits on a zone at rest (R84), none waits from HALTING on (R73),
and in HALTED, CLEARING and READY every zone in use is at rest (R74). -/
structure RestLaw (s : State) : Prop where
  waits : ∀ z, s.inUse z = true → (s.zone z).risePending = true → (s.zone z).atRest = true
  quiet : s.stop.path ∈ [PathState.halting, .halted, .clearing, .ready] →
    ∀ z, s.inUse z = true → (s.zone z).risePending = false
  still : s.stop.path ∈ [PathState.halted, .clearing, .ready] →
    ∀ z, s.inUse z = true → (s.zone z).atRest = true

/-- Stream and page1 of every page in the page queue, the issued list and the resume queue. -/
def pageKeys (s : State) : List (Fin 4 × Nat) :=
  s.feed.pages.map (fun d => (d.stream, d.page1)) ++
  s.feed.issued.map (fun i => (i.page.stream, i.page.page1)) ++
  s.feed.resume.map (fun d => (d.stream, d.page1))

/-- No page appears twice across the three collections (R133, R161). -/
def pagesDistinct (s : State) : Prop := (pageKeys s).Nodup

/-- No two issued entries share a sheet ID (R135), with what the blank candidates hold while a plan is
gathered (R152): one candidate for a sheet, merged HELD-BLANK. -/
structure IssuedLaw (s : State) : Prop where
  sheets : (s.feed.issued.map Issued.sheet).Nodup
  candidates : (s.plan.candidates.map Candidate.sheet).Nodup
  blank : ∀ c ∈ s.plan.candidates, 1 ≤ c.sheet ∧ c.sheet ≤ 255 ∧
    (s.plan.entry c.sheet).disposition = some .heldBlank

/-- A record's measured length is at most 8191 pu (R37). -/
def measuredInRange (r : SheetRecord) : Prop := ∀ l ∈ r.measured, l ≤ 8191

/-- Trackers and cover counts are at most 65535 (R26), fractions below 4096 (R25), and measured lengths
at most 8191 (R37). -/
structure InRange (s : State) : Prop where
  lead : ∀ e ∈ s.track.table, e.leadTracker ≤ trackerTop
  pass : ∀ e ∈ s.track.table, ∀ d ∈ e.passTracker, d ≤ trackerTop
  link : ∀ a ∈ s.track.arrivals, a.link ≤ trackerTop
  orphan : ∀ d ∈ s.track.orphan, d ≤ trackerTop
  coverCount : ∀ k, (s.station k).coverCount ≤ trackerTop
  cover : ∀ k, (s.station k).coverTracker ≤ trackerTop
  gap : ∀ k, (s.station k).gapTracker ≤ trackerTop
  delay : ∀ p, ∀ d ∈ (s.pulse p).delay, d.tracker ≤ trackerTop
  pace : s.feed.pace ≤ trackerTop
  frac : ∀ z, (s.zone z).frac < 4096
  tableLength : ∀ e ∈ s.track.table, measuredInRange e.record
  arrivalLength : ∀ a ∈ s.track.arrivals, measuredInRange a.record

/-- A side state stays, or moves as the image rule or the fix rule moves it (R19 to R21). -/
def sideMoves (kind : Option NodeKind) (a b : SideState) : Prop :=
  b = a ∨ (kind = some .image ∧ a = .blank ∧ b = .unfixed) ∨
  (kind = some .fix ∧ a = .unfixed ∧ b = .fixed)

/-! ### A stop begun -/

/-- The count of a cause. -/
def State.causeCount (s : State) (c : Cause) : Nat := (s.stop.counters[c.code - 1]?).getD 0

/-- A zone that rises or runs, as a fall request leaves it (R86): FALLING from the first entry of its fall
region whose value is at or below its output, or IDLE where none is. -/
def Falls (s : State) (z : ZoneId) (x : Zone) : Prop :=
  (∃ i, (s.zoneCfg z).fallStart ≤ i ∧ i ≤ (s.zoneCfg z).fallEnd ∧
    s.profileAt i ≤ (s.zone z).output ∧
    (∀ j, (s.zoneCfg z).fallStart ≤ j → j < i → (s.zone z).output < s.profileAt j) ∧
    x.state = .falling ∧ x.position = i ∧ x.output = s.profileAt i ∧ x.stepTimer = 0) ∨
  ((∀ i, (s.zoneCfg z).fallStart ≤ i → i ≤ (s.zoneCfg z).fallEnd →
      (s.zone z).output < s.profileAt i) ∧
    x.state = .idle ∧ x.output = 0)

/-- The own-cause record holds SUPPLY or INTERLOCK, by which every zone is braked (R73). -/
def callsBrake (own : Option OwnCause) : Prop :=
  ∃ o, own = some o ∧ (o.cause = .supply ∨ o.cause = .interlock)

/-- The path state of a node that has entered HALTING with its zones as `t` has them (R74): HALTING while
one moves, HALTED with every zone at rest, and on to CLEARING where the panel group is open (R116). A brake,
and a fall that finds no entry, have brought a zone to rest at that moment (log 11). -/
def RestPath (s t : State) : Prop :=
  ((∃ z, s.inUse z = true ∧ (t.zone z).atRest = false) → t.stop.path = .halting) ∧
  ((∀ z, s.inUse z = true → (t.zone z).atRest = true) →
    t.stop.path = if s.groupOpen = true then .clearing else .halted)

/-- The STOPSTATE that announces a stance under the current epoch (R63). -/
def State.stanceNotice (s : State) (st : Stance) : Frame :=
  { kind := .stopstate, origin := s.cfg.segment, epoch := s.stop.epoch
    payload := stopstatePayload st }

/-- The one STOPSTATE of an entry to HALTING (R63, R73): HALTING while a zone moves, and HALTED alone where
the node came to rest at once. -/
def State.restNotice (s : State) : Frame :=
  s.stanceNotice (if s.stop.path = .halting then .halting else .halted)

/-- Entry to HALTING from `s` (R73, R74): with SUPPLY or INTERLOCK as own cause every zone is braked; else a
zone that rises or runs falls, a falling one goes on, one at rest stays so, and its pending rise is withdrawn. -/
structure EntersHalting (s t : State) : Prop where
  braked : callsBrake t.stop.own → ∀ z, s.inUse z = true →
    (t.zone z).state = .braked ∧ (t.zone z).output = 0 ∧ (t.zone z).risePending = false
  falls : ¬ callsBrake t.stop.own → ∀ z, s.inUse z = true →
    (s.zone z).state = .rising ∨ (s.zone z).state = .running → Falls s z (t.zone z)
  falling : ¬ callsBrake t.stop.own → ∀ z, s.inUse z = true →
    (s.zone z).state = .falling → t.zone z = s.zone z
  atRest : ¬ callsBrake t.stop.own → ∀ z, s.inUse z = true →
    (s.zone z).atRest = true → t.zone z = { s.zone z with risePending := false }
  path : RestPath s t

/-- What a cause that takes effect in RUN leaves (R51, with R46, R48, R50, R60, row 1 of R66, R63, R73 and
R74): the next epoch, the one site, the own-cause record, the stance table UNKNOWN, the node on its way to
rest with no zone rising or running, braked by SUPPLY and INTERLOCK, its stance announced once, the cause
counted and its JAMCALL queued under the new epoch. -/
structure StopBegun (s : State) (c : Cause) (place sheet : Nat) (t : State) : Prop where
  epoch : t.stop.epoch = nextEpoch s.stop.epoch
  sites : t.stop.sites = [s.siteOf c place sheet]
  overflow : t.stop.overflow = false
  own : t.stop.own = some { cause := c, place := place, sheet := sheet, cycle := c.needsCycle }
  stances : t.stop.stances = Vector.replicate 15 .unknown
  path : t.stop.path = .halting ∨ t.stop.path = .halted ∨ t.stop.path = .clearing
  rest : RestPath s t
  still : ∀ z, s.inUse z = true → (t.zone z).state ≠ .rising ∧ (t.zone z).state ≠ .running ∧
    ((s.zone z).atRest = true → (t.zone z).atRest = true ∧ (t.zone z).risePending = false)
  falls : ∀ z, s.inUse z = true → (s.zone z).state = .rising ∨ (s.zone z).state = .running →
    (t.zone z).state ≠ .braked → Falls s z (t.zone z)
  braked : c = .supply ∨ c = .interlock → ∀ z, s.inUse z = true → (t.zone z).state = .braked
  announced : t.restNotice ∈ t.line.tx
  onlyHalted : t.stop.path ≠ .halting →
    t.stanceNotice .halting ∈ t.line.tx → t.stanceNotice .halting ∈ s.line.tx
  counted : t.causeCount c = satAdd counterTop (s.causeCount c) 1
  jamcall : { kind := .jamcall, origin := s.cfg.segment, epoch := nextEpoch s.stop.epoch
              payload := jamcallPayload (s.siteOf c place sheet) } ∈ t.line.tx

/-- What a cause that joins the current stop leaves, but for the path state (R52, with R47, R48, R60): the
epoch and the stances, a site of this node where it had none and four are not listed, the own-cause
record's first cause, the cause counted and its JAMCALL queued. -/
structure StopJoined (s : State) (c : Cause) (place sheet : Nat) (t : State) : Prop where
  epoch : t.stop.epoch = s.stop.epoch
  stances : t.stop.stances = s.stop.stances
  ownFirst : s.stop.own = none → t.stop.own = some ⟨c, place, sheet, c.needsCycle⟩
  ownLater : ∀ o, s.stop.own = some o → t.stop.own = some { o with cycle := o.cycle || c.needsCycle }
  listed : (∃ x ∈ s.stop.sites, x.segment = s.cfg.segment) →
    t.stop.sites = s.stop.sites ∧ t.stop.overflow = s.stop.overflow
  added : (∀ x ∈ s.stop.sites, x.segment ≠ s.cfg.segment) → s.stop.sites.length < 4 →
    t.stop.sites = s.stop.sites ++ [s.siteOf c place sheet] ∧ t.stop.overflow = s.stop.overflow
  full : (∀ x ∈ s.stop.sites, x.segment ≠ s.cfg.segment) → 4 ≤ s.stop.sites.length →
    t.stop.sites = s.stop.sites ∧ t.stop.overflow = true
  counted : t.causeCount c = min 255 (s.causeCount c + 1)
  jamcall : ⟨.jamcall, s.cfg.segment, s.stop.epoch, jamcallPayload (s.siteOf c place sheet)⟩ ∈ t.line.tx

/-- A halt lies at a segment (R65): it is a site, or its stance is HALTING or HALTED. -/
def HaltsAt (u : StopUnit) (seg : Nat) : Prop :=
  seg ≠ 0 ∧ ((∃ x ∈ u.sites, x.segment = seg) ∨ u.stanceOfSegment seg ∈ [Stance.halting, .halted])

/-- A halt lies ahead of some item of the node, by the sites and stances of `u` (R65). -/
def HaltAhead (s : State) (u : StopUnit) : Prop :=
  (∃ e ∈ s.track.table, e.loc ≠ .held ∧ HaltsAt u (s.nextOf e)) ∨
  (∃ a ∈ s.track.arrivals, HaltsAt u (s.nextByLeg a.record))

/-! ### Values at START -/

/-- The frames queued at START and RESTART (R101): the start announcement, then one TAGSTATE for each
published input, IN1 to IN4, with the input's raw level. -/
def startFrames (s : State) : List Frame :=
  { kind := .tagstate, origin := s.cfg.segment, epoch := 0, payload := tagstatePayload 0 false } ::
  (InputId.all.filter fun i => s.inputTag i != 0).map fun i =>
    { kind := .tagstate, origin := s.cfg.segment, epoch := 0
      payload := tagstatePayload (s.inputTag i) (s.rawInput i) }

/-- The values that START and RESTART give (R186, R187): the configuration, the pins and the supply
monitor kept; the node in IDLE; every other block at its start value; the zones IDLE, and BRAKED where `braked`
says that they are called to a stop. -/
structure Started (s t : State) (braked : Bool) : Prop where
  cfg : t.cfg = s.cfg
  pins : t.pins = s.pins
  supply : t.supply = s.supply
  pending : t.pending = s.pending
  stop : t.stop = { StopUnit.reset with path := .idle }
  stations : t.stations = State.reset.stations
  chain : t.chain = { state := .off, readyTimer := 0 }
  track : t.track = State.reset.track
  gate : t.gate = { pos := .a, claims := [] }
  pulses : t.pulses = State.reset.pulses
  slots : t.tags.slots = Vector.replicate 8 .unknown
  inputs : ∀ i, s.inputTag i ≠ 0 → t.input i = { level := s.rawInput i, hold := none }
  cycle : t.tags.panelCycle = t.groupOpen
  clear : t.clear = .reset
  feed : t.feed = .reset
  plan : t.plan = .reset
  deliv : t.deliv = .reset
  zones : ∀ z, t.inUse z = true →
    t.zone z = { Zone.reset with state := if braked then .braked else .idle }
  line : t.line = { LineUnit.reset with tx := startFrames s }

/-- The conditions of the table of R186: check `n` of START fails. -/
def checkFails (c : Configuration) : (n : Nat) → Prop
  | 1 => c.segment = 0 ∨ c.kind = none
  | 2 => ∀ k, cfgPresent c k = false
  | 3 => ∃ j k : StationId, j.num < k.num ∧ cfgPresent c j = false ∧ cfgPresent c k = true
  | 4 => ∃ k, cfgPresent c k = true ∧ (c.zones.get (c.stations.get k.ix).zone.ix).pitch = 0
  | 5 => ∃ k, cfgPresent c k = true ∧
      ((c.zones.get (c.stations.get k.ix).zone.ix).riseEnd <
        (c.zones.get (c.stations.get k.ix).zone.ix).riseStart ∨
       (c.zones.get (c.stations.get k.ix).zone.ix).fallEnd <
        (c.zones.get (c.stations.get k.ix).zone.ix).fallStart)
  | 6 => ((∀ k ∈ c.kind, k ∉ [NodeKind.stack, .finish, .purge]) ∧ c.nextSegment = 0 ∧ c.legMap = []) ∨
      (c.legMap ≠ [] ∧ ∀ row ∈ c.legMap, row.leg ≠ .purge)
  | 7 => (∃ row ∈ c.legMap, row.route.gate = .b) ∧
      (cfgPresent c c.gateSet = false ∨ cfgPresent c c.gateStation = false)
  | 8 => c.kind = some .feed ∧ (c.segment ∉ c.roster ∨ c.purgeSink ∉ c.roster)
  | 9 => (c.kind = some .image ∧ cfgPresent c c.imageStation = false) ∨
      (c.kind = some .fix ∧ cfgPresent c c.fixStation = false) ∨
      (c.kind = some .turn ∧ cfgPresent c c.turnStation = false)
  | 10 => (∃ p : PulseId, ∃ k, (c.pulses.get p.ix).source = .station k ∧
        ((c.pulses.get p.ix).qualifier = .pick ∨ cfgPresent c k = false)) ∨
      (∃ p : PulseId, (c.pulses.get p.ix).source = .issue ∧
        ((c.pulses.get p.ix).qualifier ≠ .pick ∨ p = .p2 ∨ c.kind ≠ some .feed)) ∨
      (c.kind = some .feed ∧ c.pulses.a.source ≠ .issue) ∨
      (c.kind = some .image ∧ c.pulses.a.qualifier = .release ∧ c.pulses.b.qualifier = .release)
  | 11 => c.kind ≠ some .feed ∧ ∃ x ∈ c.slots.toList, x.tray ≠ ⟨false, false, false, false⟩
  | _ => False

/-! ### Local commands -/

/-- The commands of the local port (11.6). -/
def isLocal : Instr → Bool
  | .configWrite _ _ | .configRead _ _ | .start _ | .restart _ | .pageSubmit _ | .streamCancel _ _
  | .streamRelease _ _ | .read _ _ _ | .readCounters _ | .noticeRead _ | .noticeClear _ _
  | .noticeSetup _ _ _ => true
  | _ => false

/-- The range of an item that holds a number (12.1). The rest delay, which moves in steps of 100 ms,
is left out. -/
def numberRange : ConfigItem → Option (Int × Int)
  | .segment | .purgeSink => some (1, 15)
  | .stationZone k => if 1 ≤ k ∧ k ≤ 4 then some (1, 3) else none
  | .stationFilter k => if 1 ≤ k ∧ k ≤ 4 then some (0, 15) else none
  | .stationSpacing k => if 2 ≤ k ∧ k ≤ 4 then some (1, 20000) else none
  | .stationGain k => if 1 ≤ k ∧ k ≤ 4 then some (0, 131071) else none
  | .stationOffset k => if 1 ≤ k ∧ k ≤ 4 then some (-32768, 32767) else none
  | .passDistance => some (0, 2000)
  | .orphanHold | .gateGuard => some (0, 1023)
  | .upstreamSegment i => if 1 ≤ i ∧ i ≤ 2 then some (0, 15) else none
  | .linkDistance i => if 1 ≤ i ∧ i ≤ 2 then some (1, 20000) else none
  | .pickDistance | .gateDistance => some (1, 20000)
  | .nextSegment | .pageLow => some (0, 15)
  | .imageStation | .fixStation | .turnStation | .gateSet | .gateStation | .paceStation => some (1, 4)
  | .windowLate m | .windowStall m | .windowTolerance m => if m ≤ 3 then some (0, 1023) else none
  | .gapMin | .paceGap => some (0, 4095)
  | .pitch z => if 1 ≤ z ∧ z ≤ 3 then some (1, 65535) else none
  | .riseStart z | .riseEnd z | .fallStart z | .fallEnd z =>
    if 1 ≤ z ∧ z ≤ 3 then some (0, 255) else none
  | .stepInterval z => if 1 ≤ z ∧ z ≤ 3 then some (1, 16) else none
  | .silenceExp z => if 1 ≤ z ∧ z ≤ 3 then some (2, 8) else none
  | .profile e => if e ≤ 255 then some (0, 4095) else none
  | .pulseA1 p | .pulseA2 p => if 1 ≤ p ∧ p ≤ 2 then some (0, 65535) else none
  | .pulseB1 p | .pulseB2 p => if 1 ≤ p ∧ p ≤ 2 then some (1, 255) else none
  | .pickWidth => some (1, 255)
  | .inputTag i => if 1 ≤ i ∧ i ≤ 4 then some (0, 63) else none
  | .slotTag n => if 1 ≤ n ∧ n ≤ 8 then some (0, 63) else none
  | .supplySelect => some (0, 3)
  | _ => none

/-- A list of segment IDs 1 to 15, none twice, of at most `most`. -/
def listFits (most : Nat) (l : List Nat) : Prop :=
  l.length ≤ most ∧ l.Nodup ∧ ∀ g ∈ l, 1 ≤ g ∧ g ≤ 15

/-- The values that an item takes (12.1): a choice, a flag, a list, a route, and for every other item a
number of its range. -/
def itemTakes (item : ConfigItem) (v : ConfigValue) : Prop :=
  match item with
  | .kind => ∃ k, v = .kind (some k)
  | .attn => ∃ p, v = .attn p
  | .stationPresent k | .lengthCheck k => (1 ≤ k ∧ k ≤ 4) ∧ ∃ b, v = .flag b
  | .stationPolarity k => (1 ≤ k ∧ k ≤ 4) ∧ ∃ p, v = .polarity p
  | .edgeMode z => (1 ≤ z ∧ z ≤ 3) ∧ ∃ m, v = .edgeMode m
  | .route leg => (∀ d, leg = .sink d → 1 ≤ d ∧ d ≤ 15) ∧
      ∃ r, v = .route r ∧ ∀ x ∈ r, 1 ≤ x.next ∧ x.next ≤ 15
  | .pulseSource p => (1 ≤ p ∧ p ≤ 2) ∧ ∃ t, v = .source t
  | .pulseEdge p => (1 ≤ p ∧ p ≤ 2) ∧ ∃ e, v = .edge e
  | .pulseQualifier p => (1 ≤ p ∧ p ≤ 2) ∧ ∃ q, v = .qualifier q
  | .slotInvert n | .slotPanel n | .slotStop n => (1 ≤ n ∧ n ≤ 8) ∧ ∃ b, v = .flag b
  | .slotTray n => (1 ≤ n ∧ n ≤ 8) ∧ ∃ m, v = .classes m
  | .slotForward n => (1 ≤ n ∧ n ≤ 8) ∧ ∃ f, v = .forward f
  | .stopInvert => ∃ b, v = .flag b
  | .roster => ∃ l, v = .segments l ∧ listFits 15 l
  | .preImage => ∃ l, v = .segments l ∧ listFits 3 l
  | .restDelay => ∃ n, v = .number n ∧ 100 ≤ n ∧ n ≤ 25500 ∧ n % 100 = 0
  | item => ∃ n lo hi, v = .number n ∧ numberRange item = some (lo, hi) ∧ lo ≤ n ∧ n ≤ hi

/-- `d` is what a list holds at an index: the entry's data, and no data beyond the back (R190). -/
def listHolds {α : Type} (l : List α) (index : Nat) (f : α → ReplyData) (d : ReplyData) : Prop :=
  (∀ x, l[index]? = some x → d = f x) ∧ (l.length ≤ index → d = .noData)

/-- `d` is what one of the numbered things holds, or no data where none has the number. -/
def numberedHolds {α : Type} (num : α → Nat) (index : Nat) (f : α → ReplyData) (d : ReplyData) : Prop :=
  (∀ x, index = num x → d = f x) ∧ ((∀ x, index ≠ num x) → d = .noData)

/-- `d` is what READ of a collection returns at an index (R190), at a node whose kind has the collection.
Stations, zones, pulse outputs and slots go by their own numbers, and a stream's fault record by the
stream (log 7, log 49). -/
def State.readsAs (s : State) (c : Collection) (index : Nat) (d : ReplyData) : Prop :=
  match c with
  | .segmentTable => listHolds s.track.table index .entry d
  | .arrivalQueue => listHolds s.track.arrivals index .arrival d
  | .orphan => listHolds s.track.orphan.toList index .orphan d
  | .stations => numberedHolds StationId.num index (fun k => .station (s.station k)) d
  | .zones => numberedHolds ZoneId.num index (fun z => .zone (s.zone z) s.chain) d
  | .gate => listHolds (if s.hasGate = true then [s.gate] else []) index .gate d
  | .pulses => numberedHolds PulseId.num index (fun p => .pulse (s.pulse p)) d
  | .stopController => listHolds [s.stop] index
      (fun u => .stop u.path u.epoch u.sites u.overflow u.stances u.own) d
  | .slots => numberedHolds (fun n : Fin 8 => n.val + 1) index
      (fun n => .slot (s.tags.slots.get n) s.groupOpen s.tags.panelCycle s.aggregate) d
  | .supply => listHolds [s.supply] index (fun u => .supply u.ok s.cfg.supplySelect) d
  | .clearing => listHolds [s.clear] index .clearing d
  | .linePort => listHolds [s.line] index
      (fun l => .line l.tx.length l.rx.length (l.tx.map fun f => f.kind.cls)) d
  | .pageQueue => s.cfg.kind = some .feed ∧ listHolds s.feed.pages index .page d
  | .resumeQueue => s.cfg.kind = some .feed ∧ listHolds s.feed.resume index .page d
  | .issuedList => s.cfg.kind = some .feed ∧ listHolds s.feed.issued index .issued d
  | .streamFaults => s.cfg.kind = some .feed ∧
      numberedHolds (fun n : Fin 4 => n.val) index (fun n => .fault (s.feed.faults.get n)) d
  | .lastClose => s.cfg.kind = some .feed ∧ listHolds s.feed.lastClose.toList index .lastClose d
  | .allocator => s.cfg.kind = some .feed ∧ listHolds [s.feed.lastSheet] index .allocator d
  | .pace => s.cfg.kind = some .feed ∧ listHolds [s.feed.pace] index .pace d
  | .planUnit => s.cfg.kind = some .feed ∧ listHolds [s.plan] index
      (fun u => .plan u (s.cfg.roster.filter fun g => g ∉ u.readySet)) d
  | .delivery => s.isSink = true ∧ listHolds [s.deliv] index .delivery d
  | .unknown => False

/-- The nine data bytes of PAGE SUBMIT (11.6). -/
def pageBytes (d : PageDesc) : List Byte :=
  [BitVec.ofNat 8 (64 * d.stream.val + 16 * d.media.val + d.dest),
   BitVec.ofNat 8 (d.page1 / 256), BitVec.ofNat 8 (d.page1 % 256),
   BitVec.ofNat 8 (d.page2.getD 0 / 256), BitVec.ofNat 8 (d.page2.getD 0 % 256),
   BitVec.ofNat 8 ((if d.page2.isSome then 128 else 0) + (if d.first then 32 else 0)
     + (if d.last then 16 else 0) + d.set / 256),
   BitVec.ofNat 8 (d.set % 256),
   BitVec.ofNat 8 (d.nominal / 256), BitVec.ofNat 8 (d.nominal % 256)]

/-- The descriptor is in the range of check 3 of PAGE SUBMIT (R133). -/
def State.pageInRange (s : State) (d : PageDesc) : Prop :=
  1000 ≤ d.nominal ∧ d.nominal ≤ 4800 ∧ d.dest ∈ s.cfg.roster ∧ d.dest ≠ s.cfg.segment ∧
  d.dest ≠ s.cfg.purgeSink

/-! ### Outputs and edges -/

/-- No output active (R188). -/
def quietOutputs : OutputPins :=
  { zcmd := ⟨0, 0, 0⟩, brk := ⟨false, false, false⟩, drven := false, gate := false
    po := ⟨false, false⟩, out1 := false, out2 := false, stopn := true, fop := false, fsel := false
    attn := true }

/-- The command of a filtered edge: by counted edges, or still (R28, R29). -/
def edgeCommand (k : StationId) (still : Bool) : Instr :=
  if still then .stillEdge k else .filterCountComplete k

/-- A filtered edge is due at a station: it is present at a configured node, the raw level differs from
the filtered level, and the filter is complete or the station has one to wait for (R28, R29). -/
def State.edgeDue (s : State) (k : StationId) (still : Bool) : Prop :=
  s.configured = true ∧ s.present k = true ∧ s.rawCovered k ≠ (s.station k).covered ∧
  if still then (s.stationCfg k).filter ≠ 0 else (s.stationCfg k).filter ≤ (s.station k).count

/-- The delay of a pulse output is bound to a zone: that of its trigger station (R96). -/
def State.pulseBound (s : State) (p : PulseId) (z : ZoneId) : Prop :=
  match (s.pulseCfg p).source with
  | .station k => (s.stationCfg k).zone = z
  | .unused | .issue => False

/-- A zone as it stands when its rise begins (R84, R85). -/
def State.begun (s : State) (z : ZoneId) : Zone :=
  { s.zone z with
    state := if (s.zoneCfg z).riseStart = (s.zoneCfg z).riseEnd then .running else .rising
    position := (s.zoneCfg z).riseStart, output := s.profileAt (s.zoneCfg z).riseStart
    stepTimer := 0, silenceTimer := 0, silenceStopped := false, risePending := false }

/-- What a rise request of each zone in use at rest leaves, where it is not dropped (R80, R84): with the
chain ON, or OFF and DRDY present, the rises begin; with it in WAIT, or OFF and DRDY missing, they wait for
DRDY, and the ready timer starts with the first of them; a zone that rises or runs stays as it is. -/
structure RisesAsked (s t : State) : Prop where
  begins : s.chain.state = .on ∨ (s.chain.state = .off ∧ s.pins.drdy = true) →
    ∀ z, s.inUse z = true → (s.zone z).atRest = true → (s.zone z).risePending = false →
      t.zone z = s.begun z ∧ t.chain.state = .on
  waits : s.chain.state = .wait ∨ (s.chain.state = .off ∧ s.pins.drdy = false) →
    ∀ z, s.inUse z = true → (s.zone z).atRest = true → (s.zone z).risePending = false →
      t.zone z = { s.zone z with risePending := true } ∧ t.chain.state = .wait ∧
      (s.chain.state = .off ∨ (∀ y, (s.zone y).risePending = false) → t.chain.readyTimer = 0)
  moving : ∀ z, (s.zone z).state = .rising ∨ (s.zone z).state = .running →
    (s.zone z).risePending = false → t.zone z = s.zone z

/-- A zone as a rise request that finds it FALLING leaves it (R85): RISING, or RUNNING at the region's end,
at the first entry of its rise region whose value is at or above its output; where none is, RUNNING with
the output of the region's last entry, the step timer at 0 here too (log 21). -/
def TakenOver (s : State) (z : ZoneId) (x : Zone) : Prop :=
  x = { s.zone z with
    state := x.state, position := x.position, output := x.output
    stepTimer := 0, silenceTimer := 0, silenceStopped := false, risePending := false } ∧
  (∀ i, (s.zoneCfg z).riseStart ≤ i → i ≤ (s.zoneCfg z).riseEnd →
    (s.zone z).output ≤ s.profileAt i →
    (∀ j, (s.zoneCfg z).riseStart ≤ j → j < i → s.profileAt j < (s.zone z).output) →
    x.state = (if i = (s.zoneCfg z).riseEnd then .running else .rising) ∧ x.position = i ∧
    x.output = s.profileAt i) ∧
  ((∀ j, (s.zoneCfg z).riseStart ≤ j → j ≤ (s.zoneCfg z).riseEnd →
      s.profileAt j < (s.zone z).output) →
    x.state = .running ∧ x.output = s.profileAt (s.zoneCfg z).riseEnd)

/-- SILENCE_TIMEOUT of zone `z` takes the silence of zone `y`: its own, and that of a zone whose silence
timer stands at its time with no DRIVE raised (R88). -/
def State.silentIn (s : State) (z y : ZoneId) : Bool :=
  y == z || (s.inUse y && !(s.zone y).silenceStopped &&
    decide (2 ^ (s.zoneCfg y).silenceExp ≤ (s.zone y).silenceTimer))

/-! ### Frames taken -/

/-- The node is configured and the front frame of its receive queue is `f`, of kind `k`, with `rest`
behind it. -/
structure Front (s : State) (k : FrameKind) (f : Frame) (rest : List Frame) : Prop where
  configured : s.configured = true
  queue : s.line.rx = f :: rest
  kind : f.kind = k

/-- The state with the receive queue `rest` and nothing else changed. -/
def State.took (s : State) (rest : List Frame) : State :=
  { s with line := { s.line with rx := rest } }

/-- The state with the receive queue `rest` and one more frame counted as stale. -/
def State.tookStale (s : State) (rest : List Frame) : State :=
  { s with line := { s.line with rx := rest, stale := min 255 (s.line.stale + 1) } }

/-! ### Entries in their lists -/

/-- `x` is the first entry of `l` that meets `p`, with `front` before it and `back` behind. -/
structure FirstIn {α : Type} (p : α → Prop) (l front : List α) (x : α) (back : List α) : Prop where
  split : l = front ++ x :: back
  meets : p x
  first : ∀ y ∈ front, ¬ p y

/-- A trailing edge at station `k` matches the entry (R16). -/
def trailsAt (k : StationId) (e : Entry) : Prop := e.trail + 1 = k.num ∧ k.num ≤ e.lead

/-- An edge at station `k`, matched to a sheet's entry, is the trigger of a pulse output and the record
meets its qualifier (R95). -/
def State.triggered (s : State) (p : PulseId) (k : StationId) (edge : TriggerEdge) (r : SheetRecord) :
    Prop :=
  (s.pulseCfg p).source = .station k ∧ (s.pulseCfg p).edge = edge ∧
  ((s.pulseCfg p).qualifier = .any ∨
   ((s.pulseCfg p).qualifier = .release ∧ r.page1.isSome = true ∧ r.currentState = some .blank ∧
    r.purge = false))

/-- What an edge matched to a record leaves of the pulse outputs in RUN, FLUSH and HALTING, where it does
not move the path state (R95, R96): an output that it triggers with no delay pending takes the
constants of the media class, and its pulse starts at once when the delay is 0 and no width is active;
one whose pending delay is complete starts that pulse first; one whose delay still runs, or waits for a
width, keeps it; and an output that the edge does not trigger is as it was. -/
def Triggers (s t : State) (k : StationId) (edge : TriggerEdge) (r : SheetRecord) : Prop :=
  s.stop.path ∈ [PathState.run, .flush, .halting] → t.stop.path = s.stop.path → ∀ p,
    (¬ s.triggered p k edge r → t.pulse p = s.pulse p) ∧
    (s.triggered p k edge r → (s.pulse p).delay = none → ∀ a b,
      (a, b) = (if r.media.val ≤ 1 then ((s.pulseCfg p).a1, (s.pulseCfg p).b1)
        else ((s.pulseCfg p).a2, (s.pulseCfg p).b2)) →
      t.pulse p = if a = 0 ∧ (s.pulse p).active = none then ⟨none, some ⟨0, b, r.sheet⟩⟩
        else ⟨some ⟨0, a, b, r.sheet⟩, (s.pulse p).active⟩) ∧
    (s.triggered p k edge r → ∀ d, (s.pulse p).delay = some d →
      (d.target ≤ d.tracker → (s.pulse p).active = none → ∀ a b,
        (a, b) = (if r.media.val ≤ 1 then ((s.pulseCfg p).a1, (s.pulseCfg p).b1)
          else ((s.pulseCfg p).a2, (s.pulseCfg p).b2)) →
        t.pulse p = ⟨some ⟨0, a, b, r.sheet⟩, some ⟨0, d.width, d.sheet⟩⟩) ∧
      (d.tracker < d.target ∨ (s.pulse p).active ≠ none → t.pulse p = s.pulse p))

/-! ### Sides -/

/-- The current side of a record with toner on it (R20). -/
def SheetRecord.toned (r : SheetRecord) : SheetRecord :=
  match r.current with
  | .one => { r with side1 := .unfixed }
  | .two => { r with side2 := some .unfixed }

/-- A record whose leading edge passes station `k`: at the IMAGE node's image station the BLANK current
side of a released sheet becomes UNFIXED (R20). -/
def State.imaged (s : State) (k : StationId) (r : SheetRecord) : SheetRecord :=
  if s.cfg.kind = some .image ∧ s.cfg.imageStation = k ∧ r.released = true ∧
      r.currentState = some .blank then r.toned else r

/-- The record of a blank side that a release pulse releases with the leading edge past station number
`lead` (R20, R99). -/
def State.releasedPast (s : State) (lead : Nat) (r : SheetRecord) : SheetRecord :=
  if s.cfg.imageStation.num ≤ lead then { r.toned with released := true }
  else { r with released := true }

/-- An edge at station `k` matched to the record starts a release pulse of that very sheet: one it
triggers with no delay, or a delay of the sheet that is complete (R95, R96, R99). -/
def State.releasesAt (s : State) (p : PulseId) (k : StationId) (edge : TriggerEdge)
    (r : SheetRecord) : Prop :=
  s.cfg.kind = some .image ∧ (s.pulseCfg p).qualifier = .release ∧ s.triggered p k edge r ∧
  s.stop.path ∈ [PathState.run, .flush, .halting] ∧ (s.pulse p).active = none ∧
  (((s.pulse p).delay = none ∧
      (if r.media.val ≤ 1 then (s.pulseCfg p).a1 else (s.pulseCfg p).a2) = 0) ∨
    ∃ d, (s.pulse p).delay = some d ∧ d.target ≤ d.tracker ∧ d.sheet = r.sheet)

/-- A release pulse of the sheet is to start: its delay is complete and no width is active (R96). -/
def State.releaseReady (s : State) (sheet : Nat) : Prop :=
  s.cfg.kind = some .image ∧ ∃ p d, (s.pulseCfg p).qualifier = .release ∧
    (s.pulse p).active = none ∧ (s.pulse p).delay = some d ∧ d.target ≤ d.tracker ∧ d.sheet = sheet

/-- What an edge leaves of the entries `l` that it does not match: each as it was, but for the release of
one whose release pulse was to start and starts with it. -/
def OthersAfter (s : State) (l l' : List Entry) : Prop :=
  l'.length = l.length ∧ ∀ (i : Nat) (e : Entry), l[i]? = some e → ∃ g, l'[i]? = some g ∧
    (¬ s.releaseReady e.record.sheet → g = e) ∧
    g = { e with record := { e.record with
      released := g.record.released, side1 := g.record.side1, side2 := g.record.side2 } }

/-- What an edge leaves of a record, which is `quiet` where the edge starts no release pulse of the
sheet, and is released with the leading edge past station number `lead` where it does so without moving
the path state. -/
def RecordAfter (s t : State) (k : StationId) (edge : TriggerEdge) (lead : Nat)
    (quiet after : SheetRecord) : Prop :=
  ((∀ p, ¬ s.releasesAt p k edge quiet) → after = if edge = .leading then s.imaged k quiet else quiet) ∧
  ((∃ p, s.releasesAt p k edge quiet) → t.stop.path = s.stop.path →
    after = s.releasedPast lead quiet)

/-- The gate may move where a claim made in `s` leaves `t`: its station is uncovered, and the claim is made
in RUN, FLUSH or HALTING (R91). -/
def GateMay (s t : State) : Prop :=
  (t.station s.cfg.gateStation).covered = false ∧
  s.stop.path ∈ [PathState.run, .flush, .halting]

/-- A claim is made (R90, cases 3 and 4) and the front one served where it can be (R91; logs 33, 45). It
joins behind those that stand. Alone it is SET where the gate has its position or may move to it, and
otherwise WAITING. Behind a claim that is SET, or is served now, it is SET where it has the same position,
and otherwise WAITING. -/
structure ClaimMade (s t : State) (sheet : Nat) (pos : GatePos) : Prop where
  listed : t.gate.claims.map (fun c => (c.sheet, c.pos)) =
    s.gate.claims.map (fun c => (c.sheet, c.pos)) ++ [(sheet, pos)]
  alone : s.gate.claims = [] →
    (pos = s.gate.pos ∨ GateMay s t → t.gate = { pos := pos, claims := [⟨sheet, pos, true⟩] }) ∧
    (pos ≠ s.gate.pos → ¬ GateMay s t →
      t.gate = { pos := s.gate.pos, claims := [⟨sheet, pos, false⟩] })
  behindSet : ∀ c, s.gate.claims = [c] → c.set = true →
    t.gate = { pos := s.gate.pos, claims := [c, ⟨sheet, pos, c.pos == pos⟩] }
  behindServed : ∀ c, s.gate.claims = [c] → c.set = false → c.pos = s.gate.pos ∨ GateMay s t →
    t.gate = { pos := c.pos, claims := [{ c with set := true }, ⟨sheet, pos, c.pos == pos⟩] }
  behindWaiting : ∀ c, s.gate.claims = [c] → c.set = false → c.pos ≠ s.gate.pos → ¬ GateMay s t →
    t.gate = { pos := s.gate.pos, claims := [c, ⟨sheet, pos, false⟩] }

/-- The entry's trailing edge has cleared the gate station before its claim is made (R90, case 1): no claim
is kept, and the gate moves where no claim stands and it may. -/
def ClaimPassed (s t : State) (pos : GatePos) : Prop :=
  (s.gate.claims = [] → GateMay s t → t.gate = { pos := pos, claims := [] }) ∧
  (s.gate.claims ≠ [] ∨ ¬ GateMay s t → t.gate = s.gate)

/-- The node has come to the entry's pass point and has not sent its PASS (R17). -/
structure AtPassPoint (s : State) (e : Entry) : Prop where
  configured : s.configured = true
  notSink : s.isSink = false
  transit : e.loc = .transit
  unsent : e.passSent = false
  reached : ∃ d, e.passTracker = some d ∧ s.cfg.passDistance ≤ d

/-- The turn hold applies to the entry (R18). -/
def TurnHold (s : State) (e : Entry) : Prop :=
  s.cfg.kind = some .turn ∧ e.record.leg = .duplex ∧ e.trail < s.cfg.turnStation.num

/-- The PASS of an entry under the current epoch (R17). -/
def State.passOf (s : State) (e : Entry) : Frame :=
  { kind := .pass, origin := s.cfg.segment, epoch := s.stop.epoch
    payload := passPayload (s.nextOf e) e.record }

/-- A stop can begin here and be announced: RUN, no cause of this node's own yet, and two places open
to STOPSTATE and JAMCALL. -/
structure Clear (s : State) : Prop where
  path : s.stop.path = .run
  own : s.stop.own = none
  room : s.line.tx.length ≤ 14

/-- Nothing at a trailing edge at station `k` of the entry raises a cause: the length is not computed or
stays in its window, and no pulse delay is pending (R43, R96). -/
structure Calm (s : State) (k : StationId) (still : Bool) (e : Entry) : Prop where
  length : s.lengthDue k still = true → s.lengthFails e.record (s.lengthAt k) = false
  pulses : ∀ p, (s.pulse p).delay = none

/-- The front of a compile list that a staple takes (R171): it begins with a first-of-set and goes to the
first last-of-set, all of one stream and set. -/
structure IsStapleRun (run : List CompileRecord) : Prop where
  begins : ∃ r rest, run = r :: rest ∧ r.first = true
  oneSet : ∀ x ∈ run, ∀ y ∈ run, x.stream = y.stream ∧ x.set = y.set
  ends : ∃ front l, run = front ++ [l] ∧ l.last = true ∧ ∀ x ∈ front, x.last = false

/-- The measured length that a trailing edge at station `k` leaves in a record (R35, R37). -/
def State.measuredAt (s : State) (k : StationId) (still : Bool) (r : SheetRecord) : Option Nat :=
  if (s.stationCfg k).lengthCheck = true ∧ still = false ∧ (s.station k).stillBegun = false ∧
      (s.station k).coverCount ≠ 65535
    then some (correctedLength (s.station k).coverCount
      (s.zoneCfg (s.stationCfg k).zone).pitch (s.stationCfg k).gain (s.stationCfg k).offset)
    else r.measured

/-- The conditions of R136 other than the page: a FEED node in RUN, every zone in use RUNNING, a place
in the issued list, the pace condition (R137) and the registration arbiter (R138). -/
structure LaneOpen (s : State) : Prop where
  kind : s.cfg.kind = some .feed
  path : s.stop.path = .run
  running : ∀ z, s.inUse z = true → (s.zone z).state = .running
  room : s.feed.issued.length < 32
  uncovered : (s.station s.cfg.paceStation).covered = false
  gap : s.cfg.paceGap ≤ s.feed.pace
  passed : ∀ e ∈ s.track.table, e.loc = .held ∨ s.cfg.paceStation.num ≤ e.trail
  picked : ∀ a ∈ s.track.arrivals, a.sender ≠ 0
  arbiter : ∀ a ∈ s.track.arrivals, a.sender = 0

/-- `d` is the issue candidate (R134), and `f` is the feed unit without it: the first page of the
resume queue whose stream is not faulted, and otherwise the first of the page queue. -/
def IsCandidate (s : State) (d : PageDesc) (f : FeedUnit) : Prop :=
  (∃ front back, FirstIn (fun x : PageDesc => s.feed.faulted x.stream = false) s.feed.resume
      front d back ∧ f = { s.feed with resume := front ++ back }) ∨
  ((∀ x ∈ s.feed.resume, s.feed.faulted x.stream = true) ∧
    ∃ front back, FirstIn (fun x : PageDesc => s.feed.faulted x.stream = false) s.feed.pages
      front d back ∧ f = { s.feed with pages := front ++ back })

/-- A JAMCALL carries a site of its origin: nothing in it is outside the ranges of R55. -/
structure CarriesSite (f : Frame) (x : Site) : Prop where
  epoch : f.epoch ≠ 0
  origin : f.origin ≠ 0
  segment : x.segment = f.origin
  cause : x.cause.code = byteAt f.payload 0
  place : x.place = byteAt f.payload 1
  few : x.place ≤ 8
  sheet : x.sheet = byteAt f.payload 2

/-- A PLAN frame that is well formed by R126: a PURGE of 2 bytes or a BIND of 9 with a sink, of a sheet. -/
def planOk (f : Frame) : Prop :=
  byteAt f.payload 1 ≠ 0 ∧
  ((byteAt f.payload 0 = 1 ∧ f.payload.length = 2) ∨
   (byteAt f.payload 0 = 2 ∧ f.payload.length = 9 ∧ field f.payload 2 3 0 ≠ 0))

/-- Nothing that entry to RUN looks at raises a cause (R38, R93, R108): no tracker is past its window,
no station is covered too long, no panel is open, the stop aggregate is clear, no claim waits at its
guard. -/
structure RunsClean (s : State) : Prop where
  entries : ∀ e ∈ s.track.table, s.lateEntry { e with loc := .transit } = false
  arrivals : ∀ a ∈ s.track.arrivals, s.lateArrival a = false
  stations : ∀ k, s.stalled k = false
  aggregate : s.aggregate = false
  panels : s.groupOpen = false
  claims : ∀ c ∈ s.gate.claims, s.guardFails c = false

/-- The slot is a stop slot that reads asserted (R104). -/
def StopSlotOn (s : State) (n : Fin 8) : Prop :=
  (s.cfg.slots.get n).tag ≠ 0 ∧ (s.cfg.slots.get n).stop = true ∧ s.tags.slots.get n ≠ .clear

/-- The slot is a panel slot that reads open (R104). -/
def PanelSlotOpen (s : State) (n : Fin 8) : Prop :=
  (s.cfg.slots.get n).tag ≠ 0 ∧ (s.cfg.slots.get n).panel = true ∧ s.tags.slots.get n ≠ .asserted

/-- A test that GO makes on entry to RUN fails in `s` and raises the cause with the place and the sheet ID:
LATE at S1 and beyond it, STALL, GATE, and INTERLOCK by the lowest slot (R38 to R41, R93, R108). -/
inductive EntryTest (s : State) : Cause → Nat → Nat → Prop
  | lateAtS1 (a : Arrival) : a ∈ s.track.arrivals → a.unresolved = false →
      a.linkDistance + (s.window a.record.media).late < a.link →
      EntryTest s .late 1 a.record.sheet
  | late (e : Entry) (k : StationId) : e ∈ s.track.table → e.loc ≠ .held ∨ s.stop.path = .ready →
      1 ≤ e.lead → e.lead < s.lastStation → k.num = e.lead + 1 →
      (s.stationCfg k).spacing + (s.window e.record.media).late < e.leadTracker →
      EntryTest s .late k.num e.record.sheet
  | stall (k : StationId) (front : List Entry) (e : Entry) (back : List Entry) :
      s.present k = true → (s.station k).covered = true →
      FirstIn (trailsAt k) s.track.table front e back →
      e.record.measured.getD e.record.nominal + (s.window e.record.media).stall <
        (s.station k).coverTracker ∨ (s.station k).coverCount = 65535 →
      EntryTest s .stall k.num e.record.sheet
  | stallUnknown (k : StationId) : s.present k = true → (s.station k).covered = true →
      (∀ e ∈ s.track.table, ¬ trailsAt k e) →
      4800 + (s.window 0).stall < (s.station k).coverTracker ∨ (s.station k).coverCount = 65535 →
      EntryTest s .stall k.num 0
  | stop (n : Fin 8) : StopSlotOn s n → (∀ m < n, ¬ StopSlotOn s m) →
      EntryTest s .interlock (n.val + 1) 0
  | panel (n : Fin 8) : (∀ m, ¬ StopSlotOn s m) → PanelSlotOpen s n →
      (∀ m < n, ¬ PanelSlotOpen s m) → EntryTest s .interlock (n.val + 1) 0
  | guard (c : Claim) (front : List Entry) (e : Entry) (back : List Entry) :
      c ∈ s.gate.claims → c.set = false →
      FirstIn (fun e : Entry => e.record.sheet = c.sheet) s.track.table front e back →
      s.cfg.gateSet.num < e.lead ∨
        (e.lead = s.cfg.gateSet.num ∧ s.cfg.gateDistance ≤ e.leadTracker + s.cfg.gateGuard) →
      EntryTest s .gate s.cfg.gateStation.num c.sheet

/-- A survey may be made (R115). -/
structure SurveyOpen (s : State) : Prop where
  path : s.stop.path = .halted ∨ s.stop.path = .clearing
  phase : s.clear.phase = .noSurvey
  residual : s.clear.residual = false
  panels : s.groupOpen = false
  supply : s.supply.ok = true
  cycle : ∀ o, s.stop.own = some o → o.cycle = true → s.tags.panelCycle = true
  finisher : s.cfg.kind = some .finish → s.deliv.op = .noOp

/-- A station that the entry expects to cover reads uncovered (R120). -/
def expectsBare (s : State) (e : Entry) : Prop :=
  ∃ k, s.present k = true ∧ e.trail < k.num ∧ k.num ≤ e.lead ∧ (s.station k).covered = false

/-- The disposition of an entry by the rows of R121, the first that applies. -/
def Judged (s : State) (e : Entry) (d : Disposition) : Prop :=
  (expectsBare s e → d = .removed) ∧
  (¬ expectsBare s e → d =
    if e.record.side1 = .unfixed ∨ e.record.side2 = some .unfixed then .heldPurge
    else if e.record.released = true ∧ e.record.currentState = some .blank then .heldPurge
    else if e.record.side1 = .blank ∧ (e.record.side2 = some .blank ∨ e.record.side2 = none) then
      .heldBlank
    else .heldContinue)

/-! ### Plans -/

/-- An issued entry with `before` ahead of it in issue order joins the reprint set (R155, R156): it
neither stays blank nor continues, or it continues behind an entry of its stream that does not. -/
def Reprints (u : PlanUnit) (before : List Issued) (i : Issued) : Prop :=
  (u.entry i.sheet).disposition ≠ some .heldBlank ∧
  ((u.entry i.sheet).disposition = some .heldContinue →
    ∃ j ∈ before, j.page.stream = i.page.stream ∧
      (u.entry j.sheet).disposition ≠ some .heldContinue)

/-- The page of a returned entry with its retry by R157: increased, but for a sheet that stays blank and
for one REMOVED with its sides blank. -/
def retried (u : PlanUnit) (i : Issued) : PageDesc :=
  if (u.entry i.sheet).disposition = some .heldBlank ∨
      ((u.entry i.sheet).disposition = some .removed ∧ (u.entry i.sheet).blankSides = true)
    then i.page else { i.page with retry := i.page.retry + 1 }

/-- A stream is faulted for a plan: an increase would take the retry of one of its reprint entries to 4
(R157). -/
def FaultedByPlan (u : PlanUnit) (issued : List Issued) (stream : Fin 4) : Prop :=
  ∃ before i after, issued = before ++ i :: after ∧ Reprints u before i ∧ i.page.stream = stream ∧
    retried u i ≠ i.page ∧ i.page.retry = 3

/-- The issued list in issue order, with `before` ahead of what is left of it, sorted by a plan into the
entries that continue, the PLAN PURGEs of the reprint set, and the returned pages Q, to which the entries
of a stream that is `lost` to the plan give none (R155 to R158, R162). -/
def PlanSorts (u : PlanUnit) (lost : Fin 4 → Prop) :
    (before issued kept : List Issued) → List PlanCmd → List PageDesc → Prop
  | _, [], kept, purges, q => kept = [] ∧ purges = [] ∧ q = []
  | before, i :: rest, kept, purges, q => ∃ kept' purges' q',
      PlanSorts u lost (before ++ [i]) rest kept' purges' q' ∧
      ((u.entry i.sheet).disposition = some .heldContinue → ¬ Reprints u before i →
        kept = i :: kept' ∧ purges = purges' ∧ q = q') ∧
      (Reprints u before i ∨ (u.entry i.sheet).disposition = some .heldBlank →
        kept = kept' ∧ (lost i.page.stream → q = q') ∧
        (¬ lost i.page.stream → q = retried u i :: q')) ∧
      (Reprints u before i →
        purges = if (u.entry i.sheet).continues = true then .purge i.sheet :: purges'
          else purges') ∧
      ((u.entry i.sheet).disposition = some .heldBlank → purges = purges')

/-- The candidates in path order (R159): first those whose segment is in the pre-image order, by its rank
and then by position, and behind them the others as they stand in the candidate list. Two of one segment
with one position stand as they do there too (log 46). -/
structure PathOrder (order : List Nat) (candidates path : List Candidate) : Prop where
  sorted : path.Pairwise fun a b =>
    (a.segment ∉ order → b.segment ∉ order) ∧
    (a.segment ∈ order → b.segment ∈ order →
      order.idxOf a.segment < order.idxOf b.segment ∨
      (a.segment = b.segment ∧ a.position ≤ b.position))
  inOrder : ∀ g ∈ order, ∀ p,
    path.filter (fun c => c.segment = g ∧ c.position = p) =
      candidates.filter fun c => c.segment = g ∧ c.position = p
  others : path.filter (fun c => c.segment ∉ order) = candidates.filter fun c => c.segment ∉ order

/-- Candidates in path order answered one by one, with the pages `q` before and `left` after (R159): PURGE
outside the pre-image order, with no bindable page left, and where the front bindable page is of another
media class; otherwise BIND with that page, which leaves the pages. -/
def PlanBinds (order : List Nat) (bindable : PageDesc → Prop) :
    (q : List PageDesc) → List Candidate → List PlanCmd → (left : List PageDesc) → Prop
  | q, [], cmds, left => cmds = [] ∧ left = q
  | q, c :: rest, cmds, left => ∃ cmd cmds', cmds = cmd :: cmds' ∧
      (c.segment ∉ order ∨ (∀ d ∈ q, ¬ bindable d) →
        cmd = .purge c.sheet ∧ PlanBinds order bindable q rest cmds' left) ∧
      (c.segment ∈ order → ∀ front d back, FirstIn bindable q front d back →
        (d.media ≠ c.media →
          cmd = .purge c.sheet ∧ PlanBinds order bindable q rest cmds' left) ∧
        (d.media = c.media →
          cmd = .bind c.sheet d ∧ PlanBinds order bindable (front ++ back) rest cmds' left))

/-- The issued entry of a BIND, IN-FLIGHT with the candidate's sheet ID and the page (R161). -/
def boundEntry : PlanCmd → Option Issued
  | .bind sheet d => some { sheet := sheet, page := d, compiled := false }
  | .purge _ => none

/-! ### Well-formed frames and records -/

/-- A frame that the header's fields can carry, with a payload length of its kind (R176, 11.6). -/
structure Frame.Fits (f : Frame) : Prop where
  origin : f.origin < 16
  epoch : f.epoch < 256
  length : f.payload.length ∈ f.kind.lengths

/-- A record within the ranges of R1, as the widths of PASS carry them. -/
structure SheetRecord.Fits (r : SheetRecord) : Prop where
  sheet : r.sheet < 256
  page1 : ∀ p ∈ r.page1, p < 65536
  page2 : ∀ p ∈ r.page2, p < 65536
  set : r.set < 4096
  nominal : r.nominal < 8192
  measured : ∀ l ∈ r.measured, l < 8192
  dest : r.dest < 16
  retry : r.retry < 4

/-- A page within the ranges of R132. -/
structure PageDesc.Fits (d : PageDesc) : Prop where
  page1 : d.page1 < 65536
  page2 : ∀ p ∈ d.page2, p < 65536
  set : d.set < 4096
  dest : d.dest < 16
  retry : d.retry < 4

end Sys2Proof.Machine
end

