-- ==== Sys2Proof/Certificates/Slice0/Obligations.lean ====
section
/-! DEFINITION. The statements for the provers: what a step, each command and each unit of the part does, and what every step keeps. -/

section Statements

open Sys2Proof Sys2Proof.Machine

/-! ### The step -/

/-- The command in front of the queue runs on the state with the queue's rest. -/
def Obligations.StepTakesTheFrontCommand : Prop :=
  ∀ (c : Instr) (rest : List Instr) (s : State), s.pending = c :: rest →
    step s = exec c { s with pending := rest }

/-- The model's choice (log 3): on an empty queue the first of the node's own steps that is due is
taken, and with none due 1 ms passes: each running timer advances by 1 up to its time, each that stands
still keeps its value, and nothing else moves. No word of the table spells a command (log 4). -/
def Obligations.EmptyQueueTakesADueStepOrATick : Prop :=
  ∀ s : State, s.pending = [] →
    (∀ c rest, s.due = c :: rest → step s = exec c s) ∧
    (s.due = [] → ∃ t, step s = .next t ∧
      changesOnly [.stations, .zones, .chain, .pulses, .tags, .supply, .deliv, .feed] s t ∧
      (s.pins.resetn = false → t = s) ∧
      (s.pins.resetn = true →
        t.supply = { s.supply with hold := s.supply.hold.map fun h => min 8 (h + 1) } ∧
        t.tags.slots = s.tags.slots ∧ t.tags.panelCycle = s.tags.panelCycle ∧
        (∀ i, t.input i = { s.input i with hold := (s.input i).hold.map fun h => min 4 (h + 1) }) ∧
        (∀ p, t.pulse p = { s.pulse p with
          active := (s.pulse p).active.map fun w => { w with timer := min 255 (w.timer + 1) } }) ∧
        (∀ k, t.station k = { s.station k with
          stillTimer := if s.configured = true ∧ s.present k = true ∧
              s.rawCovered k ≠ (s.station k).covered ∧ (s.stationCfg k).filter ≠ 0
            then min 16 ((s.station k).stillTimer + 1) else (s.station k).stillTimer }) ∧
        (∀ z, t.zone z = { s.zone z with
          stepTimer := if s.inUse z = true ∧ (s.zone z).state ∈ [ZoneState.rising, .falling]
            then min 16 ((s.zone z).stepTimer + 1) else (s.zone z).stepTimer
          silenceTimer := if s.inUse z = true ∧ (s.zone z).state ∈ [ZoneState.rising, .running] ∧
              (s.zone z).silenceStopped = false
            then min 256 ((s.zone z).silenceTimer + 1) else (s.zone z).silenceTimer }) ∧
        (s.chain.state = .wait → (∃ z, (s.zone z).risePending = true) →
          t.chain = { s.chain with readyTimer := min 100 (s.chain.readyTimer + 1) }) ∧
        (s.chain.state ≠ .wait ∨ (∀ z, (s.zone z).risePending = false) → t.chain = s.chain) ∧
        t.deliv = { s.deliv with
          opTimer := if s.deliv.op = .noOp then s.deliv.opTimer else min 3000 (s.deliv.opTimer + 1) } ∧
        t.feed = { s.feed with
          restTimer := if s.cfg.kind = some .feed ∧ s.stop.path = .run ∧ s.feed.issued = [] ∧
              s.feed.pages = [] ∧ s.feed.resume = [] ∧ s.feed.restQueued = false
            then min s.cfg.restDelay (s.feed.restTimer + 1) else s.feed.restTimer })) ∧
    (∀ nbits w, s.withFetchWord nbits w = s)

/-- No command stops the node: each answers a next state, and leaves every part of State outside its
own list as it was, the waiting commands among them. -/
def Obligations.EveryCommandAnswersWithinItsFrame : Prop :=
  ∀ (c : Instr) (s : State), ∃ t, exec c s = .next t ∧ changesOnly (mayChange c) s t

/-! ### Invariants of every step -/

/-- The node after reset meets every invariant below. -/
def Obligations.ResetMeetsTheInvariants : Prop :=
  WithinCaps State.reset ∧ sheetsUnique State.reset ∧ surveyLaw State.reset ∧ SiteLaw State.reset ∧
  brakeLaw State.reset ∧ RestLaw State.reset ∧ InRange State.reset ∧ pagesDistinct State.reset ∧
  IssuedLaw State.reset

/-- Every step keeps thirteen collections within their capacities (the segment table, the arrival queue,
the site list, the gate claims, the page queue, the resume queue, the issued list, the blank
candidates, the plan list, the compile list, the announcement list, and the transmit and receive
queues; the report list and the bind list of R114 are not among them), and the sheet IDs of the segment
table distinct. -/
def Obligations.StepKeepsTheTables : Prop :=
  (∀ s t : State, WithinCaps s → step s = .next t → WithinCaps t) ∧
  (∀ s t : State, sheetsUnique s → step s = .next t → sheetsUnique t)

/-- Every step keeps a survey in hand a matter of CLEARING, and the site list as R47 and R58 say:
distinct segments, at most four, none in IDLE and RUN, some in every state of a stop; with no
own-cause record in IDLE, RUN and READY. -/
def Obligations.StepKeepsTheSiteLaw : Prop :=
  ∀ s t : State, surveyLaw s → step s = .next t → surveyLaw t ∧ (SiteLaw s → SiteLaw t)

/-- Every step keeps the zones in use at rest, with no rise waiting, while the stop aggregate is
asserted or the supply reads low; and through a halt: no rise waits from HALTING on, and every zone in
use is at rest in HALTED, CLEARING and READY. -/
def Obligations.StepKeepsZonesAtRest : Prop :=
  ∀ s t : State, surveyLaw s → step s = .next t →
    (brakeLaw s → brakeLaw t) ∧ (RestLaw s → RestLaw t)

/-- Every step keeps trackers, counts, fractions and measured lengths within their ranges. -/
def Obligations.StepKeepsRanges : Prop :=
  ∀ s t : State, InRange s → step s = .next t → InRange t

/-- Every step keeps each page, by stream and page1, in one place of the feed unit at most, and the
sheet IDs of the issued list distinct. -/
def Obligations.StepKeepsFeedListsDistinct : Prop :=
  (∀ s t : State, pagesDistinct s → step s = .next t → pagesDistinct t) ∧
  (∀ s t : State, IssuedLaw s → step s = .next t → IssuedLaw t)

/-- The epoch goes from 255 to 1 and never by succession to 0, and moves by its own events alone: a
stop that starts at the node takes the next epoch, a JAMCALL its frame's, GO taken in IDLE its frame's
or the next after it, and a reset, START and RESTART bring it to 0. -/
def Obligations.EpochMovesByItsEvents : Prop :=
  (∀ e, e < 255 → nextEpoch e = e + 1) ∧ nextEpoch 255 = 1 ∧
  ∀ (c : Instr) (s t : State), exec c s = .next t →
    t.stop.epoch = s.stop.epoch ∨
    (t.stop.epoch = nextEpoch s.stop.epoch ∧ t.stop.path.stopped = true) ∨
    (c = .jamcallTaken ∧ t.stop.path.stopped = true ∧
      ∃ f rest, Front s .jamcall f rest ∧ t.stop.epoch = f.epoch) ∨
    (c = .goTaken ∧ s.stop.path = .idle ∧ ∃ f rest, Front s .go f rest ∧
      ((t.stop.epoch = f.epoch ∧ t.stop.path = .run) ∨
        (t.stop.epoch = nextEpoch f.epoch ∧ t.stop.path.stopped = true))) ∨
    ((c = .powerOnReset ∨ c = .resetnLow ∨ ∃ n, c = .start n ∨ c = .restart n) ∧
      t.stop.epoch = 0)

/-- While a sheet keeps its sheet ID, a side that changes goes from BLANK to UNFIXED, at an IMAGE node,
or from UNFIXED to FIXED, at a FIX node: in the segment table, and from the arrival entry, or the PASS that
adopts the orphan, to the entry that it becomes. -/
def Obligations.SideStatesMoveForwardOnly : Prop :=
  ∀ s t : State, sheetsUnique s → step s = .next t →
    (∀ e ∈ s.track.table, ∀ f ∈ t.track.table, f.record.sheet = e.record.sheet →
      sideMoves s.cfg.kind e.record.side1 f.record.side1 ∧
      ∀ x ∈ e.record.side2, ∀ y ∈ f.record.side2, sideMoves s.cfg.kind x y) ∧
    ∀ f ∈ t.track.table, (∀ e ∈ s.track.table, e.record.sheet ≠ f.record.sheet) →
      ∃ r : SheetRecord, r.sheet = f.record.sheet ∧
        ((∃ a ∈ s.track.arrivals, a.record = r) ∨
          ∃ g rest, Front s .pass g rest ∧ passRecord g.payload = some r) ∧
        sideMoves s.cfg.kind r.side1 f.record.side1 ∧
        f.record.side2.isSome = r.side2.isSome ∧
        ∀ x ∈ r.side2, ∀ y ∈ f.record.side2, sideMoves s.cfg.kind x y

/-! ### Codes and bits -/

/-- A frame's line bits read back as the frame, whatever its kind, origin, epoch and payload. -/
def Obligations.LineBitsReadBack : Prop := ∀ f : Frame, f.Fits → readFrame f.lineBits = .frame f

/-- Every payload that a node forms reads back as the fields it was formed from (11.6): PASS, REPORT,
PLAN, JAMCALL, STOPSTATE, DELIVER with its page1 and without one, SETCLOSE, TAGSTATE and READY; and so do
the bytes of PAGE SUBMIT. GO and REST carry no payload. -/
def Obligations.PayloadsReadBack : Prop :=
  (∀ (seg : Nat) (r : SheetRecord), seg < 16 → r.Fits →
    passReceiver (passPayload seg r) = seg ∧ passRecord (passPayload seg r) = some r) ∧
  (∀ r : Report, 1 ≤ r.sheet → r.sheet < 256 → r.position < 8 →
    reportOf (reportPayload r) = some r) ∧
  (∀ (sheet : Nat) (d : PageDesc), 1 ≤ sheet → sheet < 256 → d.Fits → d.dest ≠ 0 →
    planMalformed (planPayload (.bind sheet d)) = false ∧
    byteAt (planPayload (.bind sheet d)) 1 = sheet ∧
    planPage (planPayload (.bind sheet d)) = { d with media := 0, nominal := 0 }) ∧
  (∀ sheet, 1 ≤ sheet → sheet < 256 →
    planMalformed (planPayload (.purge sheet)) = false ∧
    byteAt (planPayload (.purge sheet)) 1 = sheet) ∧
  (∀ (x : Site) (epoch : Nat), x.segment ≠ 0 → x.place ≤ 8 → x.sheet < 256 → epoch ≠ 0 →
    jamcallSite { kind := .jamcall, origin := x.segment, epoch := epoch
                  payload := jamcallPayload x } = some x) ∧
  (∀ st : Stance, st ≠ .unknown → stanceOf (byteAt (stopstatePayload st) 0) = some st) ∧
  (∀ (v : Variant) (i : Issued) (epoch origin : Nat), i.sheet < 256 → i.page.page1 < 65536 →
    deliverVariant ⟨.deliver, origin, epoch,
      deliverPayload v i.sheet i.page.stream (some i.page.page1)⟩ = v.code ∧
    i.matchesDeliver ⟨.deliver, origin, epoch,
      deliverPayload v i.sheet i.page.stream (some i.page.page1)⟩ = true) ∧
  (∀ (v : Variant) (sheet : Nat) (stream : Fin 4) (epoch origin : Nat) (i : Issued),
    deliverVariant ⟨.deliver, origin, epoch, deliverPayload v sheet stream none⟩ = v.code ∧
    i.matchesDeliver ⟨.deliver, origin, epoch, deliverPayload v sheet stream none⟩ = false) ∧
  (∀ (stream : Fin 4) (set count : Nat), set < 4096 → count < 256 →
    two (field (setclosePayload stream set count) 0 7 6) = stream ∧
    256 * field (setclosePayload stream set count) 0 3 0 +
      byteAt (setclosePayload stream set count) 1 = set ∧
    byteAt (setclosePayload stream set count) 2 = count) ∧
  (∀ (tag : Nat) (asserted : Bool), tag < 256 →
    byteAt (tagstatePayload tag asserted) 0 = tag ∧
    byteAt (tagstatePayload tag asserted) 1 = asserted.toNat) ∧
  (∀ withdrawn : Bool, flagAt (readyPayload withdrawn) 0 0 = withdrawn) ∧
  (∀ d : PageDesc, d.Fits → d.nominal < 65536 → pageOf (pageBytes d) = { d with retry := 0 })

/-! ### Reset and configuration -/

/-- RESETn low and RESETn rising give every block its power-on value and every output pin its idle
level; input levels and waiting commands stay, and the supply is compared once RESETn is high. The
values of log 5 and log 6 are the model's, and so is it that the values stand while RESETn is still low
(log 8). -/
def Obligations.ResetCommandsGivePowerOnValues : Prop :=
  ∀ (s : State) (rises : Bool), ∃ t,
    exec (if rises then .powerOnReset else .resetnLow) s = .next t ∧
    t = { State.reset with
      pins := { s.pins with resetn := rises }, pending := s.pending
      supply := { ok := false, hold := if rises ∧ 1125000 ≤ s.pins.vsense then some 0 else none } } ∧
    t.stop.path = .unconfigured ∧ t.outputs = quietOutputs

/-- CONFIG WRITE takes a value exactly when it is one of the item's values of 12.1, be it a number, a
flag, a choice, a list or a route, and answers RANGE otherwise; the rest delay moves in steps of 100
ms. RANGE answers data of another length, a selector or index that names no item, and changes no item.
At a configured node the answer is LOCKED. What is accepted is what CONFIG READ returns, and every other
item reads as before. The model's own: the purge sink's range (log 6); the readings of log 7 (0 for an
upstream or next segment that there is none, no spacing item at S1, what a list and a route take, data
that do not fit); RANGE before LOCKED for such data (log 48); and 1 to 4 for every item that names a
station, whatever stations are present (log 57). -/
def Obligations.ConfigurationItems : Prop :=
  (∀ (item : ConfigItem) (v : ConfigValue) (s : State),
      s.pins.resetn = true → s.stop.path = .unconfigured →
      ∃ t, exec (.configWrite item v) s = .next t ∧
        (t.reply = some ⟨.accepted, 0, .noData⟩ →
          ∃ u, exec (.configRead item 0) t = .next u ∧ u.reply = some ⟨.accepted, 0, .value v⟩) ∧
        (∀ other, other ≠ item → ∀ x y, exec (.configRead other 0) s = .next x →
          exec (.configRead other 0) t = .next y → y.reply = x.reply) ∧
        changesOnly [.cfg, .supply, .reply] s t) ∧
  (∀ s : State, s.pins.resetn = true →
      (s.configured = true → ∀ item v, v ≠ .misfit → exec (.configWrite item v) s =
        .next { s with reply := some ⟨.locked, 0, .noData⟩ }) ∧
      (∀ item, exec (.configWrite item .misfit) s =
        .next { s with reply := some ⟨.range, 0, .noData⟩ }) ∧
      (s.configured = false →
        (∀ item v, itemTakes item v → ∃ t, exec (.configWrite item v) s = .next t ∧
          t.reply = some ⟨.accepted, 0, .noData⟩) ∧
        (∀ item v, ¬ itemTakes item v → exec (.configWrite item v) s =
          .next { s with reply := some ⟨.range, 0, .noData⟩ }) ∧
        (∀ item lo hi n, numberRange item = some (lo, hi) →
          ∃ t, exec (.configWrite item (.number n)) s = .next t ∧
            t.reply = some ⟨if lo ≤ n ∧ n ≤ hi then .accepted else .range, 0, .noData⟩) ∧
        (∀ n, ∃ t, exec (.configWrite .restDelay (.number n)) s = .next t ∧
          t.reply = some ⟨if 100 ≤ n ∧ n ≤ 25500 ∧ n % 100 = 0 then .accepted else .range, 0,
            .noData⟩) ∧
        (∀ item v, exec (.configRead item 0) s = .next { s with reply := some ⟨.range, 0, .noData⟩ } →
          exec (.configWrite item v) s = .next { s with reply := some ⟨.range, 0, .noData⟩ })))

/-! ### Replies -/

/-- READ of each collection returns what stands at the index: the entry of a list, or no data beyond its
back; the collections of the FEED node and of a sink answer ROLE elsewhere, and a selector of none
RANGE. CONFIG READ returns every item's value. READ COUNTERS returns the counters and flags as they were
and clears them, but not the consecutive error count. The numbering of indexes, and that of the stream
fault records, is the model's (log 7, log 49), and so is it that a node without a gate holds no gate entry
(log 53). -/
def Obligations.ReadsReturnWhatStands : Prop :=
  ∀ s : State, s.pins.resetn = true →
    (∀ c index d, s.readsAs c index d →
      exec (.read c index 0) s = .next { s with reply := some ⟨.accepted, 0, d⟩ }) ∧
    (∀ c, c ≠ .unknown → c ∉ [Collection.pageQueue, .resumeQueue, .issuedList, .streamFaults,
        .lastClose, .allocator, .pace, .planUnit, .delivery] ∨ s.cfg.kind = some .feed ∧ c ≠ .delivery ∨
        s.isSink = true ∧ c = .delivery →
      ∀ index, ∃ d, s.readsAs c index d) ∧
    (s.isSink = false → ∀ index, exec (.read .delivery index 0) s =
      .next { s with reply := some ⟨.role, 0, .noData⟩ }) ∧
    (∀ index, exec (.read .unknown index 0) s =
      .next { s with reply := some ⟨.range, 0, .noData⟩ }) ∧
    (∀ item, readItem s.cfg item = none → exec (.configRead item 0) s =
      .next { s with reply := some ⟨.range, 0, .noData⟩ }) ∧
    (∀ i e, s.track.table[i]? = some e →
      exec (.read .segmentTable i 0) s = .next { s with reply := some ⟨.accepted, 0, .entry e⟩ }) ∧
    (∀ i, s.track.table.length ≤ i →
      exec (.read .segmentTable i 0) s = .next { s with reply := some ⟨.accepted, 0, .noData⟩ }) ∧
    (∀ k : StationId, exec (.read .stations k.num 0) s =
      .next { s with reply := some ⟨.accepted, 0, .station (s.station k)⟩ }) ∧
    (∀ item v, readItem s.cfg item = some v →
      exec (.configRead item 0) s = .next { s with reply := some ⟨.accepted, 0, .value v⟩ }) ∧
    (exec (.configRead .segment 0) s = .next { s with
      reply := some ⟨.accepted, 0, .value (.number s.cfg.segment)⟩ }) ∧
    (∀ z : ZoneId, exec (.configRead (.pitch z.num) 0) s = .next { s with
      reply := some ⟨.accepted, 0, .value (.number (s.zoneCfg z).pitch)⟩ }) ∧
    (exec (.read .stopController 0 0) s = .next { s with reply := some ⟨.accepted, 0,
      .stop s.stop.path s.stop.epoch s.stop.sites s.stop.overflow s.stop.stances s.stop.own⟩ }) ∧
    (s.cfg.kind ≠ some .feed → ∀ c ∈ [Collection.pageQueue, .resumeQueue, .issuedList, .streamFaults,
        .lastClose, .allocator, .pace, .planUnit], ∀ i,
      exec (.read c i 0) s = .next { s with reply := some ⟨.role, 0, .noData⟩ }) ∧
    (s.cfg.kind = some .feed → ∀ i p, s.feed.pages[i]? = some p →
      exec (.read .pageQueue i 0) s = .next { s with reply := some ⟨.accepted, 0, .page p⟩ }) ∧
    (exec (.readCounters 0) s = .next { s with
      stop := { s.stop with counters := Vector.replicate 14 0 }
      line := { s.line with
        crcErrors := 0, stale := 0, txErrors := 0, rxOverflow := false, txOverflow := false,
        limitFlag := false }
      reply := some ⟨.accepted, 0, .counters s.stop.counters s.line.crcErrors s.line.stale
        s.line.txErrors s.line.rxOverflow s.line.txOverflow s.line.limitFlag⟩ })

/-- START answers CONFIG with the number of the first check of R186 that fails, and with none failing
gives the node its start values in IDLE, with the zones BRAKED while the stop aggregate is asserted or
the supply reads LOW; at a configured node it answers STATE. RESTART gives the same values at a
configured node, with the zones IDLE, or BRAKED where the stop aggregate is asserted, and disables every
notice; at an unconfigured one it answers STATE. That checks 4 and 5 read the zones of present stations
alone is the model's (log 47), and so is the ready timer's 0 (log 56). -/
def Obligations.StartAndRestart : Prop :=
  ∀ s : State, s.pins.resetn = true →
    (s.configured = true →
      exec (.start 0) s = .next { s with reply := some ⟨.state, 0, .noData⟩ } ∧
      ∃ t, exec (.restart 0) s = .next t ∧ Started s t t.aggregate ∧
        t.notices = Vector.replicate 12 ⟨false, false, false⟩ ∧
        t.reply = some ⟨.accepted, 0, .noData⟩) ∧
    (s.configured = false →
      exec (.restart 0) s = .next { s with reply := some ⟨.state, 0, .noData⟩ } ∧
      (∀ n, checkFails s.cfg n → (∀ m < n, ¬ checkFails s.cfg m) →
        exec (.start 0) s = .next { s with reply := some ⟨.config, n, .noData⟩ }) ∧
      ((∀ n, ¬ checkFails s.cfg n) → ∃ t, exec (.start 0) s = .next t ∧ Started s t t.braking ∧
        t.reply = some ⟨.accepted, 0, .noData⟩))

/-- A local command that is refused changes nothing but the reply. Data of another length than the
command's is refused with RANGE before anything else is looked at, and so is a header whose command
code is none of the twelve, for which the table has no row (log 28). While RESETn is low no local
command is taken (log 8). -/
def Obligations.RefusedCommandsChangeOnlyTheReply : Prop :=
  (∀ (c : Instr) (s t : State) (r : Reply), isLocal c = true → s.pins.resetn = true →
    exec c s = .next t → t.reply = some r → r.status ≠ .accepted → t = { s with reply := some r }) ∧
  (∀ (s : State) (n : Nat), s.pins.resetn = true → n ≠ 0 → ∀ c : Instr,
    ((∃ item, c = .configRead item n) ∨ c = .start n ∨ c = .restart n ∨
      (∃ st, c = .streamCancel st n ∨ c = .streamRelease st n) ∨ (∃ x i, c = .read x i n) ∨
      c = .readCounters n ∨ c = .noticeRead n ∨ (∃ l, c = .noticeClear l false) ∨
      (∃ l m, c = .noticeSetup l m false) ∨ (∃ data, c = .pageSubmit data ∧ data.length ≠ 9)) →
    exec c s = .next { s with reply := some ⟨.range, 0, .noData⟩ }) ∧
  (∀ (code : Nat) (c : Instr) (s : State), s.pins.resetn = true →
    (code = 0 ∨ 12 < code →
      s.request code (exec c s) = .next { s with reply := some ⟨.range, 0, .noData⟩ }) ∧
    (1 ≤ code → code ≤ 12 → s.request code (exec c s) = exec c s)) ∧
  (∀ (c : Instr) (s : State), isLocal c = true → s.pins.resetn = false → exec c s = .next s)

/-! ### Pages and streams -/

/-- PAGE SUBMIT is refused by the first check of R133 that fails, in the order STATE, ROLE, RANGE, HELD,
DUPLICATE, FULL, and otherwise appends the page and replies with the queue's new length. -/
def Obligations.PageSubmitInOrder : Prop :=
  ∀ (s : State) (d : PageDesc), s.pins.resetn = true → d.Fits → d.nominal < 65536 → d.retry = 0 →
    ∃ t, exec (.pageSubmit (pageBytes d)) s = .next t ∧
      (s.configured = false → t.reply = some ⟨.state, 0, .noData⟩) ∧
      (s.configured = true → s.cfg.kind ≠ some .feed → t.reply = some ⟨.role, 0, .noData⟩) ∧
      (s.configured = true → s.cfg.kind = some .feed →
        (¬ s.pageInRange d → t.reply = some ⟨.range, 0, .noData⟩) ∧
        (s.pageInRange d →
          ((s.feed.faults.get d.stream).faulted = true → t.reply = some ⟨.held, 0, .noData⟩) ∧
          ((s.feed.faults.get d.stream).faulted = false →
            ((d.stream, d.page1) ∈ pageKeys s → t.reply = some ⟨.duplicate, 0, .noData⟩) ∧
            ((d.stream, d.page1) ∉ pageKeys s →
              (16 ≤ s.feed.pages.length → t.reply = some ⟨.full, 0, .noData⟩) ∧
              (s.feed.pages.length < 16 →
                t.reply = some ⟨.accepted, s.feed.pages.length + 1, .noData⟩ ∧
                t.feed = { s.feed with
                  pages := s.feed.pages ++ [d], restTimer := 0, restQueued := false } ∧
                changesOnly [.feed, .zones, .chain, .notices, .reply] s t)))))

/-- STREAM CANCEL takes a stream's pages out of the page queue and the resume queue, clears its fault
flag and replies with the number taken out; STREAM RELEASE clears the flag of a faulted stream and is
refused with STATE for another. -/
def Obligations.StreamCommands : Prop :=
  ∀ (s : State) (n : Nat), s.pins.resetn = true →
    (∀ c ∈ [Instr.streamCancel n 0, .streamRelease n 0],
      (s.configured = false → exec c s = .next { s with reply := some ⟨.state, 0, .noData⟩ }) ∧
      (s.configured = true → s.cfg.kind ≠ some .feed →
        exec c s = .next { s with reply := some ⟨.role, 0, .noData⟩ }) ∧
      (s.configured = true → s.cfg.kind = some .feed → 3 < n →
        exec c s = .next { s with reply := some ⟨.range, 0, .noData⟩ })) ∧
    (s.configured = true → s.cfg.kind = some .feed → ∀ k : Fin 4, k.val = n →
      (∃ t, exec (.streamCancel n 0) s = .next t ∧
        t.feed.pages = s.feed.pages.filter (fun d => d.stream ≠ k) ∧
        t.feed.resume = s.feed.resume.filter (fun d => d.stream ≠ k) ∧
        t.feed.issued = s.feed.issued ∧
        t.feed.faults.get k = ⟨false, (s.feed.faults.get k).first⟩ ∧
        (∀ j, j ≠ k → t.feed.faults.get j = s.feed.faults.get j) ∧
        t.reply = some ⟨.accepted,
          (s.feed.pages.filter fun d => d.stream = k).length +
          (s.feed.resume.filter fun d => d.stream = k).length, .noData⟩ ∧
        changesOnly [.feed, .zones, .chain, .notices, .reply] s t) ∧
      ((s.feed.faults.get k).faulted = false →
        exec (.streamRelease n 0) s = .next { s with reply := some ⟨.state, 0, .noData⟩ }) ∧
      ((s.feed.faults.get k).faulted = true → ∃ t, exec (.streamRelease n 0) s = .next t ∧
        t.feed = { s.feed with
          faults := s.feed.faults.set k ⟨false, (s.feed.faults.get k).first⟩ } ∧
        t.reply = some ⟨.accepted, 0, .noData⟩ ∧
        changesOnly [.feed, .zones, .chain, .notices, .reply] s t))

/-! ### Notices -/

/-- NOTICE READ returns each notice's enable, mode, latch and condition. NOTICE CLEAR clears the named
latches, which in LEVEL mode set again while the condition holds; NOTICE SETUP clears the latch of a
disabled notice and latches an enabled one whose condition holds (log 18). ATTN is active while an
enabled notice has its latch set. -/
def Obligations.NoticeCommands : Prop :=
  ∀ s : State, s.pins.resetn = true →
    (exec (.noticeRead 0) s = .next { s with reply := some ⟨.accepted, 0,
      .notices (Notice.all.map fun n => (s.notice n, s.condition n))⟩ }) ∧
    (∀ names, ∃ t, exec (.noticeClear names true) s = .next t ∧
      (∀ n, n ∈ names → t.notice n = { s.notice n with
        latch := (s.notice n).enabled && (s.notice n).level && s.condition n }) ∧
      (∀ n, n ∉ names → t.notice n = s.notice n) ∧
      t.reply = some ⟨.accepted, 0, .noData⟩ ∧ changesOnly [.notices, .reply] s t) ∧
    (∀ enable level, ∃ t, exec (.noticeSetup enable level true) s = .next t ∧
      (∀ n, t.notice n = { enabled := decide (n ∈ enable), level := decide (n ∈ level)
                           latch := decide (n ∈ enable) && ((s.notice n).latch || s.condition n) }) ∧
      t.reply = some ⟨.accepted, 0, .noData⟩ ∧ changesOnly [.notices, .reply] s t) ∧
    (s.outputs.attn = true ↔
      ((∃ n, (s.notice n).enabled = true ∧ (s.notice n).latch = true) ↔ s.cfg.attn = .highActive))

/-- A command other than a reset, RESTART and the two notice commands leaves every notice's enable and
mode, clears no latch, and latches each enabled notice whose condition comes to hold in it. -/
def Obligations.LatchesFollowConditions : Prop :=
  ∀ (c : Instr) (s t : State), exec c s = .next t →
    c ≠ .powerOnReset → c ≠ .resetnLow → (∀ n, c ≠ .restart n) → (∀ l b, c ≠ .noticeClear l b) →
    (∀ l m b, c ≠ .noticeSetup l m b) →
    ∀ n, (t.notice n).enabled = (s.notice n).enabled ∧ (t.notice n).level = (s.notice n).level ∧
      ((s.notice n).latch = true → (t.notice n).latch = true) ∧
      ((s.notice n).enabled = true → s.condition n = false → t.condition n = true →
        (t.notice n).latch = true)

/-! ### Distance, cover and length -/

/-- A counted edge of a zone: its fraction accumulator carries whole pu into the trackers of what is
bound to the zone, its present stations count it, and its silence timer restarts, in every zone state
(log 38). Another transition of the encoder moves the pin alone (log 26). -/
def Obligations.CountedEdgeAdvancesWhatIsBoundToTheZone : Prop :=
  ∀ (z : ZoneId) (rising : Bool) (s : State),
    (¬ (s.inUse z = true ∧ (rising = true ∨ (s.zoneCfg z).mode = .both)) →
      exec (.encoderCountedEdge z rising) s =
        .next { s with pins := { s.pins with enc := s.pins.enc.set z.ix rising } }) ∧
    (s.inUse z = true → (rising = true ∨ (s.zoneCfg z).mode = .both) →
      ∀ w, w = ((s.zone z).frac + (s.zoneCfg z).pitch) / 4096 →
      ∃ t, exec (.encoderCountedEdge z rising) s = .next t ∧
        t.pins = { s.pins with enc := s.pins.enc.set z.ix rising } ∧
        t.zone z = { s.zone z with
          frac := ((s.zone z).frac + (s.zoneCfg z).pitch) % 4096, silenceTimer := 0,
          silenceStopped := false } ∧
        (∀ y, y ≠ z → t.zone y = s.zone y) ∧
        (∀ k, s.present k = true → (s.stationCfg k).zone = z → t.station k = { s.station k with
          coverCount := if (s.station k).covered then min 65535 ((s.station k).coverCount + 1)
            else (s.station k).coverCount
          coverTracker := if (s.station k).covered then min 65535 ((s.station k).coverTracker + w)
            else (s.station k).coverTracker
          gapTracker := min 65535 ((s.station k).gapTracker + w)
          count := if s.rawCovered k = (s.station k).covered then (s.station k).count
            else min (s.stationCfg k).filter ((s.station k).count + 1)
          stillTimer := 0 }) ∧
        (∀ k, ¬ (s.present k = true ∧ (s.stationCfg k).zone = z) → t.station k = s.station k) ∧
        t.track.table.length = s.track.table.length ∧
        (∀ (i : Nat) (e : Entry), s.track.table[i]? = some e → ∃ f, t.track.table[i]? = some f ∧
          f = { e with
            leadTracker := if s.zoneOf e.lead = some z then min 65535 (e.leadTracker + w)
              else e.leadTracker
            passTracker := if s.zoneOf s.lastStation = some z
              then e.passTracker.map fun d => min 65535 (d + w) else e.passTracker
            passHold := f.passHold } ∧
          (e.passHold ≠ .withheld → f.passHold = e.passHold)) ∧
        t.track.arrivals = (if (s.stationCfg .s1).zone = z
          then s.track.arrivals.map fun a => { a with link := min 65535 (a.link + w) }
          else s.track.arrivals) ∧
        t.track.orphan = (if (s.stationCfg .s1).zone = z
          then s.track.orphan.map fun d => min 65535 (d + w) else s.track.orphan) ∧
        (∀ p, s.pulseBound p z → t.pulse p = { s.pulse p with
          delay := (s.pulse p).delay.map fun d =>
            { d with tracker := min 65535 (d.tracker + w) } }) ∧
        (∀ p, ¬ s.pulseBound p z → t.pulse p = s.pulse p) ∧
        t.feed = { s.feed with
          pace := if s.cfg.kind = some .feed ∧ (s.stationCfg s.cfg.paceStation).zone = z
            then min 65535 (s.feed.pace + w) else s.feed.pace } ∧
        changesOnly [.pins, .zones, .stations, .track, .pulses, .feed, .notices] s t)

/-- A raw change at a station with a filter restarts the pending count; with F 0 a level that leaves
the filtered one is an edge at once, as FILTER_COUNT_COMPLETE makes it on the moved pin. A pin that
does not move its station's level, or a station that does not act, takes the level alone. -/
def Obligations.RawChangeRestartsTheCount : Prop :=
  ∀ (k : StationId) (high : Bool) (s u : State),
    u = { s with pins := { s.pins with sns := s.pins.sns.set k.ix high } } →
    (s.configured = false ∨ s.present k = false ∨ s.pins.sns.get k.ix = high →
      exec (.sensorRawChange k high) s = .next u) ∧
    (s.configured = true → s.present k = true → s.pins.sns.get k.ix ≠ high →
      ((s.stationCfg k).filter ≠ 0 ∨ u.rawCovered k = (s.station k).covered →
        exec (.sensorRawChange k high) s = .next { u with
          stations := u.stations.set k.ix { s.station k with count := 0, stillTimer := 0 } }) ∧
      ((s.stationCfg k).filter = 0 → u.rawCovered k ≠ (s.station k).covered →
        exec (.sensorRawChange k high) s = exec (.filterCountComplete k) u))

/-- A leading edge at S1 covers the station and takes the front arrival entry that the table lacks into
the table, its released blank side imaged at the image station, with its claim where S1 is the gate-set
station, and triggers the pulse outputs; with the queue empty, or of sheets in the table alone, it is STRAY
in IDLE and otherwise an orphan; with the table full it is QUEUE, be the front sheet in the table or not
(log 20). That GATE comes ahead of a PULSE of the same edge, and the claim's service with the claim, is the model's
order (logs 33, 45), and a still edge is the sender's to time (log 2). -/
def Obligations.LeadingEdgeAtS1 : Prop :=
  ∀ (still : Bool) (s : State), s.edgeDue .s1 still → s.rawCovered .s1 = true →
    s.cfg.gapMin ≤ (s.station .s1).gapTracker →
    ∃ t, exec (edgeCommand .s1 still) s = .next t ∧
      t.station .s1 = { s.station .s1 with
        covered := true, count := 0, stillTimer := 0, stillBegun := still, coverCount := 0,
        coverTracker := 0 } ∧
      (∀ k, k ≠ .s1 → t.station k = s.station k) ∧
      (∀ dups a rest, s.track.arrivals = dups ++ a :: rest → s.track.table.length < 8 →
        (∀ d ∈ dups, d.record.sheet ∈ s.track.table.map fun e => e.record.sheet) →
        a.record.sheet ∉ (s.track.table.map fun e => e.record.sheet) →
        t.track.arrivals = rest ∧ t.track.orphan = s.track.orphan ∧
        ∃ others e, t.track.table = others ++ [e] ∧ OthersAfter s s.track.table others ∧
          e.record.sheet = a.record.sheet ∧
          RecordAfter s t .s1 .leading 1 a.record e.record ∧ e.loc = .transit ∧ e.lead = 1 ∧
          e.trail = 0 ∧ e.leadTracker = 0 ∧ e.passSent = false ∧ e.disposition = none ∧
          e.source = a.sender ∧ (s.hasGate = false → e.claimed = 0) ∧
          e.passTracker = (if s.lastStation = 1 then some 0 else none) ∧
          (s.hasGate = false ∨ s.cfg.gateSet ≠ .s1 → e.claimed = 0 ∧ t.gate = s.gate) ∧
          (∀ r, s.hasGate = true → s.cfg.gateSet = .s1 → s.routeFor a.record.leg = some r →
            (s.gate.claims.length < 2 →
              e.claimed = r.next ∧ ClaimMade s t a.record.sheet r.gate) ∧
            (2 ≤ s.gate.claims.length → Clear s →
              StopBegun s .gate s.cfg.gateStation.num a.record.sheet t)) ∧
          Triggers s t .s1 .leading a.record) ∧
      (s.track.table.length < 8 →
        (∀ a ∈ s.track.arrivals, a.record.sheet ∈ s.track.table.map fun e => e.record.sheet) →
        t.track.arrivals = [] ∧ t.track.table = s.track.table ∧
        (s.stop.path ≠ .idle → t.track.orphan = some 0 ∧ t.stop = s.stop) ∧
        (s.stop.path = .idle → s.stop.own = none → s.line.tx.length ≤ 14 →
          StopBegun s .stray 1 0 t)) ∧
      (s.track.arrivals = [] → s.stop.path ≠ .idle →
        t.track = { s.track with orphan := some 0 } ∧ t.stop = s.stop) ∧
      (s.track.arrivals = [] → s.stop.path = .idle → s.stop.own = none → s.line.tx.length ≤ 14 →
        StopBegun s .stray 1 0 t ∧ t.track.table = s.track.table) ∧
      (∀ a rest, s.track.arrivals = a :: rest → 8 ≤ s.track.table.length → Clear s →
        StopBegun s .queue 1 a.record.sheet t ∧ t.track.table = s.track.table ∧
        t.track.arrivals = s.track.arrivals)

/-- A leading edge beyond S1 moves the first entry whose lead landmark is the station before, its
released blank side imaged at the image station, makes its claim at the gate-set station, SET or
WAITING, or none once its trailing edge has passed the gate station, is GATE where the claim still waits beyond that station, and triggers the pulse outputs, a trigger on a delay that is
still pending being PULSE; with no entry it is STRAY, which begins a stop in RUN and IDLE, joins one in
FLUSH and is dropped elsewhere. That GATE comes ahead of a PULSE of the same edge, and the claim's service
with the claim, is the model's order (logs 33, 45), and a still edge is the sender's to time (log 2). -/
def Obligations.LeadingEdgeBeyondS1 : Prop :=
  ∀ (k : StationId) (still : Bool) (s : State), k ≠ .s1 → s.edgeDue k still →
    s.rawCovered k = true → s.cfg.gapMin ≤ (s.station k).gapTracker →
    (∀ front e back, sheetsUnique s →
      FirstIn (fun e : Entry => e.lead + 1 = k.num) s.track.table front e back →
      ∃ t f ahead behind, exec (edgeCommand k still) s = .next t ∧
        t.track.table = ahead ++ f :: behind ∧ OthersAfter s front ahead ∧ OthersAfter s back behind ∧
        (t.station k).covered = true ∧ (t.station k).stillBegun = still ∧
        (t.station k).coverCount = 0 ∧ (t.station k).coverTracker = 0 ∧
        f.lead = k.num ∧ f.leadTracker = 0 ∧ f.trail = e.trail ∧ f.loc = e.loc ∧
        f.passSent = e.passSent ∧ f.record.sheet = e.record.sheet ∧
        RecordAfter s t k .leading k.num e.record f.record ∧
        f.passTracker = (if s.lastStation = k.num then some 0 else e.passTracker) ∧
        t.track.arrivals = s.track.arrivals ∧ t.track.orphan = s.track.orphan ∧
        (s.hasGate = false ∨ s.cfg.gateSet ≠ k → f.claimed = e.claimed ∧ t.gate = s.gate) ∧
        (∀ r, s.hasGate = true → s.cfg.gateSet = k → e.trail < s.cfg.gateStation.num →
          s.routeFor e.record.leg = some r →
          (s.gate.claims.length < 2 → f.claimed = r.next ∧ ClaimMade s t e.record.sheet r.gate) ∧
          (2 ≤ s.gate.claims.length → Clear s →
            StopBegun s .gate s.cfg.gateStation.num e.record.sheet t)) ∧
        (∀ r, s.hasGate = true → s.cfg.gateSet = k → s.cfg.gateStation.num ≤ e.trail →
          s.routeFor e.record.leg = some r → f.claimed = e.claimed ∧ ClaimPassed s t r.gate) ∧
        (Clear s → s.cfg.gateSet.num < k.num →
          (∃ c ∈ s.gate.claims, c.sheet = e.record.sheet ∧ c.set = false) →
          StopBegun s .gate s.cfg.gateStation.num e.record.sheet t) ∧
        Triggers s t k .leading e.record ∧
        (Clear s → s.hasGate = false → s.gate.claims = [] → s.triggered .p1 k .leading e.record →
          (∃ d, (s.pulse .p1).delay = some d ∧
            (d.tracker < d.target ∨ (s.pulse .p1).active ≠ none)) →
          StopBegun s .pulse 1 e.record.sheet t)) ∧
    ((∀ e ∈ s.track.table, e.lead + 1 ≠ k.num) → s.stop.path = .run ∨ s.stop.path = .idle →
      s.stop.own = none → s.line.tx.length ≤ 14 →
      ∃ t, exec (edgeCommand k still) s = .next t ∧ StopBegun s .stray k.num 0 t ∧
        t.track.table = s.track.table) ∧
    ((∀ e ∈ s.track.table, e.lead + 1 ≠ k.num) → s.stop.path = .flush → s.line.tx.length ≤ 14 →
      ∃ t, exec (edgeCommand k still) s = .next t ∧ StopJoined s .stray k.num 0 t ∧
        t.stop.path ∈ [PathState.halting, .halted, .clearing] ∧ t.track.table = s.track.table) ∧
    ((∀ e ∈ s.track.table, e.lead + 1 ≠ k.num) →
      s.stop.path ∈ [PathState.halting, .halted, .clearing, .ready] →
      ∃ t, exec (edgeCommand k still) s = .next t ∧ (t.station k).covered = true ∧
        t.stop = s.stop ∧ t.track = s.track)

/-- A trailing edge before the last station moves the trail landmark of the first entry that expects it,
measures it where the length check is on and both edges were counted edges, fixes it at the FIX node's fix
station and turns a duplex sheet at the TURN node's turn station, with the PASS that the turn hold kept
back (the model's mark of log 9) sent as turned; anywhere else the rest of its record stays, but for a
release that the edge itself starts; its claim leaves once it is clear of the gate station, and the pulse
outputs are triggered, by the record as it stood before a turn (the model's order, log 45). At any
station: at S1 it ends a held orphan with STRAY; one that no entry expects uncovers its station and moves
no entry, no pulse and no cause; and the pace tracker restarts at the pace station alone. A still edge is
the sender's to time (log 2). -/
def Obligations.TrailingEdgeBeforeTheLastStation : Prop :=
  (∀ (k : StationId) (still : Bool) (s : State), s.edgeDue k still → s.rawCovered k = false →
    ∃ t, exec (edgeCommand k still) s = .next t ∧
      t.station k = { s.station k with covered := false, count := 0, stillTimer := 0, gapTracker := 0 } ∧
      (∀ j, j ≠ k → t.station j = s.station j) ∧
      t.feed.pace = (if s.cfg.kind = some .feed ∧ s.cfg.paceStation = k then 0 else s.feed.pace) ∧
      (∀ h, k = .s1 → s.track.orphan = some h →
        t.track.orphan = none ∧ t.track.table = s.track.table ∧
        (t.stop.path = s.stop.path → t.pulses = s.pulses) ∧
        (s.stop.path = .run ∨ s.stop.path = .idle → s.stop.own = none → s.line.tx.length ≤ 14 →
          StopBegun s .stray 1 0 t) ∧
        (s.stop.path = .flush → s.line.tx.length ≤ 14 → StopJoined s .stray 1 0 t) ∧
        (s.stop.path ∈ [PathState.halting, .halted, .clearing, .ready] → t.stop = s.stop)) ∧
      (k ≠ .s1 ∨ s.track.orphan = none → (∀ e ∈ s.track.table, ¬ trailsAt k e) →
        t.track = s.track ∧ (k ≠ s.cfg.gateStation → t.gate = s.gate) ∧
        changesOnly [.stations, .gate, .feed, .zones, .chain, .notices] s t)) ∧
  ∀ (k : StationId) (still : Bool) (s : State) (front : List Entry) (e : Entry) (back : List Entry),
    sheetsUnique s → s.edgeDue k still → s.rawCovered k = false → k.num < s.lastStation →
    (k = .s1 → s.track.orphan = none) → FirstIn (trailsAt k) s.track.table front e back →
    ∃ t f ahead behind, exec (edgeCommand k still) s = .next t ∧
      t.track.table = ahead ++ f :: behind ∧ OthersAfter s front ahead ∧ OthersAfter s back behind ∧
      t.station k = { s.station k with covered := false, count := 0, stillTimer := 0, gapTracker := 0 } ∧
      f.trail = k.num ∧ f.lead = e.lead ∧ f.leadTracker = e.leadTracker ∧
      f.passTracker = e.passTracker ∧ f.record.sheet = e.record.sheet ∧
      f.record.measured = s.measuredAt k still e.record ∧
      t.gate.claims.map (fun c => c.sheet) =
        (if s.hasGate = true ∧ s.cfg.gateStation.num ≤ k.num
          then (s.gate.claims.map fun c => c.sheet).filter fun x => x ≠ e.record.sheet
          else s.gate.claims.map fun c => c.sheet) ∧
      Triggers s t k .trailing e.record ∧
      (¬ (s.cfg.kind = some .fix ∧ s.cfg.fixStation = k) →
        ¬ (s.cfg.kind = some .turn ∧ s.cfg.turnStation = k ∧ e.record.leg = .duplex) →
        RecordAfter s t k .trailing e.lead
          { e.record with measured := f.record.measured } f.record ∧ f.loc = e.loc) ∧
      (s.cfg.kind = some .fix → s.cfg.fixStation = k →
        f.record = { e.record with
          measured := f.record.measured
          side1 := if e.record.side1 = .blank then .blank else .fixed
          side2 := e.record.side2.map fun x => if x = .blank then .blank else .fixed } ∧
        f.loc = e.loc) ∧
      (s.cfg.kind = some .turn → s.cfg.turnStation = k → e.record.leg = .duplex →
        f.record = { e.record with
          measured := f.record.measured, current := .two, released := false } ∧
        (e.loc = .transit → e.passSent = false → e.passHold ≠ .clear → s.line.tx.length ≤ 11 →
          f.loc = .handed ∧ f.passSent = true ∧
          ∃ g ∈ t.line.tx, g.kind = .pass ∧ g.origin = s.cfg.segment ∧
            g.payload = passPayload (s.nextOf f) f.record))

/-- In RUN a leading edge that follows the last trailing edge too closely raises GAP with the sheet it
is matched to, at S1 the front arrival's, even with the table full (log 22), and a length outside its
window raises LENGTH with the station and the sheet. That LENGTH comes ahead of a PULSE of the same edge
is the model's order (log 45), and a still edge is the sender's to time (log 2). -/
def Obligations.GapAndLengthTests : Prop :=
  (∀ (k : StationId) (still : Bool) (s : State), Clear s → s.edgeDue k still →
    s.rawCovered k = true → (s.station k).gapTracker < s.cfg.gapMin →
    ∃ t, exec (edgeCommand k still) s = .next t ∧ t.stop.epoch = nextEpoch s.stop.epoch ∧
      (t.stop.path = .halting ∨ t.stop.path = .halted ∨ t.stop.path = .clearing) ∧
      (k ≠ .s1 → ∀ front e back,
        FirstIn (fun e : Entry => e.lead + 1 = k.num) s.track.table front e back →
        t.stop.own = some ⟨.gap, k.num, e.record.sheet, true⟩ ∧
        t.stop.sites = [⟨s.cfg.segment, .gap, k.num, e.record.sheet⟩]) ∧
      (∀ a rest, k = .s1 → s.track.arrivals = a :: rest →
        a.record.sheet ∉ (s.track.table.map fun e => e.record.sheet) →
        t.stop.own = some ⟨.gap, 1, a.record.sheet, true⟩)) ∧
  (∀ (k : StationId) (s : State) (front : List Entry) (e : Entry) (back : List Entry) (l : Nat),
    Clear s → s.edgeDue k false → s.rawCovered k = false → (k = .s1 → s.track.orphan = none) →
    FirstIn (trailsAt k) s.track.table front e back →
    (s.stationCfg k).lengthCheck = true → (s.station k).stillBegun = false →
    (s.station k).coverCount ≠ 65535 → l = s.lengthAt k →
    e.record.nominal + (s.window e.record.media).tolerance < l ∨
      l + (s.window e.record.media).tolerance < e.record.nominal →
    ∃ t, exec (edgeCommand k false) s = .next t ∧ StopBegun s .length k.num e.record.sheet t)

/-- At the last station of a node that is no sink the trailing edge ends an entry whose PASS is sent, and
leaves one whose PASS is not in the table, measured and, at the fix station, fixed. At a TURN node whose
turn station it is, it turns a duplex sheet, sends the PASS that the turn hold kept back (the model's mark
of log 9) as turned and ends the entry. Its pulse outputs are triggered by the record as it stood before
that turn, which is the model's order of the effects of one edge (log 45). A still edge is the sender's to
time (log 2). -/
def Obligations.TrailingEdgeAtTheLastStation : Prop :=
  ∀ (k : StationId) (still : Bool) (s : State) (front : List Entry) (e : Entry) (back : List Entry),
    sheetsUnique s → s.edgeDue k still → s.rawCovered k = false → k.num = s.lastStation →
    (k = .s1 → s.track.orphan = none) → FirstIn (trailsAt k) s.track.table front e back →
    s.isSink = false →
    ∃ t, exec (edgeCommand k still) s = .next t ∧ Triggers s t k .trailing e.record ∧
      (e.loc = .handed ∨ (e.loc = .held ∧ e.passSent = true) →
        OthersAfter s (front ++ back) t.track.table ∧ ∀ c ∈ t.gate.claims, c.sheet ≠ e.record.sheet) ∧
      ((s.cfg.kind = some .turn → s.cfg.turnStation = k → e.record.leg ≠ .duplex) →
        e.loc = .transit ∨ (e.loc = .held ∧ e.passSent = false) →
        ∃ f ahead behind, t.track.table = ahead ++ f :: behind ∧
          OthersAfter s front ahead ∧ OthersAfter s back behind ∧ f.trail = k.num ∧ f.loc = e.loc ∧
          f.record.sheet = e.record.sheet ∧ f.passSent = e.passSent ∧ f.lead = e.lead ∧
          f.record.measured = s.measuredAt k still e.record ∧
          (¬ (s.cfg.kind = some .fix ∧ s.cfg.fixStation = k) →
            RecordAfter s t k .trailing e.lead
              { e.record with measured := f.record.measured } f.record) ∧
          (s.cfg.kind = some .fix → s.cfg.fixStation = k →
            f.record = { e.record with
              measured := f.record.measured
              side1 := if e.record.side1 = .blank then .blank else .fixed
              side2 := e.record.side2.map fun x => if x = .blank then .blank else .fixed })) ∧
      (s.cfg.kind = some .turn → s.cfg.turnStation = k → e.record.leg = .duplex →
        ∀ f : Entry, f = { e with
          trail := k.num
          record := { e.record with
            measured := s.measuredAt k still e.record, current := .two, released := false } } →
        (e.loc = .transit → e.passSent = false → e.passHold ≠ .clear → s.line.tx.length ≤ 11 →
          t.track.table = front ++ back ∧
          ∃ g ∈ t.line.tx, g.kind = .pass ∧ g.origin = s.cfg.segment ∧
            g.payload = passPayload (s.nextOf f) f.record) ∧
        ((e.loc = .transit ∧ (e.passSent = true ∨ e.passHold = .clear)) ∨
            (e.loc = .held ∧ e.passSent = false) →
          t.track.table = front ++ f :: back))

/-- At a sink's last station the entry leaves the table and the delivery unit takes the sheet: rejected
by hand in a halt, announced as DELIVER by kind, rejected with a purge flag or an unfixed side, or
compiled, with FINISH raised at a full compile list. With twelve announcements waiting the frame is lost
with LINE. A staple starts when the compile list begins with a whole set and no operation runs. The edge triggers its pulse
outputs. That the
case follows the path state which the edge found, though the LENGTH of the same edge brings the node to
rest, is the model's reading (log 45), and a still edge is the sender's to time (log 2). -/
def Obligations.SinksTakeTheSheet : Prop :=
  ∀ (k : StationId) (still : Bool) (s : State) (front : List Entry) (e : Entry) (back : List Entry),
    sheetsUnique s → s.edgeDue k still → s.rawCovered k = false → k.num = s.lastStation →
    (k = .s1 → s.track.orphan = none) → FirstIn (trailsAt k) s.track.table front e back →
    s.isSink = true →
    ∃ t, exec (edgeCommand k still) s = .next t ∧ t.track.table = front ++ back ∧
      Triggers s t k .trailing e.record ∧
      (s.stop.path ∈ [PathState.halted, .clearing, .ready] → t.deliv = { s.deliv with
        rejects := min 255 (s.deliv.rejects + 1)
        lastReject := some ⟨e.record.sheet, e.record.stream, e.record.page1, .hand⟩ }) ∧
      (s.stop.path ∉ [PathState.halted, .clearing, .ready] →
        (s.cfg.kind = some .purge →
          (s.deliv.announce.length < 12 → t.deliv = { s.deliv with announce := s.deliv.announce ++
            [.deliver .purge e.record.sheet e.record.stream e.record.page1] }) ∧
          (12 ≤ s.deliv.announce.length → t.deliv = s.deliv ∧
            (Clear s → Calm s k still e → StopBegun s .line 2 0 t))) ∧
        (s.cfg.kind ≠ some .purge → e.record.purge = true → t.deliv = { s.deliv with
          rejects := min 255 (s.deliv.rejects + 1)
          lastReject := some ⟨e.record.sheet, e.record.stream, e.record.page1, .purgeFlag⟩ }) ∧
        (s.cfg.kind ≠ some .purge → e.record.purge = false →
          e.record.side1 = .unfixed ∨ e.record.side2 = some .unfixed → t.deliv = { s.deliv with
            rejects := min 255 (s.deliv.rejects + 1)
            lastReject := some ⟨e.record.sheet, e.record.stream, e.record.page1, .unfixed⟩ }) ∧
        (e.record.purge = false → e.record.side1 ≠ .unfixed → e.record.side2 ≠ some .unfixed →
          (s.cfg.kind = some .stack →
            (s.deliv.announce.length < 12 → t.deliv = { s.deliv with announce := s.deliv.announce ++
              [.deliver .final e.record.sheet e.record.stream e.record.page1] }) ∧
            (12 ≤ s.deliv.announce.length → t.deliv = s.deliv ∧
              (Clear s → Calm s k still e → StopBegun s .line 2 0 t))) ∧
          (s.cfg.kind = some .finish → s.deliv.compile.length < 16 →
            t.deliv.compile = s.deliv.compile ++ [e.record.compileRecord] ∧
            (s.deliv.announce.length < 12 → t.deliv.announce = s.deliv.announce ++
              [.deliver .compiled e.record.sheet e.record.stream e.record.page1]) ∧
            (12 ≤ s.deliv.announce.length → t.deliv.announce = s.deliv.announce ∧
              (Clear s → Calm s k still e → StopBegun s .line 2 0 t)) ∧
            (s.deliv.op = .noOp → s.deliv.heldMark = false →
              (s.deliv.compile = [] → e.record.first = true → e.record.last = true →
                t.deliv.op = .staple ∧ t.deliv.stapleCount = 1 ∧ t.deliv.opTimer = 0 ∧
                t.deliv.fsel = false) ∧
              (∀ run more, t.deliv.compile = run ++ more → IsStapleRun run →
                t.deliv.op = .staple ∧ t.deliv.stapleCount = run.length ∧ t.deliv.opTimer = 0 ∧
                t.deliv.fsel = false) ∧
              ((∀ run more, t.deliv.compile = run ++ more → ¬ IsStapleRun run) →
                t.deliv.op = .noOp)) ∧
            (s.deliv.op ≠ .noOp ∨ s.deliv.heldMark = true → t.deliv.op = s.deliv.op ∧
              t.deliv.stapleCount = s.deliv.stapleCount)) ∧
          (s.cfg.kind = some .finish → 16 ≤ s.deliv.compile.length →
            t.deliv = s.deliv ∧
            (Clear s → Calm s k still e → StopBegun s .finish 0 e.record.sheet t))))

/-- The corrected length is the sum of R36 rounded to the nearest pu, halves upward, and clamped to 0
to 8191. -/
def Obligations.CorrectedLengthRounds : Prop :=
  ∀ (count pitch gain : Nat) (offset sum : Int),
    sum = (count : Int) * pitch * gain + offset * 2 ^ 20 →
    (sum + 2 ^ 27 < 0 → correctedLength count pitch gain offset = 0) ∧
    (2 ^ 28 * 8192 ≤ sum + 2 ^ 27 → correctedLength count pitch gain offset = 8191) ∧
    (0 ≤ sum + 2 ^ 27 → sum + 2 ^ 27 < 2 ^ 28 * 8192 →
      2 ^ 28 * (correctedLength count pitch gain offset : Int) ≤ sum + 2 ^ 27 ∧
      sum + 2 ^ 27 < 2 ^ 28 * ((correctedLength count pitch gain offset : Int) + 1))

/-! ### Passing on -/

/-- At its pass point an entry is announced to its next segment and handed on, or leaves where its
trailing edge has passed the last station; the turn hold keeps the PASS back, and DEFERRED_PASS sends
one that is due (the mark is the model's, log 9). A PASS without a place is lost, and the entry changes
as if it were sent. -/
def Obligations.PassPointAnnouncesTheSheet : Prop :=
  ∀ (s : State) (front : List Entry) (e : Entry) (back : List Entry), sheetsUnique s →
    s.track.table = front ++ e :: back → AtPassPoint s e →
    (TurnHold s e → e.passHold = .clear →
      ∃ t, exec (.passPointReached front.length) s = .next t ∧
        t.track = { s.track with table := front ++ { e with passHold := .withheld } :: back } ∧
        changesOnly [.track, .notices] s t) ∧
    (¬ TurnHold s e → e.passHold ≠ .withheld →
      ∀ c, c = (if e.passHold = .clear then Instr.passPointReached front.length
        else .deferredPass front.length) →
      ∃ t, exec c s = .next t ∧
        (e.trail < s.lastStation → t.track.table =
          front ++ { e with passSent := true, loc := .handed, passHold := .clear } :: back) ∧
        (s.lastStation ≤ e.trail → t.track.table = front ++ back) ∧
        (s.line.tx.length < 14 → ∃ more, t.line.tx = s.line.tx ++ s.passOf e :: more) ∧
        (14 ≤ s.line.tx.length → t.line.txOverflow = true ∧
          (Clear s → StopBegun s .line 2 0 t)))

/-! ### Jam causes -/

/-- In RUN each window test and the guard test that fails begins a stop with its own cause, station and
sheet (R39, R40, R41, R93); the guard test fails too once the sheet's leading edge has passed a station
beyond the gate-set station. That the test is made at this moment is the sender's to say (log 2). -/
def Obligations.WindowTestsBeginAStop : Prop :=
  ∀ s : State, Clear s →
    (∀ (i : Nat) (e : Entry) (k : StationId), s.track.table[i]? = some e → e.loc ≠ .held →
      1 ≤ e.lead → e.lead < s.lastStation → k.num = e.lead + 1 →
      (s.stationCfg k).spacing + (s.window e.record.media).late < e.leadTracker →
      ∃ t, exec (.lateAtStation i) s = .next t ∧ StopBegun s .late k.num e.record.sheet t) ∧
    (∀ (i : Nat) (a : Arrival), s.track.arrivals[i]? = some a → a.unresolved = false →
      a.linkDistance + (s.window a.record.media).late < a.link →
      ∃ t, exec (.lateAtS1 i) s = .next t ∧ StopBegun s .late 1 a.record.sheet t) ∧
    (∀ (k : StationId) (front : List Entry) (e : Entry) (back : List Entry), s.present k = true →
      (s.station k).covered = true → FirstIn (trailsAt k) s.track.table front e back →
      e.record.measured.getD e.record.nominal + (s.window e.record.media).stall <
        (s.station k).coverTracker ∨ (s.station k).coverCount = 65535 →
      ∃ t, exec (.stall k) s = .next t ∧ StopBegun s .stall k.num e.record.sheet t) ∧
    (∀ k : StationId, s.present k = true → (s.station k).covered = true →
      (∀ e ∈ s.track.table, ¬ trailsAt k e) →
      4800 + (s.window 0).stall < (s.station k).coverTracker ∨ (s.station k).coverCount = 65535 →
      ∃ t, exec (.stall k) s = .next t ∧ StopBegun s .stall k.num 0 t) ∧
    (∀ (i : Nat) (c : Claim) (front : List Entry) (e : Entry) (back : List Entry),
      s.gate.claims[i]? = some c → c.set = false →
      FirstIn (fun e : Entry => e.record.sheet = c.sheet) s.track.table front e back →
      s.cfg.gateSet.num < e.lead ∨
        (e.lead = s.cfg.gateSet.num ∧ s.cfg.gateDistance ≤ e.leadTracker + s.cfg.gateGuard) →
      ∃ t, exec (.gateGuardFail i) s = .next t ∧
        StopBegun s .gate s.cfg.gateStation.num c.sheet t)

/-- In RUN encoder silence, a drive that does not come or goes away, a low supply, sixteen transmit
errors in a row and an orphan held too long each begin a stop with their cause. A silence takes with it
those of the zones whose timers have reached their time too (the model's choice, log 40): each is counted
and has its JAMCALL, and the first alone stands as site and own cause. In FLUSH and HALTING silences join
the stop, in the other states they are dropped, and in all of them their timers stop. That a timer has run
out is the sender's to say (log 2), and so is it that a pin's change is read (log 55); the tests after a
failed chain are the model's (log 34). -/
def Obligations.FaultsBeginAStop : Prop :=
  (∀ (z : ZoneId) (s : State), s.inUse z = true → (s.zone z).silenceStopped = false →
    (s.zone z).state = .rising ∨ (s.zone z).state = .running ∨
      2 ^ (s.zoneCfg z).silenceExp ≤ (s.zone z).silenceTimer →
    ∃ t, exec (.silenceTimeout z) s = .next t ∧
      (∀ y, s.silentIn z y = true →
        (t.zone y).silenceTimer = 2 ^ (s.zoneCfg y).silenceExp ∧
        (t.zone y).silenceStopped = true) ∧
      ((∀ y, s.silentIn z y = true → y = z) →
        (Clear s → StopBegun s .drive z.num 0 t) ∧
        (s.stop.path ∈ [PathState.flush, .halting] → s.line.tx.length ≤ 14 →
          StopJoined s .drive z.num 0 t)) ∧
      (s.stop.path ∈ [PathState.run, .flush, .halting] → s.line.tx.length ≤ 12 →
        t.causeCount .drive =
          min 255 (s.causeCount .drive + ZoneId.all.countP (s.silentIn z)) ∧
        (∀ y, s.silentIn z y = true →
          ⟨.jamcall, s.cfg.segment, t.stop.epoch, jamcallPayload (s.siteOf .drive y.num 0)⟩
            ∈ t.line.tx) ∧
        (s.stop.own = none → t.stop.own = some ⟨.drive, z.num, 0, true⟩) ∧
        (∀ o, s.stop.own = some o → t.stop.own = some { o with cycle := true })) ∧
      (Clear s → t.stop.epoch = nextEpoch s.stop.epoch ∧
        t.stop.sites = [s.siteOf .drive z.num 0]) ∧
      (s.stop.path ∉ [PathState.run, .flush, .halting] → t.stop = s.stop ∧ t.line = s.line)) ∧
  ∀ s : State, Clear s →
    (s.chain.state = .wait → (∃ z, (s.zone z).risePending = true) →
      ∃ t, exec .readyTimerExpiry s = .next t ∧ StopBegun s .drive 0 0 t ∧
        (∀ z, (t.zone z).risePending = false) ∧
        (t.chain.state = .failed ∨ t.chain.state = .off)) ∧
    (s.chain.state = .on → (∃ z, s.inUse z = true ∧ (s.zone z).atRest = false) →
      ∃ t, exec .drdyLost s = .next t ∧ StopBegun s .drive 0 0 t ∧
        t.pins = { s.pins with drdy := false } ∧
        ∀ z, s.inUse z = true → (t.zone z).atRest = true) ∧
    (s.supply.ok = true → s.supply.hold.isSome = true →
      s.pins.vsense < supplyReference s.cfg.supplySelect →
      ∃ t, exec .supplyHoldExpiry s = .next t ∧ StopBegun s .supply 0 0 t ∧
        t.supply = ⟨false, none⟩ ∧
        ∀ z, s.inUse z = true → (t.zone z).state = .braked ∧ (t.zone z).output = 0) ∧
    (16 ≤ s.line.errorRun →
      ∃ t, exec .errorLimitReached s = .next t ∧ StopBegun s .line 3 0 t ∧
        t.line.limitFlag = true ∧ t.line.errorRun = 0) ∧
    (∀ h, s.track.orphan = some h → s.cfg.orphanHold < h →
      ∃ t, exec .orphanHoldExpiry s = .next t ∧ StopBegun s .stray 1 0 t ∧ t.track.orphan = none)

/-- Each cause has its own code, takes effect by path state as the table of R45 says, and changes
nothing where it does not. -/
def Obligations.CausesTakeEffectByPathState : Prop :=
  (∀ c : Cause, 1 ≤ c.code ∧ c.code ≤ 14 ∧ Cause.ofCode c.code = some c) ∧
  (∀ p : PathState,
    (∀ c ∈ [Cause.late, .stall, .length, .gap, .gate, .pulse, .finish],
      (c.takesEffect p = true ↔ p ∈ [PathState.run, .flush])) ∧
    (Cause.stray.takesEffect p = true ↔ p ∈ [PathState.idle, .run, .flush]) ∧
    (∀ c ∈ [Cause.drive, .interlock, .queue, .line, .supply],
      (c.takesEffect p = true ↔ p ∈ [PathState.run, .flush, .halting])) ∧
    Cause.notready.takesEffect p = false) ∧
  (∀ (c : Cause) (place sheet : Nat) (s : State),
    c.takesEffect s.stop.path = false → s.raise c place sheet = s)

/-- A cause that takes effect in FLUSH or HALTING joins the stop: the epoch stays, the site is added where
the segment has none and four are not listed, the own-cause record keeps its first cause, the cause is
counted, its JAMCALL goes out, and the node is on its way to rest: from FLUSH it enters HALTING, its zones
falling or braked and its stance announced, and in HALTING it goes on as it is, but for SUPPLY and
INTERLOCK as first own cause, which brake every zone. A cause that takes effect in RUN or IDLE begins a
stop with the same entry to HALTING (rest at once is by log 11); that its STOPSTATE then stands ahead of
its JAMCALL in the transmit queue is the model's reading of the order of R51's steps (log 10). One of two
causes raised in one command joins the same way though the first has brought the node to rest already,
when both would take effect in HALTING (the model's reading, log 40). -/
def Obligations.CausesJoinAStop : Prop :=
  (∀ (from_ : PathState) (c : Cause) (place sheet : Nat) (s : State),
    (s.stop.path ∈ [PathState.halted, .clearing] → c.takesEffect from_ = true →
      c.takesEffect .halting = true → s.line.tx.length ≤ 15 → ∀ t,
      t = s.raiseFrom from_ c place sheet →
      StopJoined s c place sheet t ∧ t.stop.path = s.stop.path ∧ changesOnly [.stop, .line] s t) ∧
    (s.stop.path ∉ [PathState.halted, .clearing] ∨ c.takesEffect from_ = false ∨
        c.takesEffect .halting = false →
      s.raiseFrom from_ c place sheet = s.raise c place sheet)) ∧
  (∀ (c : Cause) (place sheet : Nat) (s : State), c.takesEffect s.stop.path = true →
    s.stop.path = .run ∨ s.stop.path = .idle → s.stop.own = none → s.line.tx.length ≤ 14 →
    ∀ t, t = s.raise c place sheet →
      StopBegun s c place sheet t ∧ EntersHalting s t ∧
      t.line.tx = s.line.tx ++ [t.restNotice,
        ⟨.jamcall, s.cfg.segment, t.stop.epoch, jamcallPayload (s.siteOf c place sheet)⟩]) ∧
  ∀ (c : Cause) (place sheet : Nat) (s : State),
    s.stop.path = .flush ∨ s.stop.path = .halting → c.takesEffect s.stop.path = true →
    s.line.tx.length ≤ 14 → ∀ t, t = s.raise c place sheet →
      t.stop.epoch = s.stop.epoch ∧ t.stop.stances = s.stop.stances ∧
      (t.stop.path = .halting ∨ t.stop.path = .halted ∨ t.stop.path = .clearing) ∧
      (s.stop.own = none → t.stop.own = some ⟨c, place, sheet, c.needsCycle⟩) ∧
      (∀ o, s.stop.own = some o →
        t.stop.own = some { o with cycle := o.cycle || c.needsCycle }) ∧
      ((∃ x ∈ s.stop.sites, x.segment = s.cfg.segment) → t.stop.sites = s.stop.sites ∧
        t.stop.overflow = s.stop.overflow) ∧
      ((∀ x ∈ s.stop.sites, x.segment ≠ s.cfg.segment) →
        (s.stop.sites.length < 4 → t.stop.sites = s.stop.sites ++ [s.siteOf c place sheet] ∧
          t.stop.overflow = s.stop.overflow) ∧
        (4 ≤ s.stop.sites.length → t.stop.sites = s.stop.sites ∧ t.stop.overflow = true)) ∧
      t.causeCount c = min 255 (s.causeCount c + 1) ∧
      (∃ more, t.line.tx = s.line.tx ++
        ⟨.jamcall, s.cfg.segment, s.stop.epoch, jamcallPayload (s.siteOf c place sheet)⟩ :: more) ∧
      (s.stop.path = .flush → EntersHalting s t) ∧
      (s.stop.path = .halting → s.stop.own = none → c = .supply ∨ c = .interlock →
        RestPath s t ∧ ∀ z, s.inUse z = true →
          (t.zone z).state = .braked ∧ (t.zone z).output = 0 ∧ (t.zone z).risePending = false) ∧
      (s.stop.path = .flush ∨ (s.stop.own = none ∧ (c = .supply ∨ c = .interlock)) →
        t.line.tx = s.line.tx ++
          [⟨.jamcall, s.cfg.segment, s.stop.epoch, jamcallPayload (s.siteOf c place sheet)⟩,
            t.restNotice]) ∧
      (s.stop.path = .halting → s.stop.own ≠ none ∨ (c ≠ .supply ∧ c ≠ .interlock) →
        t.stop.path = .halting ∧ t.line.tx = s.line.tx ++
          [⟨.jamcall, s.cfg.segment, s.stop.epoch, jamcallPayload (s.siteOf c place sheet)⟩] ∧
        changesOnly [.stop, .line, .notices] s t) ∧
      changesOnly [.stop, .zones, .chain, .pulses, .line, .notices, .track, .feed] s t

/-! ### Gate and pulses -/

/-- The front claim is served when the gate already stands in its position, or may move because the
gate station is uncovered in RUN, FLUSH or HALTING; a claim behind that needs the same position is SET
with it. A sheet's claim leaves with it. A claim is made behind those that stand, SET or WAITING (served
as it is made, log 45), and GATE is raised where two stand already; a sheet already past the gate station
has no claim, and the gate moves for it where no claim stands. The pin GATE is high in position B at a node with a gate. That a claim of the
gate's own position is SET in any state is the model's (log 33). -/
def Obligations.GateServesTheFrontClaim : Prop :=
  ∀ s : State,
    (s.outputs.gate = true ↔ s.hasGate = true ∧ s.gate.pos = .b) ∧
    (∀ c rest, s.gate.claims = c :: rest → c.set = false →
      (c.pos = s.gate.pos ∨ ((s.station s.cfg.gateStation).covered = false ∧
          s.stop.path ∈ [PathState.run, .flush, .halting]) →
        s.gateService = { s with gate :=
          { pos := c.pos
            claims := { c with set := true } ::
              rest.map fun d => if d.pos = c.pos then { d with set := true } else d } }) ∧
      (¬ (c.pos = s.gate.pos ∨ ((s.station s.cfg.gateStation).covered = false ∧
          s.stop.path ∈ [PathState.run, .flush, .halting])) → s.gateService = s)) ∧
    (∀ sheet, (s.leaveClaim sheet).gate.claims.map (fun c => c.sheet) =
      (s.gate.claims.map fun c => c.sheet).filter fun x => x ≠ sheet) ∧
    (∀ (front : List Entry) (e : Entry) (back : List Entry) (r : Route),
      FirstIn (fun f : Entry => f.record.sheet = e.record.sheet) s.track.table front e back →
      s.routeFor e.record.leg = some r → e.trail < s.cfg.gateStation.num →
      (s.gate.claims.length < 2 →
        ClaimMade s (s.makeClaim e.record.sheet) e.record.sheet r.gate ∧
        ∃ f ∈ (s.makeClaim e.record.sheet).track.table, f = { e with claimed := r.next }) ∧
      (2 ≤ s.gate.claims.length → Clear s →
        StopBegun s .gate s.cfg.gateStation.num e.record.sheet (s.makeClaim e.record.sheet))) ∧
    (∀ (front : List Entry) (e : Entry) (back : List Entry) (r : Route),
      FirstIn (fun f : Entry => f.record.sheet = e.record.sheet) s.track.table front e back →
      s.routeFor e.record.leg = some r → s.cfg.gateStation.num ≤ e.trail →
      ClaimPassed s (s.makeClaim e.record.sheet) r.gate ∧
      changesOnly [.gate] s (s.makeClaim e.record.sheet))

/-- A complete delay starts its pulse when no width is active and waits otherwise; a width's end lets
the output go, or starts the pulse of a delay that is complete; the sender of the command says that the
width is over (log 2). The RELEASE output of an IMAGE node
sets the released flag of its sheet, whose blank side takes the image once it has passed the image
station. -/
def Obligations.PulsesStartAndEnd : Prop :=
  ∀ (p : PulseId) (s : State),
    (∀ d, (s.pulse p).delay = some d → (s.pulse p).active = none → d.target ≤ d.tracker →
      ∃ t, exec (.pulseDelayComplete p) s = .next t ∧
        t.pulse p = ⟨none, some ⟨0, d.width, d.sheet⟩⟩ ∧ t.outputs.po.get p.ix = true ∧
        (∀ q, q ≠ p → (t.pulse q).active = (s.pulse q).active) ∧
        (s.cfg.kind ≠ some .image ∨ (s.pulseCfg p).qualifier ≠ .release →
          changesOnly [.pulses] s t) ∧
        (s.cfg.kind = some .image → (s.pulseCfg p).qualifier = .release → sheetsUnique s →
          ∀ front e back, FirstIn (fun e : Entry => e.record.sheet = d.sheet) s.track.table
              front e back →
            ∃ f, t.track.table = front ++ f :: back ∧ f.record.released = true ∧
              (s.cfg.imageStation.num ≤ e.lead → e.record.currentState = some .blank →
                f.record.currentState = some .unfixed) ∧
              (e.lead < s.cfg.imageStation.num ∨ e.record.currentState ≠ some .blank →
                f.record = { e.record with released := true }))) ∧
    ((s.pulse p).delay = none ∨ (s.pulse p).active ≠ none ∨
        (∀ d ∈ (s.pulse p).delay, d.tracker < d.target) →
      exec (.pulseDelayComplete p) s = .next s) ∧
    (∀ w, (s.pulse p).active = some w →
      ((∀ d ∈ (s.pulse p).delay, d.tracker < d.target) →
        ∃ t, exec (.pulseWidthEnd p) s = .next t ∧ t.pulse p = ⟨(s.pulse p).delay, none⟩ ∧
          t.outputs.po.get p.ix = false ∧ changesOnly [.pulses] s t) ∧
      (∀ d, (s.pulse p).delay = some d → d.target ≤ d.tracker →
        ∃ t, exec (.pulseWidthEnd p) s = .next t ∧
          t.pulse p = ⟨none, some ⟨0, d.width, d.sheet⟩⟩ ∧ t.outputs.po.get p.ix = true))

/-! ### Feeding -/

/-- A page is issued when the lane is open and its media is ready: it leaves its queue, the first free
sheet ID from the next after the last is allocated, the issued entry is IN-FLIGHT, the pick enters the empty
arrival queue, and the pick pulse is triggered. -/
def Obligations.IssueCommitsThePage : Prop :=
  ∀ (s : State) (d : PageDesc) (f : FeedUnit), LaneOpen s → IsCandidate s d f →
    s.trayReady d.media = true → s.feed.lastSheet ≤ 255 →
    ∃ (t : State) (id : Nat), exec .issue s = .next t ∧ 1 ≤ id ∧ id ≤ 255 ∧
      (∀ i ∈ s.feed.issued, i.sheet ≠ id) ∧
      (∃ n, id = (s.feed.lastSheet + n) % 255 + 1 ∧
        ∀ m < n, ∃ i ∈ s.feed.issued, i.sheet = (s.feed.lastSheet + m) % 255 + 1) ∧
      t.feed = { f with
        lastSheet := id, issued := s.feed.issued ++ [{ sheet := id, page := d, compiled := false }]
        restTimer := 0, restQueued := false } ∧
      t.track.arrivals = [{
        record := {
          sheet := id, stream := d.stream, page1 := some d.page1, page2 := d.page2, set := d.set,
          first := d.first, last := d.last, media := d.media, nominal := d.nominal,
          measured := none, dest := d.dest, purge := false, side1 := .blank,
          side2 := d.page2.map fun _ => .blank, current := .one, released := false,
          retry := d.retry }
        sender := 0, link := 0, linkDistance := s.cfg.pickDistance, unresolved := false }] ∧
      ((s.pulse .p1).delay = none → (s.pulse .p1).active = none →
        t.pulse .p1 = ⟨none, some ⟨0, s.cfg.pickWidth, id⟩⟩ ∧ t.stop = s.stop) ∧
      (∀ w, (s.pulse .p1).delay = none → (s.pulse .p1).active = some w →
        t.pulse .p1 = ⟨some ⟨0, 0, s.cfg.pickWidth, id⟩, some w⟩) ∧
      (∀ x, (s.pulse .p1).delay = some x → x.target ≤ x.tracker → (s.pulse .p1).active = none →
        t.pulse .p1 = ⟨some ⟨0, 0, s.cfg.pickWidth, id⟩, some ⟨0, x.width, x.sheet⟩⟩ ∧
        t.stop = s.stop) ∧
      (∀ x, (s.pulse .p1).delay = some x → x.tracker < x.target ∨ (s.pulse .p1).active ≠ none →
        Clear s → StopBegun s .pulse 1 id t)

/-- With a page to issue in RUN, reaching the pace gap asks for the rise of each zone at rest, which is
dropped where the zones are called to the brake or the chain has FAILED; the start test queues GO once,
whatever event made it hold (the model's choice, log 62); a media class is ready while a slot of its trays
reads ASSERTED; the rest timer, whose end is the sender's to say (log 2), queues REST once. -/
def Obligations.FeedUnitStartsAndRests : Prop :=
  ∀ s : State, s.cfg.kind = some .feed →
    (∀ m, s.trayReady m = true ↔ ∃ n : Fin 8, (s.cfg.slots.get n).tag ≠ 0 ∧
      (s.cfg.slots.get n).tray.get m = true ∧ s.tags.slots.get n = .asserted) ∧
    (∀ d f, s.stop.path = .run → s.cfg.paceGap ≤ s.feed.pace → IsCandidate s d f →
      ∃ t, exec .paceGapReached s = .next t ∧ changesOnly [.zones, .chain, .notices] s t ∧
        (s.braking = false → s.chain.state ≠ .failed → RisesAsked s t) ∧
        (s.braking = true ∨ s.chain.state = .failed → t.zones = s.zones ∧ t.chain = s.chain)) ∧
    (∀ d f, s.stop.path = .idle → IsCandidate s d f → s.trayReady d.media = true →
      s.feed.startMark = false → s.supply.ok = true → s.aggregate = false →
      ∃ t, exec .startGo s = .next t ∧
        (s.line.tx.length < 14 → t.feed = { s.feed with startMark := true } ∧
          t.line = { s.line with tx := s.line.tx ++ [⟨.go, s.cfg.segment, s.stop.epoch, []⟩] }) ∧
        (14 ≤ s.line.tx.length → t.feed = s.feed ∧ t.line = { s.line with txOverflow := true } ∧
          t.stop = s.stop)) ∧
    (s.stop.path = .run → s.feed.issued = [] → s.feed.pages = [] → s.feed.resume = [] →
      s.feed.restQueued = false →
      ∃ t, exec .restTimerExpiry s = .next t ∧
        (s.line.tx.length < 14 → t.feed =
            { s.feed with restTimer := s.cfg.restDelay, restQueued := true } ∧
          t.line = { s.line with tx := s.line.tx ++ [⟨.rest, s.cfg.segment, s.stop.epoch, []⟩] }) ∧
        (s.line.tx.length = 14 → s.stop.own = none → StopBegun s .line 2 0 t))

/-! ### Drive -/

/-- DRDY in WAIT turns the chain ON and begins the rises that wait; lost with every zone at rest it
turns the chain back to WAIT, the ready timer reading 0 (the model's choice, log 56). In other states the
pin alone changes. DRVEN is high in every chain state but OFF; ZCMD carries a zone's output, and BRK is
high where it is BRAKED. That the change of DRDY is read is the sender's to say (log 55). -/
def Obligations.DriveChainFollowsTheDriver : Prop :=
  ∀ s : State,
    (s.outputs.drven = true ↔ s.chain.state ≠ .off) ∧
    (∀ z, s.outputs.zcmd.get z.ix = (s.zone z).output ∧
      (s.outputs.brk.get z.ix = true ↔ (s.zone z).state = .braked)) ∧
    (s.chain.state = .wait → ∃ t, exec .drdyPresent s = .next t ∧
      t.pins = { s.pins with drdy := true } ∧ t.chain.state = .on ∧
      (∀ z, (s.zone z).risePending = true → t.zone z = s.begun z) ∧
      (s.cfg.kind ≠ some .feed → ∀ z, (s.zone z).risePending = false → t.zone z = s.zone z) ∧
      changesOnly [.pins, .chain, .zones, .notices] s t) ∧
    (s.chain.state ≠ .wait →
      exec .drdyPresent s = .next { s with pins := { s.pins with drdy := true } }) ∧
    (s.chain.state = .on → s.allRest = true →
      ∃ t, exec .drdyLost s = .next t ∧ t.chain = { state := .wait, readyTimer := 0 } ∧
        t.pins = { s.pins with drdy := false } ∧ changesOnly [.pins, .chain] s t) ∧
    (s.chain.state ≠ .on →
      exec .drdyLost s = .next { s with pins := { s.pins with drdy := false } })

/-- A profile step: a rise goes on to RUNNING at its region's end, and a fall goes on, never raising the
output, to IDLE with output 0 at its region's end. That this last step leaves the position and restarts
the step timer is the model's reading (log 21). The last zone that comes to rest in HALTING brings the
node to HALTED. That a step is due is the sender's to say (log 2). -/
def Obligations.ZoneStepsThroughTheProfile : Prop :=
  ∀ (z : ZoneId) (s : State), s.inUse z = true →
    ((s.zone z).state = .rising → (s.zone z).risePending = false → ∃ t, exec (.zoneStep z) s = .next t ∧
      t.zone z = { s.zone z with
        state := if (s.zoneCfg z).riseEnd ≤ (s.zone z).position + 1 then .running else .rising
        position := (s.zone z).position + 1
        output := s.profileAt ((s.zone z).position + 1), stepTimer := 0 }) ∧
    ((s.zone z).state = .falling → (s.zone z).position < (s.zoneCfg z).fallEnd →
      ∃ t, exec (.zoneStep z) s = .next t ∧
        t.zone z = { s.zone z with
          position := (s.zone z).position + 1
          output := min (s.profileAt ((s.zone z).position + 1)) (s.zone z).output
          stepTimer := 0 } ∧
        changesOnly [.zones] s t) ∧
    ((s.zone z).state = .falling → (s.zoneCfg z).fallEnd ≤ (s.zone z).position →
      ∃ t, exec (.zoneStep z) s = .next t ∧
        t.zone z = { s.zone z with state := .idle, output := 0, stepTimer := 0 } ∧
        (∀ y, y ≠ z → t.zone y = s.zone y) ∧
        (s.stop.path = .halting → s.line.tx.length < 16 →
          (∀ y, y ≠ z → s.inUse y = true → (s.zone y).atRest = true) →
          t.stop.path = (if s.groupOpen = true then .clearing else .halted) ∧
          t.line.tx = s.line.tx ++
            [⟨.stopstate, s.cfg.segment, s.stop.epoch, stopstatePayload .halted⟩] ∧
          ∀ p, (t.pulse p).delay = none)) ∧
    ((s.zone z).state ∉ [ZoneState.rising, .falling] → exec (.zoneStep z) s = .next s)

/-! ### Inputs, supply, finisher -/

/-- A published input's pin starts its hold timer, or stops it on return; the hold's end takes the
level over and publishes it. The supply comparator starts and stops the monitor's hold timer, whose
end takes a recovered supply over. VSENSE is in microvolts (log 27); that a hold has run out, and that a
pin's change is read, are the sender's to say (log 2, log 55). -/
def Obligations.InputsAndSupplyAreHeld : Prop :=
  (∀ (i : InputId) (high : Bool) (s : State),
    (s.configured = false ∨ s.inputTag i = 0 ∨ s.pins.inp.get i.ix = high →
      exec (.inputPinChange i high) s =
        .next { s with pins := { s.pins with inp := s.pins.inp.set i.ix high } }) ∧
    (s.configured = true → s.inputTag i ≠ 0 → s.pins.inp.get i.ix ≠ high →
      exec (.inputPinChange i high) s = .next { s with
        pins := { s.pins with inp := s.pins.inp.set i.ix high }
        tags := { s.tags with inputs := (s.tags.inputs.set i.ix
          ⟨(s.input i).level, if high = (s.input i).level then none else some 0⟩) } })) ∧
  (∀ (i : InputId) (s : State), s.configured = true → s.inputTag i ≠ 0 →
    (s.input i).hold.isSome = true → s.pins.inp.get i.ix ≠ (s.input i).level →
    ∃ t, exec (.tagHoldExpiry i) s = .next t ∧ t.input i = ⟨s.pins.inp.get i.ix, none⟩ ∧
      (s.line.tx.length < 14 → t.line.tx = s.line.tx ++ [⟨.tagstate, s.cfg.segment, s.stop.epoch,
        tagstatePayload (s.inputTag i) (s.pins.inp.get i.ix)⟩] ∧
        changesOnly [.tags, .line] s t) ∧
      (s.line.tx.length = 14 → Clear s → StopBegun s .line 2 0 t)) ∧
  (∀ (v : Nat) (s : State), s.pins.resetn = true →
    exec (.vsenseChange v) s = .next { s with
      pins := { s.pins with vsense := v }
      supply := { s.supply with
        hold := if (s.supply.ok = true ↔ supplyReference s.cfg.supplySelect ≤ v) then none
          else some (s.supply.hold.getD 0) } }) ∧
  (∀ s : State, s.supply.ok = false → s.supply.hold.isSome = true →
    supplyReference s.cfg.supplySelect ≤ s.pins.vsense →
    ∃ t, exec .supplyHoldExpiry s = .next t ∧ t.supply = ⟨true, none⟩ ∧
      changesOnly [.supply, .notices] s t)

/-- A rising FDONE ends a staple with SETCLOSE for the stapled run, and a void with a PURGED report for
each compiled sheet, ahead of the reports of the classification that follows (the model's choice, log 61),
or, once a stop has ended its survey, with the sheets held; without FDONE in time, which is the sender's
to say (log 2), the staple's sheets stay held, and a void ends its survey with a residual. That the
reading of FDONE finds the rise is the sender's to say too (log 55), and that the operation timer then
stays at 3000 ms is the model's (log 56). FOP is high while an operation is in flight, and FSEL carries
the level of the last one begun. -/
def Obligations.FinishOperationsEnd : Prop :=
  ∀ s : State,
    (s.outputs.fop = true ↔ s.deliv.op ≠ .noOp) ∧ s.outputs.fsel = s.deliv.fsel ∧
    (∀ op, s.startOp op = { s with
      deliv := { s.deliv with op := op, opTimer := 0, fsel := decide (op = .void) } }) ∧
    (s.cfg.kind = some .finish → s.pins.fdone = false → s.deliv.op = .staple →
      s.deliv.announce.length < 12 → ∀ r rest, s.deliv.compile = r :: rest →
      ∃ t, exec (.fdone true) s = .next t ∧ t.pins = { s.pins with fdone := true } ∧
        t.deliv.compile = (r :: rest).drop s.deliv.stapleCount ∧
        t.deliv.announce = s.deliv.announce ++
          [.setclose r.stream r.set s.deliv.stapleCount] ∧
        (t.deliv.op = .noOp ∨ t.deliv.op = .staple) ∧
        (t.deliv.op = .staple → s.deliv.heldMark = false ∧
          ∃ x more, (r :: rest).drop s.deliv.stapleCount = x :: more ∧ x.first = true) ∧
        changesOnly [.pins, .deliv, .notices] s t) ∧
    (s.cfg.kind = some .finish → s.pins.fdone = false → s.deliv.op = .void →
      s.clear.phase = .voidWait →
      ∃ t, exec (.fdone true) s = .next t ∧ t.deliv.op = .noOp ∧ t.deliv.compile = [] ∧
        t.deliv.heldMark = false ∧
        (∃ more, t.clear.reports = s.clear.reports ++ s.deliv.compile.map (fun c =>
          ⟨c.sheet, .purged, c.side1, c.side2, c.media, 0⟩) ++ more) ∧
        (t.clear.phase = .reporting ∨ t.clear.residual = true)) ∧
    (s.cfg.kind = some .finish → s.pins.fdone = false → s.deliv.op = .void →
      s.clear.phase ≠ .voidWait →
      ∃ t, exec (.fdone true) s = .next t ∧
        t.deliv = { s.deliv with op := .noOp, stapleCount := 0, heldMark := true } ∧
        t.pins = { s.pins with fdone := true } ∧ changesOnly [.pins, .deliv] s t) ∧
    (s.cfg.kind ≠ some .finish ∨ s.pins.fdone = true ∨ s.deliv.op = .noOp → ∀ high,
      ∃ t, exec (.fdone high) s = .next t ∧ t = { s with pins := { s.pins with fdone := high } }) ∧
    (s.deliv.op = .staple ∨ (s.deliv.op = .void ∧ s.clear.phase ≠ .voidWait) →
      ∃ t, exec .operationTimeout s = .next t ∧
      t.deliv = { s.deliv with
        op := .noOp, opTimer := 3000, stapleCount := 0, heldMark := true } ∧
      changesOnly [.deliv] s t) ∧
    (s.deliv.op = .void → s.clear.phase = .voidWait →
      ∃ t, exec .operationTimeout s = .next t ∧
        t.deliv = { s.deliv with
          op := .noOp, opTimer := 3000, stapleCount := 0, heldMark := true } ∧
        t.clear = { s.clear with residual := true, phase := .noSurvey, opened := false } ∧
        changesOnly [.deliv, .clear, .notices] s t)

/-! ### Waiting lists -/

/-- With a place open to its class, the front of each waiting list is queued under the current epoch:
announcements, reports, READY with the node's entry into READY, PLAN frames, and the plan's GO. The
epoch and the wait of a withdrawn READY are the model's (log 16, log 17). -/
def Obligations.WaitingListsHandOver : Prop :=
  ∀ s : State, s.line.tx.length < 14 →
    (∀ a rest, s.deliv.announce = a :: rest → ∃ t, exec .announcementQueued s = .next t ∧
      t = { s with
        deliv := { s.deliv with announce := rest }
        line := { s.line with tx := s.line.tx ++ [match a with
          | .deliver v sheet stream page1 => ⟨.deliver, s.cfg.segment, s.stop.epoch,
              deliverPayload v sheet stream page1⟩
          | .setclose stream set count => ⟨.setclose, s.cfg.segment, s.stop.epoch,
              setclosePayload stream set count⟩] } }) ∧
    (∀ r rest, s.clear.phase = .reporting → s.clear.withdrawn = false →
      s.clear.reports = r :: rest → ∃ t, exec .reportQueued s = .next t ∧
        t.line = { s.line with tx := s.line.tx ++
          [⟨.report, s.cfg.segment, s.stop.epoch, reportPayload r⟩] } ∧
        t.clear.reports = rest ∧
        t.clear.phase = (if rest = [] ∧ s.clear.opened = true then .noSurvey else .reporting) ∧
        changesOnly [.clear, .line] s t) ∧
    (s.clear.phase = .reporting → s.clear.reports = [] → s.deliv.announce = [] →
      s.clear.opened = false → s.clear.withdrawn = false → s.stop.path = .clearing →
      ∃ t, exec .readyQueued s = .next t ∧ t.stop = { s.stop with path := .ready, own := none } ∧
        t.clear = { s.clear with phase := .noSurvey } ∧
        t.line = { s.line with tx := s.line.tx ++
          [⟨.ready, s.cfg.segment, s.stop.epoch, readyPayload false⟩] } ∧
        (s.cfg.kind ≠ some .feed → t.plan = s.plan ∧ t.feed = s.feed)) ∧
    (s.clear.withdrawn = true → ∃ t, exec .readyQueued s = .next t ∧
      t.clear = { s.clear with withdrawn := false } ∧ t.line = { s.line with tx := s.line.tx ++
        [⟨.ready, s.cfg.segment, s.stop.epoch, readyPayload true⟩] } ∧
      changesOnly [.clear, .line] s t) ∧
    (∀ c rest, s.plan.phase = .emitting → s.plan.list = c :: rest →
      ∃ t, exec .planFrameQueued s = .next t ∧ t = { s with
        plan := { s.plan with list := rest }
        line := { s.line with tx := s.line.tx ++
          [⟨.plan, s.cfg.segment, s.stop.epoch, planPayload c⟩] } }) ∧
    ((s.plan.phase = .emitting ∧ s.plan.list = []) ∨ (s.plan.phase = .sent ∧ s.plan.goAgain = true) →
      ∃ t, exec .planGoQueued s = .next t ∧
        t.plan = { s.plan with phase := .sent, goAgain := false } ∧
        t.line = { s.line with tx := s.line.tx ++ [⟨.go, s.cfg.segment, s.stop.epoch, []⟩] } ∧
        changesOnly [.plan, .line, .notices] s t)

/-! ### Frames taken -/

/-- A JAMCALL out of range is stale. One of the current stop adds its site to the list, and turns a node in
FLUSH to rest where a halt comes to lie ahead of an item; any other starts a stop under its epoch, in
which the node halts when it is a site or FEED, has a halt ahead of an item, has drained or comes from a
state other than RUN and FLUSH, and otherwise flushes what it can. A node that halts asks its zones to rest
and announces HALTING, or HALTED alone where they rest already; one that has drained announces FLUSHING
first. Which of them rest at once is by log 11. -/
def Obligations.JamcallTaken : Prop :=
  ∀ (s : State) (f : Frame) (rest : List Frame), Front s .jamcall f rest →
    ((∀ x, ¬ CarriesSite f x) → exec .jamcallTaken s = .next (s.tookStale rest)) ∧
    (∀ x, CarriesSite f x → f.epoch = s.stop.epoch → s.stop.path.stopped = true →
      s.line.tx.length < 16 → ∃ t, exec .jamcallTaken s = .next t ∧
        t.stop.epoch = s.stop.epoch ∧ t.stop.own = s.stop.own ∧ t.stop.stances = s.stop.stances ∧
        ((∃ y ∈ s.stop.sites, y.segment = f.origin) → t.stop.sites = s.stop.sites ∧
          t.stop.overflow = s.stop.overflow) ∧
        ((∀ y ∈ s.stop.sites, y.segment ≠ f.origin) → s.stop.sites.length < 4 →
          t.stop.sites = s.stop.sites ++ [x] ∧ t.stop.overflow = s.stop.overflow) ∧
        ((∀ y ∈ s.stop.sites, y.segment ≠ f.origin) → 4 ≤ s.stop.sites.length →
          t.stop.sites = s.stop.sites ∧ t.stop.overflow = true) ∧
        (s.stop.path ≠ .flush → t.stop.path = s.stop.path ∧ t.line = (s.took rest).line ∧
          changesOnly [.stop, .line] s t) ∧
        (s.stop.path = .flush →
          (HaltAhead s t.stop → t.stop.path ∈ [PathState.halting, .halted, .clearing] ∧
            EntersHalting s t ∧ t.line.tx = s.line.tx ++ [t.restNotice]) ∧
          (¬ HaltAhead s t.stop → t.stop.path = .flush))) ∧
    (∀ x, CarriesSite f x → ¬ (f.epoch = s.stop.epoch ∧ s.stop.path.stopped = true) →
      s.line.tx.length ≤ 14 → ∃ t, exec .jamcallTaken s = .next t ∧
        t.stop.epoch = f.epoch ∧ t.stop.sites = [x] ∧ t.stop.overflow = false ∧
        t.stop.stances = Vector.replicate 15 .unknown ∧ t.stop.own = s.stop.own ∧
        t.stop.counters = s.stop.counters ∧ t.plan = .reset ∧ t.clear.phase = .noSurvey ∧
        t.clear.residual = false ∧ t.clear.binds = [] ∧ t.tags.panelCycle = s.groupOpen ∧
        t.stop.path ∈ [PathState.flush, .halting, .halted, .clearing] ∧
        (s.stop.own ≠ none ∨ f.origin = s.cfg.segment ∨ s.cfg.kind = some .feed ∨
            (s.stop.path ≠ .run ∧ s.stop.path ≠ .flush) → t.stop.path ≠ .flush) ∧
        (HaltAhead s t.stop → t.stop.path ≠ .flush) ∧
        (t.stop.path ≠ .flush → EntersHalting s t) ∧
        (s.stop.own ≠ none ∨ f.origin = s.cfg.segment ∨ s.cfg.kind = some .feed ∨
            (s.stop.path ≠ .run ∧ s.stop.path ≠ .flush) ∨ HaltAhead s t.stop →
          t.line.tx = s.line.tx ++ [t.restNotice]) ∧
        (s.stop.own = none → f.origin ≠ s.cfg.segment → s.cfg.kind ≠ some .feed →
          s.stop.path = .run ∨ s.stop.path = .flush → ¬ HaltAhead s t.stop →
          t.stop.path ≠ .flush →
          t.line.tx = s.line.tx ++ [t.stanceNotice .flushing, t.restNotice]) ∧
        ((∀ e ∈ s.track.table, e.loc = .held) → (∀ a ∈ s.track.arrivals, a.unresolved = true) →
          s.track.orphan = none → t.stop.path ≠ .flush) ∧
        (s.stop.own = none → f.origin ≠ s.cfg.segment → s.cfg.kind ≠ some .feed →
          s.stop.path = .run ∨ s.stop.path = .flush →
          (∀ e ∈ s.track.table, e.loc ≠ .held → s.nextOf e ≠ f.origin) →
          (∀ a ∈ s.track.arrivals, s.nextByLeg a.record ≠ f.origin) →
          (∃ e ∈ s.track.table, e.loc ≠ .held) →
          t.stop.path = .flush ∧ t.line.tx = s.line.tx ++
            [⟨.stopstate, s.cfg.segment, f.epoch, stopstatePayload .flushing⟩]))

/-- A STOPSTATE of the current epoch sets its segment's entry in the stance table, and in a stop a
halting sender leaves its arrival entries unresolved; any other is stale. A node in FLUSH turns to rest
where a halt comes to lie ahead of an item, or where it has drained, its zones asked to rest and its stance
announced (rest at once by log 11), and flushes on otherwise. -/
def Obligations.StopstateTaken : Prop :=
  ∀ (s : State) (f : Frame) (rest : List Frame), Front s .stopstate f rest →
    (byteAt f.payload 0 ∉ [1, 2, 3] ∨ f.origin = 0 ∨ f.epoch ≠ s.stop.epoch →
      exec .stopstateTaken s = .next (s.tookStale rest)) ∧
    (∀ st : Stance, st ≠ .unknown → st.code = byteAt f.payload 0 → f.origin ≠ 0 →
      f.epoch = s.stop.epoch → ∃ t, exec .stopstateTaken s = .next t ∧
        (f.origin ≤ 15 → t.stop.stanceOfSegment f.origin = st) ∧
        (∀ seg, seg ≠ f.origin → t.stop.stanceOfSegment seg = s.stop.stanceOfSegment seg) ∧
        t.track.arrivals = (if s.stop.path.stopped = true ∧ (st = .halting ∨ st = .halted)
          then s.track.arrivals.map fun a =>
            if a.sender = f.origin then { a with unresolved := true } else a
          else s.track.arrivals) ∧
        t.track.table = s.track.table ∧
        (s.stop.path ≠ .flush → t.stop = s.stop.setStance f.origin st ∧
          t.line = (s.took rest).line ∧ changesOnly [.stop, .track, .line] s t) ∧
        (s.stop.path = .flush → t.stop.path ∈ [PathState.flush, .halting, .halted, .clearing] ∧
          (t.stop.path ≠ .flush → s.line.tx.length < 16 →
            EntersHalting s t ∧ t.line.tx = s.line.tx ++ [t.restNotice]) ∧
          ∀ u, u = s.stop.setStance f.origin st →
          (HaltAhead s u → t.stop.path ≠ .flush) ∧
          ((∀ e ∈ s.track.table, e.loc = .held) → (∀ a ∈ t.track.arrivals, a.unresolved = true) →
            s.track.orphan = none → t.stop.path ≠ .flush) ∧
          (¬ HaltAhead s u → (∃ e ∈ s.track.table, e.loc ≠ .held) ∨
              (∃ a ∈ t.track.arrivals, a.unresolved = false) ∨ s.track.orphan ≠ none →
            t.stop = u ∧ t.line = (s.took rest).line)))

/-- A TAGSTATE that names a tag sets every slot that listens to it; a stop aggregate that it asserts in
RUN brakes the zones and begins a stop with the lowest slot (log 23); a panel group that it opens takes HALTED
to CLEARING and withdraws a READY (in the order of log 23). Each panel slot that it opens in RUN is one
INTERLOCK more, lowest slot first (log 23), which joins the stop of the first (log 40). Tag 0 from another
node asks for the published levels, and so it does, by the model's choice, from origin 0 (log 43). A tag or
a value out of range is stale. The group, the aggregate and the pins OUT1, OUT2 and STOPn follow the slots
in use. -/
def Obligations.TagstateTaken : Prop :=
  (∀ s : State, s.configured = true →
    (s.groupOpen = true ↔ ∃ n : Fin 8, (s.cfg.slots.get n).tag ≠ 0 ∧
      (s.cfg.slots.get n).panel = true ∧ s.tags.slots.get n ≠ .asserted) ∧
    (s.aggregate = true ↔ ∃ n : Fin 8, (s.cfg.slots.get n).tag ≠ 0 ∧
      (s.cfg.slots.get n).stop = true ∧ s.tags.slots.get n ≠ .clear) ∧
    (s.outputs.stopn = true ↔ (s.aggregate = true ↔ s.cfg.stopInvert = true)) ∧
    (s.outputs.out1 = true ↔ ∃ n : Fin 8, (s.cfg.slots.get n).tag ≠ 0 ∧
      (s.cfg.slots.get n).forward = .out1 ∧ s.tags.slots.get n = .asserted) ∧
    (s.outputs.out2 = true ↔ ∃ n : Fin 8, (s.cfg.slots.get n).tag ≠ 0 ∧
      (s.cfg.slots.get n).forward = .out2 ∧ s.tags.slots.get n = .asserted)) ∧
  ∀ (s : State) (f : Frame) (rest : List Frame), Front s .tagstate f rest →
    (63 < byteAt f.payload 0 ∨ 1 < byteAt f.payload 1 →
      exec .tagstateTaken s = .next (s.tookStale rest)) ∧
    (byteAt f.payload 0 = 0 → byteAt f.payload 1 ≤ 1 →
      (f.origin = s.cfg.segment → exec .tagstateTaken s = .next (s.took rest)) ∧
      (f.origin ≠ s.cfg.segment → s.line.tx.length ≤ 10 → exec .tagstateTaken s = .next { s with
        line := { s.line with
          rx := rest
          tx := s.line.tx ++ (InputId.all.filter fun i => s.inputTag i ≠ 0).map fun i =>
            ⟨.tagstate, s.cfg.segment, s.stop.epoch,
              tagstatePayload (s.inputTag i) (s.input i).level⟩ } })) ∧
    (∀ tag (asserted : Bool), byteAt f.payload 0 = tag → byteAt f.payload 1 = asserted.toNat →
      1 ≤ tag → tag ≤ 63 → ∃ t, exec .tagstateTaken s = .next t ∧
        (∀ n : Fin 8, t.tags.slots.get n =
          if (s.cfg.slots.get n).tag = tag then
            (if asserted = (s.cfg.slots.get n).invert then .clear else .asserted)
          else s.tags.slots.get n) ∧
        (t.tags.slots = s.tags.slots → t = s.took rest) ∧
        t.line.rx = rest ∧
        (∀ n : Fin 8, Clear s → s.aggregate = false → (s.cfg.slots.get n).tag = tag →
          (s.cfg.slots.get n).stop = true → asserted ≠ (s.cfg.slots.get n).invert →
          (∀ m : Fin 8, m < n → ¬ ((s.cfg.slots.get m).tag = tag ∧
            (s.cfg.slots.get m).stop = true ∧ asserted ≠ (s.cfg.slots.get m).invert)) →
          t.stop.own = some ⟨.interlock, n.val + 1, 0, false⟩ ∧
          t.stop.sites = [⟨s.cfg.segment, .interlock, n.val + 1, 0⟩] ∧
          t.stop.epoch = nextEpoch s.stop.epoch ∧
          (t.stop.path = .halted ∨ t.stop.path = .clearing) ∧
          (∀ z, s.inUse z = true → (t.zone z).state = .braked ∧ (t.zone z).output = 0)) ∧
        (∀ (opened : List (Fin 8)) (first : Nat), Clear s → opened ≠ [] →
          opened = (List.finRange 8).filter (fun n => (s.cfg.slots.get n).tag = tag ∧
            (s.cfg.slots.get n).panel = true ∧ s.tags.slots.get n = .asserted ∧
            asserted = (s.cfg.slots.get n).invert) →
          first = (if s.aggregate = false ∧ t.aggregate = true then 1 else 0) →
          t.stop.path = .clearing ∧ t.stop.epoch = nextEpoch s.stop.epoch ∧
          (∀ z, s.inUse z = true → (t.zone z).state = .braked ∧ (t.zone z).output = 0) ∧
          t.causeCount .interlock = min 255 (s.causeCount .interlock + first + opened.length) ∧
          (first = 0 → ∀ n more, opened = n :: more →
            t.stop.own = some ⟨.interlock, n.val + 1, 0, false⟩ ∧
            t.stop.sites = [⟨s.cfg.segment, .interlock, n.val + 1, 0⟩]) ∧
          (s.line.tx.length + first + opened.length ≤ 15 → ∀ n ∈ opened,
            ⟨.jamcall, s.cfg.segment, nextEpoch s.stop.epoch,
              jamcallPayload ⟨s.cfg.segment, .interlock, n.val + 1, 0⟩⟩ ∈ t.line.tx)) ∧
        (s.groupOpen = false → t.groupOpen = true → t.tags.panelCycle = true ∧
          (s.stop.path = .halted → t.stop.path = .clearing) ∧
          (s.stop.path = .ready → s.line.tx.length < 14 → t.stop.path = .clearing ∧
            t.line.tx = s.line.tx ++
              [⟨.ready, s.cfg.segment, s.stop.epoch, readyPayload true⟩]) ∧
          (s.stop.path = .clearing → t.stop.path = .clearing ∧ t.clear.residual = false ∧
            (s.clear.phase = .reporting → s.clear.reports = [] → t.clear.phase = .noSurvey) ∧
            (s.clear.phase = .voidWait → t.clear.phase = .noSurvey ∧ t.clear.reports = []))))

/-- A PASS to this node from an upstream segment adopts a held orphan that is within its hold distance,
its released blank side imaged where S1 is the image station (log 32), with its claim where S1 is the
gate-set station, ends one beyond it with STRAY, and replaces or appends the sheet's arrival entry, the
older of two replaced (the model's choice, log 59), and in IDLE asks for the rise of the zones (a
takeover's step timer by log 21); to another node, from elsewhere or of a tracked sheet it is discarded,
from elsewhere uncounted though out of range (the model's choice, log 54); out of range it is stale; with
no place it is QUEUE. -/
def Obligations.PassTaken : Prop :=
  ∀ (s : State) (f : Frame) (rest : List Frame), Front s .pass f rest →
    (field f.payload 0 7 4 ≠ s.cfg.segment ∨ f.origin = 0 ∨
        (f.origin ≠ s.cfg.upstream.a.segment ∧ f.origin ≠ s.cfg.upstream.b.segment) ∨
        byteAt f.payload 1 = 0 → exec .passTaken s = .next (s.took rest)) ∧
    (field f.payload 0 7 4 = s.cfg.segment → f.origin ≠ 0 →
      f.origin = s.cfg.upstream.a.segment ∨ f.origin = s.cfg.upstream.b.segment →
      byteAt f.payload 1 ≠ 0 →
      (passRecord f.payload = none → exec .passTaken s = .next (s.tookStale rest)) ∧
      (∀ r, passRecord f.payload = some r →
        (r.dest = 0 ∨ r.nominal < 1000 ∨ 4800 < r.nominal ∨ r.side2.isSome ≠ r.page2.isSome →
          exec .passTaken s = .next (s.tookStale rest)) ∧
        (r.dest ≠ 0 → 1000 ≤ r.nominal → r.nominal ≤ 4800 → r.side2.isSome = r.page2.isSome →
          ((∃ e ∈ s.track.table, e.record.sheet = r.sheet) →
            exec .passTaken s = .next (s.took rest)) ∧
          ((∀ e ∈ s.track.table, e.record.sheet ≠ r.sheet) →
            (∀ h, s.track.orphan = some h → s.cfg.orphanHold < h →
              ∃ t, exec .passTaken s = .next t ∧ t.track.orphan = none ∧
                t.track.table = s.track.table ∧
                (s.track.arrivals.length < 4 → (∀ b ∈ s.track.arrivals, b.record.sheet ≠ r.sheet) →
                  t.track.arrivals.map (fun b => (b.record, b.sender)) =
                    s.track.arrivals.map (fun b => (b.record, b.sender)) ++ [(r, f.origin)]) ∧
                (Clear s → StopBegun s .stray 1 0 t)) ∧
            (∀ h, s.track.orphan = some h → h ≤ s.cfg.orphanHold → s.track.table.length < 8 →
              ∃ t e, exec .passTaken s = .next t ∧ t.track.table = s.track.table ++ [e] ∧
                t.track.orphan = none ∧ t.track.arrivals = s.track.arrivals ∧
                e.record = s.imaged .s1 r ∧
                e.loc = .transit ∧ e.lead = 1 ∧ e.trail = 0 ∧ e.leadTracker = h ∧
                e.source = f.origin ∧
                e.passTracker = (if s.lastStation = 1 then some h else none) ∧
                (s.hasGate = false ∨ s.cfg.gateSet ≠ .s1 → e.claimed = 0 ∧ t.gate = s.gate) ∧
                (∀ p, s.hasGate = true → s.cfg.gateSet = .s1 → s.routeFor r.leg = some p →
                  (s.gate.claims.length < 2 → e.claimed = p.next ∧ ClaimMade s t r.sheet p.gate) ∧
                  (2 ≤ s.gate.claims.length → e.claimed = 0 ∧ t.gate = s.gate ∧
                    (Clear s → StopBegun s .gate s.cfg.gateStation.num r.sheet t)))) ∧
            (∀ h, s.track.orphan = some h → h ≤ s.cfg.orphanHold → 8 ≤ s.track.table.length →
              Clear s →
              ∃ t, exec .passTaken s = .next t ∧ t.track.orphan = none ∧
                t.stop.epoch = nextEpoch s.stop.epoch ∧
                t.stop.own = some ⟨.queue, 1, r.sheet, false⟩) ∧
            (s.track.orphan = none → ∀ new, new = { record := r, sender := f.origin, link := 0
                                                    linkDistance := s.linkOf f.origin
                                                    unresolved := s.stop.path.stopped &&
                                                      (s.stop.stanceOfSegment f.origin).isHalting } →
              (∀ front a back, FirstIn (fun b : Arrival => b.record.sheet = r.sheet)
                  s.track.arrivals front a back → ∃ t, exec .passTaken s = .next t ∧
                t.track.arrivals = front ++ new :: back ∧ t.track.table = s.track.table) ∧
              ((∀ b ∈ s.track.arrivals, b.record.sheet ≠ r.sheet) →
                (s.track.arrivals.length < 4 → ∃ t, exec .passTaken s = .next t ∧
                  t.track.arrivals = s.track.arrivals ++ [new] ∧ t.track.table = s.track.table ∧
                  (s.stop.path = .idle → t.track.idlePass = true ∧ t.stop = s.stop ∧
                    (s.braking = false → s.chain.state ≠ .failed → RisesAsked s t ∧
                      ∀ z, s.inUse z = true → (s.zone z).state = .falling →
                        (s.zone z).risePending = false → TakenOver s z (t.zone z)) ∧
                    (s.braking = true ∨ s.chain.state = .failed →
                      t.zones = s.zones ∧ t.chain = s.chain))) ∧
                (4 ≤ s.track.arrivals.length → Clear s → ∃ t, exec .passTaken s = .next t ∧
                  StopBegun s .queue 2 r.sheet t ∧ t.track.arrivals = s.track.arrivals)))))))

/-- DELIVER at the FEED node acts on the issued entry it matches: FINAL ends it, COMPILED marks it,
and PURGE returns its page for another try or, after the last, drops it and faults the stream. With no
match, or at another kind, it is discarded; with no variant it is stale at the FEED node, where
DELIVER_FINAL takes it (the model's choice, log 13). -/
def Obligations.DeliverTaken : Prop :=
  ∀ (s : State) (f : Frame) (rest : List Frame), Front s .deliver f rest →
    ∀ (v : Nat) (c : Instr), v = field f.payload 1 7 4 →
      c = (if v = 2 then .deliverCompiled else if v = 3 then .deliverPurge else .deliverFinal) →
      (s.cfg.kind ≠ some .feed → exec c s = .next (s.took rest)) ∧
      (s.cfg.kind = some .feed → v ∉ [1, 2, 3] → exec c s = .next (s.tookStale rest)) ∧
      (s.cfg.kind = some .feed → v ∈ [1, 2, 3] →
        ((∀ i ∈ s.feed.issued, i.matchesDeliver f = false) → exec c s = .next (s.took rest)) ∧
        (∀ front i back, FirstIn (fun i : Issued => i.matchesDeliver f = true) s.feed.issued
            front i back → ∃ t, exec c s = .next t ∧ t.line = (s.took rest).line ∧
          (v = 1 → t.feed = { s.feed with issued := front ++ back }) ∧
          (v = 2 → t.feed = { s.feed with issued := front ++ { i with compiled := true } :: back }) ∧
          (v = 3 → i.page.retry ≠ 3 → s.feed.resume.length < 32 → t.feed = { s.feed with
            issued := front ++ back
            resume := s.feed.resume ++ [{ i.page with retry := i.page.retry + 1 }] }) ∧
          (v = 3 → i.page.retry = 3 ∨ 32 ≤ s.feed.resume.length →
            t.feed.issued = front ++ back ∧ t.feed.resume = s.feed.resume ∧
            t.feed.pages = s.feed.pages ∧
            t.feed.faults.get i.page.stream = (if (s.feed.faults.get i.page.stream).faulted
              then s.feed.faults.get i.page.stream else ⟨true, i.page.page1⟩)))) ∧
      (∀ j : Issued, j.matchesDeliver f = true ↔ flagAt f.payload 1 0 = true ∧
        j.sheet = byteAt f.payload 0 ∧ j.page.stream = two (field f.payload 1 3 2) ∧
        j.page.page1 = wordAt f.payload 2)

/-- SETCLOSE at the FEED node takes every issued entry of its stream and set off the list, IN-FLIGHT
and COMPILED alike, and keeps the last-close record; a count of 0 or above 16 is stale. -/
def Obligations.SetcloseTaken : Prop :=
  ∀ (s : State) (f : Frame) (rest : List Frame), Front s .setclose f rest →
    ∀ (stream : Fin 4) (set count : Nat), stream.val = field f.payload 0 7 6 →
      set = 256 * field f.payload 0 3 0 + byteAt f.payload 1 → count = byteAt f.payload 2 →
      (s.cfg.kind ≠ some .feed → exec .setcloseTaken s = .next (s.took rest)) ∧
      (s.cfg.kind = some .feed → count = 0 ∨ 16 < count →
        exec .setcloseTaken s = .next (s.tookStale rest)) ∧
      (s.cfg.kind = some .feed → 1 ≤ count → count ≤ 16 →
        ∃ t, exec .setcloseTaken s = .next t ∧ t.line = (s.took rest).line ∧
          t.feed = { s.feed with
            issued := s.feed.issued.filter fun i => ¬ (i.page.stream = stream ∧ i.page.set = set)
            lastClose := some ⟨stream, set, count, (s.feed.issued.filter fun i =>
              i.page.stream = stream ∧ i.page.set = set).length⟩ } ∧
          ((∀ i ∈ s.feed.issued, ¬ (i.page.stream = stream ∧ i.page.set = set)) →
            changesOnly [.feed, .line, .notices] s t))

/-- A REPORT of the current epoch from the roster is merged while a plan is gathered in a halt, the
stronger disposition governing, and acts on the blank candidates; with a plan sent or being sent it
only sets the late-report mark; every other is discarded without counting. -/
def Obligations.ReportTaken : Prop :=
  [Disposition.removed, .purged, .unseen, .heldPurge, .heldContinue, .heldBlank].map
      Disposition.rank = [0, 1, 2, 3, 4, 5] ∧
  ∀ (s : State) (f : Frame) (rest : List Frame), Front s .report f rest →
    (s.cfg.kind ≠ some .feed ∨ f.epoch ≠ s.stop.epoch ∨ f.origin ∉ s.cfg.roster ∨
        byteAt f.payload 0 = 0 ∨ field f.payload 1 7 4 ∉ [1, 2, 3, 4, 5, 6] ∨
        field f.payload 2 3 2 = 3 ∨ s.stop.path ∈ [PathState.run, .idle, .flush] →
      exec .reportTaken s = .next (s.took rest)) ∧
    (s.cfg.kind = some .feed → f.epoch = s.stop.epoch → f.origin ∈ s.cfg.roster →
      s.stop.path ∈ [PathState.halting, .halted, .clearing, .ready] →
      ∀ r, reportOf f.payload = some r →
      (s.plan.phase ≠ .gathering → exec .reportTaken s =
        .next { s.took rest with plan := { s.plan with late := true } }) ∧
      (s.plan.phase = .gathering → ∀ (m : MapEntry) (blank : Bool), m = s.plan.entry r.sheet →
        blank = decide (r.side1 = .blank ∧ (r.side2 = some .blank ∨ r.side2 = none)) →
        ∃ t, exec .reportTaken s = .next t ∧ t.line = (s.took rest).line ∧
          changesOnly [.plan, .line] s t ∧
          (m.disposition = none ∨
              (∃ x, m.disposition = some x ∧ r.disposition.rank < x.rank) →
            t.plan.entry r.sheet = { disposition := some r.disposition, blankSides := blank
                                     continues := m.continues || r.disposition == .heldContinue
                                     media := r.media }) ∧
          (m.disposition = some r.disposition → t.plan.entry r.sheet = { m with
            blankSides := m.blankSides && blank
            continues := m.continues || r.disposition == .heldContinue }) ∧
          ((∃ x, m.disposition = some x ∧ x.rank < r.disposition.rank) →
            t.plan.entry r.sheet = { m with
              continues := m.continues || r.disposition == .heldContinue }) ∧
          (∀ sheet, 1 ≤ sheet → sheet ≠ r.sheet → t.plan.entry sheet = s.plan.entry sheet) ∧
          ((t.plan.entry r.sheet).disposition ≠ some .heldBlank →
            t.plan.candidates = s.plan.candidates.filter fun c => c.sheet ≠ r.sheet) ∧
          ((t.plan.entry r.sheet).disposition = some .heldBlank →
            ((∀ c ∈ s.plan.candidates, c.sheet ≠ r.sheet) → s.plan.candidates.length < 24 →
              t.plan.candidates = s.plan.candidates ++ [⟨r.sheet, f.origin, r.position, r.media⟩]) ∧
            ((∀ c ∈ s.plan.candidates, c.sheet ≠ r.sheet) → 24 ≤ s.plan.candidates.length →
              t.plan.candidates = s.plan.candidates ∧ t.plan.overflow = true) ∧
            ((∃ c ∈ s.plan.candidates, c.sheet = r.sheet) → t.plan.candidates =
              s.plan.candidates.map fun c =>
                if c.sheet = r.sheet ∧ s.cfg.preImage.idxOf f.origin < s.cfg.preImage.idxOf c.segment
                then { c with segment := f.origin, position := r.position } else c))))

/-- A READY of the current epoch from the roster joins or leaves the readiness set; the join that makes
the set hold the whole roster in READY builds the plan. -/
def Obligations.ReadyTaken : Prop :=
  ∀ (s : State) (f : Frame) (rest : List Frame), Front s .ready f rest →
    (s.cfg.kind ≠ some .feed ∨ f.epoch ≠ s.stop.epoch ∨ f.origin ∉ s.cfg.roster →
      exec .readyTaken s = .next (s.took rest)) ∧
    (s.cfg.kind = some .feed → f.epoch = s.stop.epoch → f.origin ∈ s.cfg.roster →
      ∃ t, exec .readyTaken s = .next t ∧ t.line = (s.took rest).line ∧
        changesOnly [.feed, .plan, .line, .notices] s t ∧
        (flagAt f.payload 0 0 = true → t.feed = s.feed ∧ t.plan = { s.plan with
          readySet := s.plan.readySet.filter fun g => g ≠ f.origin }) ∧
        (flagAt f.payload 0 0 = false →
          (∀ g, g ∈ t.plan.readySet ↔ g ∈ s.plan.readySet ∨ g = f.origin) ∧
          (t.plan.late = true ↔ s.plan.late = true ∨
            (f.origin ∉ s.plan.readySet ∧ s.plan.phase ≠ .gathering)) ∧
          ((s.stop.path = .ready ∧ s.plan.phase = .gathering ∧
              ∀ g ∈ s.cfg.roster, g ∈ s.plan.readySet ∨ g = f.origin) →
            t.plan.phase = .emitting ∧
            t.feed = (buildPlan s.cfg.preImage s.plan s.feed).1 ∧
            t.plan.list = (buildPlan s.cfg.preImage s.plan s.feed).2) ∧
          (¬ (s.stop.path = .ready ∧ s.plan.phase = .gathering ∧
              ∀ g ∈ s.cfg.roster, g ∈ s.plan.readySet ∨ g = f.origin) →
            t.plan.phase = s.plan.phase ∧ t.feed = s.feed ∧ t.plan.list = s.plan.list)))

/-- A plan loses no page: each page of the issued list stays issued, comes back to the resume queue, or
is dropped with its stream faulted. Every sheet left in the issued list continues or is bound to a
blank sheet, every blank candidate in the pre-image order gets its PURGE or BIND, and the page queue is
not read. A sheet continues where none of its stream ahead of it does other, and joins the reprint set
behind one that does; a returned page has its retry by R157, and one whose retry would come to 4 faults
its stream; the returned pages stand in issue order in front of the resume queue, which drops what is
beyond 32 from its back. Of a stream so faulted every returned page is dropped. Candidates are answered in
path order, each with the front bindable page or with PURGE, and the list is the reprint set's PURGEs and
then these answers. A fault record that was clear takes the first page dropped: in issue order by R157, and
from the front by R160 (the model's choice, log 58; log 46 for candidates of one position). -/
def Obligations.PlanLosesNoPage : Prop :=
  ∀ (order : List Nat) (u : PlanUnit) (f g : FeedUnit) (cmds : List PlanCmd),
    buildPlan order u f = (g, cmds) →
    (∀ i ∈ f.issued, g.faulted i.page.stream = true ∨
      (∃ j ∈ g.issued, j.page.stream = i.page.stream ∧ j.page.page1 = i.page.page1) ∨
      (∃ d ∈ g.resume, d.stream = i.page.stream ∧ d.page1 = i.page.page1)) ∧
    (∀ j ∈ g.issued,
      (j ∈ f.issued ∧ (u.entry j.sheet).disposition = some .heldContinue) ∨
      (j.compiled = false ∧ PlanCmd.bind j.sheet j.page ∈ cmds ∧
        ∃ c ∈ u.candidates, c.sheet = j.sheet ∧ c.media = j.page.media)) ∧
    (∀ c ∈ u.candidates, c.position < 8 →
      PlanCmd.purge c.sheet ∈ cmds ∨ ∃ d, PlanCmd.bind c.sheet d ∈ cmds) ∧
    (∀ i ∈ f.issued, (u.entry i.sheet).continues = true →
      (u.entry i.sheet).disposition ≠ some .heldContinue →
      (u.entry i.sheet).disposition ≠ some .heldBlank → PlanCmd.purge i.sheet ∈ cmds) ∧
    (∀ before i after, f.issued = before ++ i :: after →
      ((u.entry i.sheet).disposition = some .heldContinue → ¬ Reprints u before i →
        i ∈ g.issued) ∧
      (Reprints u before i → (u.entry i.sheet).continues = true → PlanCmd.purge i.sheet ∈ cmds) ∧
      (Reprints u before i → retried u i ≠ i.page → i.page.retry = 3 →
        g.faulted i.page.stream = true)) ∧
    (∀ j ∈ g.issued, j ∉ f.issued →
      ∃ i ∈ f.issued, j.page = retried u i ∧ (retried u i = i.page ∨ i.page.retry ≠ 3)) ∧
    (∃ left, g.resume = (left ++ f.resume).take 32 ∧
      (left.map fun d => (d.stream, d.page1)).Sublist
        (f.issued.map fun i => (i.page.stream, i.page.page1)) ∧
      (∀ d ∈ left, ∃ i ∈ f.issued, d = retried u i ∧ (retried u i = i.page ∨ i.page.retry ≠ 3)) ∧
      ∀ d ∈ (left ++ f.resume).drop 32, g.faulted d.stream = true) ∧
    ((∀ c ∈ u.candidates, c.position < 8) → ∃ kept purges q path answers left,
      PlanSorts u (FaultedByPlan u f.issued) [] f.issued kept purges q ∧
      PathOrder order u.candidates path ∧
      PlanBinds order (fun d => f.faulted d.stream = false ∧ ¬ FaultedByPlan u f.issued d.stream)
        q path answers left ∧
      cmds = purges ++ answers ∧ g.issued = kept ++ answers.filterMap boundEntry ∧
      g.resume = (left ++ f.resume).take 32 ∧
      ∀ stream,
        (f.faulted stream = true → g.faults.get stream = f.faults.get stream) ∧
        (f.faulted stream = false → ¬ FaultedByPlan u f.issued stream →
          (∀ d ∈ (left ++ f.resume).drop 32, d.stream ≠ stream) →
          g.faults.get stream = f.faults.get stream) ∧
        (f.faulted stream = false → ¬ FaultedByPlan u f.issued stream → ∀ front d back,
          FirstIn (fun d : PageDesc => d.stream = stream) ((left ++ f.resume).drop 32) front d back →
          g.faults.get stream = { faulted := true, first := d.page1 })) ∧
    (∀ stream front i back, f.faulted stream = false → FaultedByPlan u f.issued stream →
      FirstIn (fun i : Issued => i.page.stream = stream ∧
        (u.entry i.sheet).disposition ≠ some .heldContinue) f.issued front i back →
      g.faults.get stream = { faulted := true, first := i.page.page1 }) ∧
    g.resume.length ≤ 32 ∧ g.pages = f.pages ∧ g.lastSheet = f.lastSheet

/-- PLAN by epoch and path state, as R126 says; in READY a PURGE marks every record of its sheet and
takes it off the bind list, held here or not (the model's choice, log 42), and a BIND rebinds a blank sheet
to its page. That a malformed PLAN is stale in every state, and which row takes it, are the model's
(log 13, log 14). -/
def Obligations.PlanTaken : Prop :=
  (∀ r : SheetRecord, r.purge = true → r.leg = .purge) ∧
  ∀ (s : State) (f : Frame) (rest : List Frame), Front s .plan f rest →
    ∀ c, c = (if byteAt f.payload 0 = 2 then Instr.planBind else .planPurge) →
      (¬ planOk f → exec c s = .next (s.tookStale rest)) ∧
      (planOk f → s.stop.path = .idle → exec c s = .next (s.took rest)) ∧
      (planOk f → s.stop.path ≠ .idle → f.epoch ≠ s.stop.epoch →
        exec c s = .next (s.tookStale rest)) ∧
      (planOk f → f.epoch = s.stop.epoch → s.stop.path ≠ .ready →
        exec c s = .next (s.took rest)) ∧
      (planOk f → f.epoch = s.stop.epoch → s.stop.path = .ready → ∀ sheet,
        sheet = byteAt f.payload 1 →
        (byteAt f.payload 0 = 1 → exec c s = .next { s.took rest with
          track := { s.track with
            table := s.track.table.map fun e => { e with record := { e.record with
              purge := e.record.purge || e.record.sheet == sheet } }
            arrivals := s.track.arrivals.map fun a => { a with record := { a.record with
              purge := a.record.purge || a.record.sheet == sheet } } }
          clear := { s.clear with binds := s.clear.binds.filter fun b => b ≠ sheet } }) ∧
        (byteAt f.payload 0 = 2 → (∀ e ∈ s.track.table, e.record.sheet = sheet →
            e.disposition ≠ some .heldBlank ∨ e.record.side1 ≠ .blank ∨
            (e.record.side2 ≠ some .blank ∧ e.record.side2 ≠ none)) →
          exec c s = .next (s.took rest)) ∧
        (byteAt f.payload 0 = 2 → sheetsUnique s → ∀ front e back d,
          FirstIn (fun e : Entry => e.record.sheet = sheet) s.track.table front e back →
          e.disposition = some .heldBlank → e.record.side1 = .blank →
          e.record.side2 = some .blank ∨ e.record.side2 = none → d = planPage f.payload →
          exec c s = .next { s.took rest with
            track := { s.track with table := front ++ { e with record := { e.record with
              stream := d.stream, page1 := some d.page1, page2 := d.page2, set := d.set,
              first := d.first, last := d.last, dest := d.dest, retry := d.retry,
              side2 := d.page2.map fun _ => .blank, current := .one, released := false,
              purge := false } } :: back }
            clear := { s.clear with
              binds := if sheet ∈ s.clear.binds then s.clear.binds
                else s.clear.binds ++ [sheet] } }))

/-- GO of the current epoch in READY returns the held entries with their purge defaults and repeated PASS,
and with nothing that raises a cause brings the node to RUN, with the rise of each zone at rest begun or
waiting for DRDY by the chain's state and a fall taken over; GO in IDLE does so under its own epoch. A
test that fails on entry to RUN begins a stop, the rises asked for first: with its own cause where it is
alone, and where several fail with that of one of them, which of them being the model's choice (log 15).
Where a fall is taken over with no rise entry at or above its output, the step timer is the model's (log
21). A low supply starts a stop instead, with the pace tracker set all the same, as does GO in HALTED and
CLEARING; elsewhere GO is ignored or stale. -/
def Obligations.GoTaken : Prop :=
  ∀ (s : State) (f : Frame) (rest : List Frame), Front s .go f rest →
    (s.stop.path ≠ .idle → f.epoch ≠ s.stop.epoch ∨ s.stop.path ∈ [PathState.flush, .halting] →
      exec .goTaken s = .next (s.tookStale rest)) ∧
    (s.stop.path = .run → f.epoch = s.stop.epoch → exec .goTaken s = .next (s.took rest)) ∧
    (∀ u g more, Front u .rest g more → u.stop.path ∈ [PathState.clearing, .ready] →
      exec .restTaken u = .next (u.took more)) ∧
    (s.stop.path ∈ [PathState.halted, .clearing] → f.epoch = s.stop.epoch →
      s.line.tx.length ≤ 14 → ∃ t, exec .goTaken s = .next t ∧
        t.stop.epoch = nextEpoch s.stop.epoch ∧ t.stop.sites = [s.siteOf .notready 0 0] ∧
        (t.stop.path = .halting ∨ t.stop.path = .halted ∨ t.stop.path = .clearing) ∧
        (s.stop.own = none → StopBegun s .notready 0 0 t) ∧
        (s.stop.own ≠ none → t.stop.own = s.stop.own) ∧ t.plan = .reset) ∧
    (s.supply.ok = false → s.stop.path = .idle ∨ (s.stop.path = .ready ∧ f.epoch = s.stop.epoch) →
      s.stop.own = none → s.line.tx.length ≤ 14 → ∃ t, exec .goTaken s = .next t ∧
        StopBegun { s with stop := { s.stop with epoch := f.epoch } } .supply 0 0 t ∧
        t.feed.pace = if s.cfg.kind = some .feed then 65535 else s.feed.pace) ∧
    (s.supply.ok = true → s.stop.path = .idle ∨ (s.stop.path = .ready ∧ f.epoch = s.stop.epoch) →
      s.line.tx.length ≤ 14 → ∀ c place sheet, EntryTest s c place sheet →
      ∃ t u, exec .goTaken s = .next t ∧ changesOnly [.zones, .chain] s u ∧
        (s.braking = false → s.chain.state ≠ .failed → RisesAsked s u ∧
          ∀ z, s.inUse z = true → (s.zone z).state = .falling → (s.zone z).risePending = false →
            TakenOver s z (u.zone z)) ∧
        (s.braking = true ∨ s.chain.state = .failed → u = s) ∧
        ((∀ c' place' sheet', EntryTest s c' place' sheet' →
            c' = c ∧ place' = place ∧ sheet' = sheet) →
          StopBegun { u with stop := { s.stop with epoch := f.epoch } } c place sheet t) ∧
        ∃ c' place' sheet', EntryTest s c' place' sheet' ∧
          t.stop.epoch = nextEpoch f.epoch ∧ t.stop.sites = [s.siteOf c' place' sheet'] ∧
          t.stop.own = some ⟨c', place', sheet', c'.needsCycle⟩ ∧
          t.stop.path ∈ [PathState.halting, .halted, .clearing]) ∧
    (s.supply.ok = true → s.stop.path = .idle ∨ (s.stop.path = .ready ∧ f.epoch = s.stop.epoch) →
      RunsClean s → ∃ t, exec .goTaken s = .next t ∧
        t.stop = { s.stop with
          path := .run, epoch := f.epoch, sites := [], overflow := false, own := none } ∧
        t.clear = { s.clear with binds := [] } ∧
        (∀ k, t.station k = { s.station k with gapTracker := 65535 }) ∧
        t.track.arrivals = s.track.arrivals.map (fun a =>
          if a.unresolved then { a with unresolved := false, link := 0 } else a) ∧
        t.track.orphan = s.track.orphan ∧
        (s.chain.state ≠ .failed → RisesAsked s t ∧
          ∀ z, s.inUse z = true → (s.zone z).state = .falling → (s.zone z).risePending = false →
            TakenOver s z (t.zone z)) ∧
        (s.chain.state = .failed → t.zones = s.zones ∧ t.chain = s.chain) ∧
        (s.cfg.kind = some .feed → t.feed = { s.feed with pace := 65535, startMark := t.feed.startMark } ∧
          t.plan.phase = .gathering ∧ t.plan.candidates = [] ∧ t.plan.readySet = [] ∧
          t.plan.list = s.plan.list ∧ t.plan.late = s.plan.late) ∧
        (s.stop.path = .idle → t.track.table = s.track.table) ∧
        (s.stop.path = .ready → t.track.table.length = s.track.table.length ∧
          ∀ (i : Nat) (e : Entry), s.track.table[i]? = some e → ∃ g, t.track.table[i]? = some g ∧
            (e.loc ≠ .held → g = e) ∧
            (e.loc = .held → g = { e with
              record := { e.record with purge := e.record.purge ||
                (e.disposition == some .heldPurge || (e.disposition == some .heldBlank &&
                  !s.clear.binds.contains e.record.sheet)) }
              loc := if e.passSent then .handed else .transit
              disposition := none
              passHold := g.passHold } ∧
              (e.passSent = true → s.line.tx.length + s.track.table.length ≤ 14 →
                s.passOf g ∈ t.line.tx))))

/-- REST brings an empty node in RUN to IDLE with its zones falling, no site, no own cause and no pulse
delay; anywhere else it is ignored. That the ready timer of a chain turned OFF reads 0 is the model's
(log 56). -/
def Obligations.RestTaken : Prop :=
  ∀ (s : State) (f : Frame) (rest : List Frame), Front s .rest f rest →
    (s.stop.path ≠ .run ∨ s.track.table ≠ [] ∨ s.track.arrivals ≠ [] ∨ s.track.orphan ≠ none →
      exec .restTaken s = .next (s.took rest)) ∧
    (s.stop.path = .run → s.track.table = [] → s.track.arrivals = [] → s.track.orphan = none →
      ∃ t, exec .restTaken s = .next t ∧ t.line = (s.took rest).line ∧
        t.stop = { s.stop with path := .idle, sites := [], overflow := false, own := none } ∧
        t.feed = { s.feed with restTimer := 0, restQueued := false } ∧
        (∀ p, t.pulse p = { s.pulse p with delay := none }) ∧
        (∀ z, s.inUse z = true →
          ((s.zone z).atRest = true → t.zone z = { s.zone z with risePending := false }) ∧
          ((s.zone z).state = .falling → t.zone z = s.zone z) ∧
          ((s.zone z).state = .rising ∨ (s.zone z).state = .running → Falls s z (t.zone z))) ∧
        (t.allRest = true → t.anyRisePending = false → t.chain = { state := .off, readyTimer := 0 }) ∧
        changesOnly [.stop, .zones, .chain, .track, .pulses, .feed, .line, .notices] s t)

/-! ### The survey -/

/-- A survey, when its conditions hold, whatever event made them hold (log 62), brings the node to
CLEARING and takes the full form after a panel cycle (all is REMOVED), waits for a void at a FINISH node
with compiled sheets, and otherwise judges each entry by the rows of R121; a covered station that nothing
kept accounts for is a residual and ends it. -/
def Obligations.SurveyStart : Prop :=
  ∀ s : State,
    (¬ SurveyOpen s → exec .surveyStart s = .next s) ∧
    (SurveyOpen s → ∃ t, exec .surveyStart s = .next t ∧ t.stop.path = .clearing ∧
      t.track.orphan = none ∧ t.clear.binds = [] ∧
      (s.tags.panelCycle = true → (∃ k, s.present k = true ∧ (s.station k).covered = true) →
        t.clear.residual = true ∧ t.clear.phase = .noSurvey ∧
        t.track.table = s.track.table ∧ t.track.arrivals = s.track.arrivals) ∧
      (s.tags.panelCycle = true → (∀ k, s.present k = true → (s.station k).covered = false) →
        t.clear.phase = .reporting ∧ t.track.table = [] ∧ t.track.arrivals = [] ∧
        t.deliv.compile = [] ∧ t.deliv.heldMark = false ∧
        t.clear.reports.map (fun r => (r.sheet, r.disposition, r.position)) =
          s.clear.reports.map (fun r => (r.sheet, r.disposition, r.position)) ++
          s.track.table.zipIdx.map (fun x => (x.1.record.sheet, .removed, x.2)) ++
          s.track.arrivals.map (fun a => (a.record.sheet, .removed, 0)) ++
          s.deliv.compile.map (fun c => (c.sheet, .removed, 0))) ∧
      (s.tags.panelCycle = false → s.cfg.kind = some .finish → s.deliv.compile ≠ [] →
        t.clear.phase = .voidWait ∧ t.deliv = { s.deliv with op := .void, opTimer := 0, fsel := true } ∧
        t.track.table = s.track.table) ∧
      (s.tags.panelCycle = false → (s.cfg.kind ≠ some .finish ∨ s.deliv.compile = []) →
        ∀ judge : Entry → Disposition, (∀ e ∈ s.track.table, Judged s e (judge e)) →
        ∀ kept, kept = s.track.table.filter (fun e => judge e ≠ .removed) →
        ((∃ k, s.present k = true ∧ (s.station k).covered = true ∧
            ∀ e ∈ kept, ¬ (e.trail < k.num ∧ k.num ≤ e.lead)) →
          t.clear.residual = true ∧ t.clear.phase = .noSurvey ∧
          t.clear.reports = s.clear.reports ∧ t.track.table = s.track.table) ∧
        ((∀ k, s.present k = true → (s.station k).covered = true →
            ∃ e ∈ kept, e.trail < k.num ∧ k.num ≤ e.lead) →
          t.clear.phase = .reporting ∧ t.clear.residual = false ∧
          t.track.table = kept.map (fun e =>
            { e with loc := .held, disposition := some (judge e) }) ∧
          t.track.arrivals = [] ∧
          t.clear.reports.map (fun r => (r.sheet, r.disposition, r.position)) =
            s.clear.reports.map (fun r => (r.sheet, r.disposition, r.position)) ++
            s.track.table.zipIdx.map (fun x => (x.1.record.sheet, judge x.1, x.2)) ++
            s.track.arrivals.map (fun a => (a.record.sheet, .unseen, 0)))))

/-! ### The line -/

/-- The line port sends the oldest frame of the lowest class; a lost arbitration or an error leaves it
in the queue, an error counted; a frame sent leaves the transmit queue and joins the receive queue, or
is lost there with LINE. The node's own GO lost there clears the start mark in IDLE, or has the plan's GO
queued again (the mark of log 24). Sixteen errors in a row are LINE before another transmission changes
their count (log 50). No frame is started while one is being sent (log 30). -/
def Obligations.LineSender : Prop :=
  ∀ s : State,
    (s.configured = false ∨ s.line.sending ≠ none → exec .frameTransmitStart s = .next s) ∧
    (s.configured = true → s.line.sending = none → ∃ t, exec .frameTransmitStart s = .next t ∧
      (s.line.tx = [] → t = s) ∧
      (∀ front f back, s.line.tx = front ++ f :: back →
        (∀ g ∈ front, f.kind.cls < g.kind.cls) → (∀ g ∈ back, f.kind.cls ≤ g.kind.cls) →
        t = { s with line := { s.line with sending := some f } })) ∧
    (∃ t, exec .arbitrationLost s = .next t ∧
      t = { s with line := { s.line with sending := none } }) ∧
    (s.line.sending = none → exec .transmitError s = .next s ∧ exec .frameSent s = .next s) ∧
    (∀ f, s.line.sending = some f → 16 ≤ s.line.errorRun → Clear s →
      (∃ t, exec .transmitError s = .next t ∧ StopBegun s .line 3 0 t ∧ t.line.limitFlag = true ∧
        t.line.errorRun = 1 ∧ t.line.txErrors = min 255 (s.line.txErrors + 1) ∧
        t.line.sending = none) ∧
      (f ∈ s.line.tx → s.line.rx.length < 32 →
        ∃ t, exec .frameSent s = .next t ∧ StopBegun s .line 3 0 t ∧ t.line.limitFlag = true ∧
          t.line.errorRun = 0 ∧ t.line.rx = s.line.rx ++ [f] ∧ t.line.sending = none)) ∧
    (∀ f, s.line.sending = some f → s.line.errorRun < 16 →
      exec .transmitError s = .next { s with line := { s.line with
        sending := none, txErrors := min 255 (s.line.txErrors + 1)
        errorRun := min 16 (s.line.errorRun + 1) } } ∧
      (s.line.rx.length < 32 → exec .frameSent s = .next { s with line := { s.line with
        sending := none, tx := s.line.tx.erase f, rx := s.line.rx ++ [f], errorRun := 0 } }) ∧
      (32 ≤ s.line.rx.length → ∃ t, exec .frameSent s = .next t ∧ t.line.rx = s.line.rx ∧
        t.line.rxOverflow = true ∧ t.line.sending = none ∧ t.line.errorRun = 0 ∧
        (Clear s → StopBegun s .line 1 0 t) ∧
        (s.stop.path = .idle → s.cfg.kind = some .feed → f.kind = .go →
          t.feed.startMark = false) ∧
        (s.stop.path = .ready → s.cfg.kind = some .feed → f.kind = .go → s.plan.phase = .sent →
          t.plan.goAgain = true)))

/-- A frame of another node joins the receive queue once its line bits read whole; a CRC that does not
agree and a frame cut short are counted; a kind, class or length that does not agree is stale; with no
room it is LINE. A line that falls idle, 11 recessive bits in a row, before the CRC is complete counts
with the CRC errors, at its last bit too (the model's choice, log 25). A node that is not configured reads
nothing, and a node that sends reads its own frame alone (the model's choice, log 30). -/
def Obligations.LineReceiver : Prop :=
  ∀ s : State,
    (s.configured = false ∨ s.line.sending ≠ none →
      (∀ bits, exec (.frameReceived bits) s = .next s) ∧ exec .frameCutShort s = .next s) ∧
    (s.configured = true → s.line.sending = none →
      (exec .frameCutShort s = .next { s with line := { s.line with
        crcErrors := min 255 (s.line.crcErrors + 1) } }) ∧
      (∀ f : Frame, f.Fits → s.line.rx.length < 32 → ∃ t,
        exec (.frameReceived f.lineBits) s = .next t ∧
        t = { s with line := { s.line with rx := s.line.rx ++ [f] } }) ∧
      (∀ f : Frame, f.Fits → 32 ≤ s.line.rx.length → Clear s → ∃ t,
        exec (.frameReceived f.lineBits) s = .next t ∧ StopBegun s .line 1 0 t ∧
        t.line.rx = s.line.rx ∧ t.line.rxOverflow = true) ∧
      (∀ (body : List Bool) (check : BitVec 16), 24 ≤ body.length → check ≠ crc body →
        body.length = 24 + 8 * ofBits ((body.drop 19).take 5) → ∃ t,
        exec (.frameReceived (insertFill 10 (body ++ toBits 16 check.toNat))) s = .next t ∧
        t = { s with line := { s.line with crcErrors := min 255 (s.line.crcErrors + 1) } }) ∧
      (∀ (bits front back : List Bool) (len : Nat), bits = front ++ List.replicate 11 true ++ back →
        len = ofBits (((removeFill 10 bits).drop 19).take 5) →
        front.length + 11 ≤ 40 + 8 * len + (39 + 8 * len) / 10 → ∃ t,
        exec (.frameReceived bits) s = .next t ∧
        t = { s with line := { s.line with crcErrors := min 255 (s.line.crcErrors + 1) } }) ∧
      (∀ (body : List Bool), body.length = 24 + 8 * ofBits ((body.drop 19).take 5) →
        (∀ k : FrameKind, k.code = ofBits ((body.drop 7).take 4) →
          ofBits (body.take 3) ≠ k.cls ∨ ofBits ((body.drop 19).take 5) ∉ k.lengths) → ∃ t,
        exec (.frameReceived (insertFill 10 (body ++ toBits 16 (crc body).toNat))) s = .next t ∧
        t = { s with line := { s.line with stale := min 255 (s.line.stale + 1) } }))

end Statements
end

