-- ==== Sys2Proof/Laws/State.lean ====
section
/-! SUPPORT. What each named update of State leaves: one lemma per field per update, true by rfl. -/

namespace Sys2Proof.Machine.State

@[simp] theorem withCfg_cfg (s : State) (x : Configuration) : (s.withCfg x).cfg = x := rfl
@[simp] theorem withCfg_pins (s : State) (x : Configuration) : (s.withCfg x).pins = s.pins := rfl
@[simp] theorem withCfg_stop (s : State) (x : Configuration) : (s.withCfg x).stop = s.stop := rfl
@[simp] theorem withCfg_stations (s : State) (x : Configuration) : (s.withCfg x).stations = s.stations := rfl
@[simp] theorem withCfg_zones (s : State) (x : Configuration) : (s.withCfg x).zones = s.zones := rfl
@[simp] theorem withCfg_chain (s : State) (x : Configuration) : (s.withCfg x).chain = s.chain := rfl
@[simp] theorem withCfg_track (s : State) (x : Configuration) : (s.withCfg x).track = s.track := rfl
@[simp] theorem withCfg_gate (s : State) (x : Configuration) : (s.withCfg x).gate = s.gate := rfl
@[simp] theorem withCfg_pulses (s : State) (x : Configuration) : (s.withCfg x).pulses = s.pulses := rfl
@[simp] theorem withCfg_tags (s : State) (x : Configuration) : (s.withCfg x).tags = s.tags := rfl
@[simp] theorem withCfg_supply (s : State) (x : Configuration) : (s.withCfg x).supply = s.supply := rfl
@[simp] theorem withCfg_clear (s : State) (x : Configuration) : (s.withCfg x).clear = s.clear := rfl
@[simp] theorem withCfg_feed (s : State) (x : Configuration) : (s.withCfg x).feed = s.feed := rfl
@[simp] theorem withCfg_plan (s : State) (x : Configuration) : (s.withCfg x).plan = s.plan := rfl
@[simp] theorem withCfg_deliv (s : State) (x : Configuration) : (s.withCfg x).deliv = s.deliv := rfl
@[simp] theorem withCfg_line (s : State) (x : Configuration) : (s.withCfg x).line = s.line := rfl
@[simp] theorem withCfg_notices (s : State) (x : Configuration) : (s.withCfg x).notices = s.notices := rfl
@[simp] theorem withCfg_reply (s : State) (x : Configuration) : (s.withCfg x).reply = s.reply := rfl
@[simp] theorem withCfg_pending (s : State) (x : Configuration) : (s.withCfg x).pending = s.pending := rfl

@[simp] theorem withPins_cfg (s : State) (x : Pins) : (s.withPins x).cfg = s.cfg := rfl
@[simp] theorem withPins_pins (s : State) (x : Pins) : (s.withPins x).pins = x := rfl
@[simp] theorem withPins_stop (s : State) (x : Pins) : (s.withPins x).stop = s.stop := rfl
@[simp] theorem withPins_stations (s : State) (x : Pins) : (s.withPins x).stations = s.stations := rfl
@[simp] theorem withPins_zones (s : State) (x : Pins) : (s.withPins x).zones = s.zones := rfl
@[simp] theorem withPins_chain (s : State) (x : Pins) : (s.withPins x).chain = s.chain := rfl
@[simp] theorem withPins_track (s : State) (x : Pins) : (s.withPins x).track = s.track := rfl
@[simp] theorem withPins_gate (s : State) (x : Pins) : (s.withPins x).gate = s.gate := rfl
@[simp] theorem withPins_pulses (s : State) (x : Pins) : (s.withPins x).pulses = s.pulses := rfl
@[simp] theorem withPins_tags (s : State) (x : Pins) : (s.withPins x).tags = s.tags := rfl
@[simp] theorem withPins_supply (s : State) (x : Pins) : (s.withPins x).supply = s.supply := rfl
@[simp] theorem withPins_clear (s : State) (x : Pins) : (s.withPins x).clear = s.clear := rfl
@[simp] theorem withPins_feed (s : State) (x : Pins) : (s.withPins x).feed = s.feed := rfl
@[simp] theorem withPins_plan (s : State) (x : Pins) : (s.withPins x).plan = s.plan := rfl
@[simp] theorem withPins_deliv (s : State) (x : Pins) : (s.withPins x).deliv = s.deliv := rfl
@[simp] theorem withPins_line (s : State) (x : Pins) : (s.withPins x).line = s.line := rfl
@[simp] theorem withPins_notices (s : State) (x : Pins) : (s.withPins x).notices = s.notices := rfl
@[simp] theorem withPins_reply (s : State) (x : Pins) : (s.withPins x).reply = s.reply := rfl
@[simp] theorem withPins_pending (s : State) (x : Pins) : (s.withPins x).pending = s.pending := rfl

@[simp] theorem withStop_cfg (s : State) (x : StopUnit) : (s.withStop x).cfg = s.cfg := rfl
@[simp] theorem withStop_pins (s : State) (x : StopUnit) : (s.withStop x).pins = s.pins := rfl
@[simp] theorem withStop_stop (s : State) (x : StopUnit) : (s.withStop x).stop = x := rfl
@[simp] theorem withStop_stations (s : State) (x : StopUnit) : (s.withStop x).stations = s.stations := rfl
@[simp] theorem withStop_zones (s : State) (x : StopUnit) : (s.withStop x).zones = s.zones := rfl
@[simp] theorem withStop_chain (s : State) (x : StopUnit) : (s.withStop x).chain = s.chain := rfl
@[simp] theorem withStop_track (s : State) (x : StopUnit) : (s.withStop x).track = s.track := rfl
@[simp] theorem withStop_gate (s : State) (x : StopUnit) : (s.withStop x).gate = s.gate := rfl
@[simp] theorem withStop_pulses (s : State) (x : StopUnit) : (s.withStop x).pulses = s.pulses := rfl
@[simp] theorem withStop_tags (s : State) (x : StopUnit) : (s.withStop x).tags = s.tags := rfl
@[simp] theorem withStop_supply (s : State) (x : StopUnit) : (s.withStop x).supply = s.supply := rfl
@[simp] theorem withStop_clear (s : State) (x : StopUnit) : (s.withStop x).clear = s.clear := rfl
@[simp] theorem withStop_feed (s : State) (x : StopUnit) : (s.withStop x).feed = s.feed := rfl
@[simp] theorem withStop_plan (s : State) (x : StopUnit) : (s.withStop x).plan = s.plan := rfl
@[simp] theorem withStop_deliv (s : State) (x : StopUnit) : (s.withStop x).deliv = s.deliv := rfl
@[simp] theorem withStop_line (s : State) (x : StopUnit) : (s.withStop x).line = s.line := rfl
@[simp] theorem withStop_notices (s : State) (x : StopUnit) : (s.withStop x).notices = s.notices := rfl
@[simp] theorem withStop_reply (s : State) (x : StopUnit) : (s.withStop x).reply = s.reply := rfl
@[simp] theorem withStop_pending (s : State) (x : StopUnit) : (s.withStop x).pending = s.pending := rfl

@[simp] theorem withStations_cfg (s : State) (x : Quad Station) : (s.withStations x).cfg = s.cfg := rfl
@[simp] theorem withStations_pins (s : State) (x : Quad Station) : (s.withStations x).pins = s.pins := rfl
@[simp] theorem withStations_stop (s : State) (x : Quad Station) : (s.withStations x).stop = s.stop := rfl
@[simp] theorem withStations_stations (s : State) (x : Quad Station) : (s.withStations x).stations = x := rfl
@[simp] theorem withStations_zones (s : State) (x : Quad Station) : (s.withStations x).zones = s.zones := rfl
@[simp] theorem withStations_chain (s : State) (x : Quad Station) : (s.withStations x).chain = s.chain := rfl
@[simp] theorem withStations_track (s : State) (x : Quad Station) : (s.withStations x).track = s.track := rfl
@[simp] theorem withStations_gate (s : State) (x : Quad Station) : (s.withStations x).gate = s.gate := rfl
@[simp] theorem withStations_pulses (s : State) (x : Quad Station) : (s.withStations x).pulses = s.pulses := rfl
@[simp] theorem withStations_tags (s : State) (x : Quad Station) : (s.withStations x).tags = s.tags := rfl
@[simp] theorem withStations_supply (s : State) (x : Quad Station) : (s.withStations x).supply = s.supply := rfl
@[simp] theorem withStations_clear (s : State) (x : Quad Station) : (s.withStations x).clear = s.clear := rfl
@[simp] theorem withStations_feed (s : State) (x : Quad Station) : (s.withStations x).feed = s.feed := rfl
@[simp] theorem withStations_plan (s : State) (x : Quad Station) : (s.withStations x).plan = s.plan := rfl
@[simp] theorem withStations_deliv (s : State) (x : Quad Station) : (s.withStations x).deliv = s.deliv := rfl
@[simp] theorem withStations_line (s : State) (x : Quad Station) : (s.withStations x).line = s.line := rfl
@[simp] theorem withStations_notices (s : State) (x : Quad Station) : (s.withStations x).notices = s.notices := rfl
@[simp] theorem withStations_reply (s : State) (x : Quad Station) : (s.withStations x).reply = s.reply := rfl
@[simp] theorem withStations_pending (s : State) (x : Quad Station) : (s.withStations x).pending = s.pending := rfl

@[simp] theorem withZones_cfg (s : State) (x : Trio Zone) : (s.withZones x).cfg = s.cfg := rfl
@[simp] theorem withZones_pins (s : State) (x : Trio Zone) : (s.withZones x).pins = s.pins := rfl
@[simp] theorem withZones_stop (s : State) (x : Trio Zone) : (s.withZones x).stop = s.stop := rfl
@[simp] theorem withZones_stations (s : State) (x : Trio Zone) : (s.withZones x).stations = s.stations := rfl
@[simp] theorem withZones_zones (s : State) (x : Trio Zone) : (s.withZones x).zones = x := rfl
@[simp] theorem withZones_chain (s : State) (x : Trio Zone) : (s.withZones x).chain = s.chain := rfl
@[simp] theorem withZones_track (s : State) (x : Trio Zone) : (s.withZones x).track = s.track := rfl
@[simp] theorem withZones_gate (s : State) (x : Trio Zone) : (s.withZones x).gate = s.gate := rfl
@[simp] theorem withZones_pulses (s : State) (x : Trio Zone) : (s.withZones x).pulses = s.pulses := rfl
@[simp] theorem withZones_tags (s : State) (x : Trio Zone) : (s.withZones x).tags = s.tags := rfl
@[simp] theorem withZones_supply (s : State) (x : Trio Zone) : (s.withZones x).supply = s.supply := rfl
@[simp] theorem withZones_clear (s : State) (x : Trio Zone) : (s.withZones x).clear = s.clear := rfl
@[simp] theorem withZones_feed (s : State) (x : Trio Zone) : (s.withZones x).feed = s.feed := rfl
@[simp] theorem withZones_plan (s : State) (x : Trio Zone) : (s.withZones x).plan = s.plan := rfl
@[simp] theorem withZones_deliv (s : State) (x : Trio Zone) : (s.withZones x).deliv = s.deliv := rfl
@[simp] theorem withZones_line (s : State) (x : Trio Zone) : (s.withZones x).line = s.line := rfl
@[simp] theorem withZones_notices (s : State) (x : Trio Zone) : (s.withZones x).notices = s.notices := rfl
@[simp] theorem withZones_reply (s : State) (x : Trio Zone) : (s.withZones x).reply = s.reply := rfl
@[simp] theorem withZones_pending (s : State) (x : Trio Zone) : (s.withZones x).pending = s.pending := rfl

@[simp] theorem withChain_cfg (s : State) (x : Chain) : (s.withChain x).cfg = s.cfg := rfl
@[simp] theorem withChain_pins (s : State) (x : Chain) : (s.withChain x).pins = s.pins := rfl
@[simp] theorem withChain_stop (s : State) (x : Chain) : (s.withChain x).stop = s.stop := rfl
@[simp] theorem withChain_stations (s : State) (x : Chain) : (s.withChain x).stations = s.stations := rfl
@[simp] theorem withChain_zones (s : State) (x : Chain) : (s.withChain x).zones = s.zones := rfl
@[simp] theorem withChain_chain (s : State) (x : Chain) : (s.withChain x).chain = x := rfl
@[simp] theorem withChain_track (s : State) (x : Chain) : (s.withChain x).track = s.track := rfl
@[simp] theorem withChain_gate (s : State) (x : Chain) : (s.withChain x).gate = s.gate := rfl
@[simp] theorem withChain_pulses (s : State) (x : Chain) : (s.withChain x).pulses = s.pulses := rfl
@[simp] theorem withChain_tags (s : State) (x : Chain) : (s.withChain x).tags = s.tags := rfl
@[simp] theorem withChain_supply (s : State) (x : Chain) : (s.withChain x).supply = s.supply := rfl
@[simp] theorem withChain_clear (s : State) (x : Chain) : (s.withChain x).clear = s.clear := rfl
@[simp] theorem withChain_feed (s : State) (x : Chain) : (s.withChain x).feed = s.feed := rfl
@[simp] theorem withChain_plan (s : State) (x : Chain) : (s.withChain x).plan = s.plan := rfl
@[simp] theorem withChain_deliv (s : State) (x : Chain) : (s.withChain x).deliv = s.deliv := rfl
@[simp] theorem withChain_line (s : State) (x : Chain) : (s.withChain x).line = s.line := rfl
@[simp] theorem withChain_notices (s : State) (x : Chain) : (s.withChain x).notices = s.notices := rfl
@[simp] theorem withChain_reply (s : State) (x : Chain) : (s.withChain x).reply = s.reply := rfl
@[simp] theorem withChain_pending (s : State) (x : Chain) : (s.withChain x).pending = s.pending := rfl

@[simp] theorem withTrack_cfg (s : State) (x : TrackUnit) : (s.withTrack x).cfg = s.cfg := rfl
@[simp] theorem withTrack_pins (s : State) (x : TrackUnit) : (s.withTrack x).pins = s.pins := rfl
@[simp] theorem withTrack_stop (s : State) (x : TrackUnit) : (s.withTrack x).stop = s.stop := rfl
@[simp] theorem withTrack_stations (s : State) (x : TrackUnit) : (s.withTrack x).stations = s.stations := rfl
@[simp] theorem withTrack_zones (s : State) (x : TrackUnit) : (s.withTrack x).zones = s.zones := rfl
@[simp] theorem withTrack_chain (s : State) (x : TrackUnit) : (s.withTrack x).chain = s.chain := rfl
@[simp] theorem withTrack_track (s : State) (x : TrackUnit) : (s.withTrack x).track = x := rfl
@[simp] theorem withTrack_gate (s : State) (x : TrackUnit) : (s.withTrack x).gate = s.gate := rfl
@[simp] theorem withTrack_pulses (s : State) (x : TrackUnit) : (s.withTrack x).pulses = s.pulses := rfl
@[simp] theorem withTrack_tags (s : State) (x : TrackUnit) : (s.withTrack x).tags = s.tags := rfl
@[simp] theorem withTrack_supply (s : State) (x : TrackUnit) : (s.withTrack x).supply = s.supply := rfl
@[simp] theorem withTrack_clear (s : State) (x : TrackUnit) : (s.withTrack x).clear = s.clear := rfl
@[simp] theorem withTrack_feed (s : State) (x : TrackUnit) : (s.withTrack x).feed = s.feed := rfl
@[simp] theorem withTrack_plan (s : State) (x : TrackUnit) : (s.withTrack x).plan = s.plan := rfl
@[simp] theorem withTrack_deliv (s : State) (x : TrackUnit) : (s.withTrack x).deliv = s.deliv := rfl
@[simp] theorem withTrack_line (s : State) (x : TrackUnit) : (s.withTrack x).line = s.line := rfl
@[simp] theorem withTrack_notices (s : State) (x : TrackUnit) : (s.withTrack x).notices = s.notices := rfl
@[simp] theorem withTrack_reply (s : State) (x : TrackUnit) : (s.withTrack x).reply = s.reply := rfl
@[simp] theorem withTrack_pending (s : State) (x : TrackUnit) : (s.withTrack x).pending = s.pending := rfl

@[simp] theorem withGate_cfg (s : State) (x : GateUnit) : (s.withGate x).cfg = s.cfg := rfl
@[simp] theorem withGate_pins (s : State) (x : GateUnit) : (s.withGate x).pins = s.pins := rfl
@[simp] theorem withGate_stop (s : State) (x : GateUnit) : (s.withGate x).stop = s.stop := rfl
@[simp] theorem withGate_stations (s : State) (x : GateUnit) : (s.withGate x).stations = s.stations := rfl
@[simp] theorem withGate_zones (s : State) (x : GateUnit) : (s.withGate x).zones = s.zones := rfl
@[simp] theorem withGate_chain (s : State) (x : GateUnit) : (s.withGate x).chain = s.chain := rfl
@[simp] theorem withGate_track (s : State) (x : GateUnit) : (s.withGate x).track = s.track := rfl
@[simp] theorem withGate_gate (s : State) (x : GateUnit) : (s.withGate x).gate = x := rfl
@[simp] theorem withGate_pulses (s : State) (x : GateUnit) : (s.withGate x).pulses = s.pulses := rfl
@[simp] theorem withGate_tags (s : State) (x : GateUnit) : (s.withGate x).tags = s.tags := rfl
@[simp] theorem withGate_supply (s : State) (x : GateUnit) : (s.withGate x).supply = s.supply := rfl
@[simp] theorem withGate_clear (s : State) (x : GateUnit) : (s.withGate x).clear = s.clear := rfl
@[simp] theorem withGate_feed (s : State) (x : GateUnit) : (s.withGate x).feed = s.feed := rfl
@[simp] theorem withGate_plan (s : State) (x : GateUnit) : (s.withGate x).plan = s.plan := rfl
@[simp] theorem withGate_deliv (s : State) (x : GateUnit) : (s.withGate x).deliv = s.deliv := rfl
@[simp] theorem withGate_line (s : State) (x : GateUnit) : (s.withGate x).line = s.line := rfl
@[simp] theorem withGate_notices (s : State) (x : GateUnit) : (s.withGate x).notices = s.notices := rfl
@[simp] theorem withGate_reply (s : State) (x : GateUnit) : (s.withGate x).reply = s.reply := rfl
@[simp] theorem withGate_pending (s : State) (x : GateUnit) : (s.withGate x).pending = s.pending := rfl

@[simp] theorem withPulses_cfg (s : State) (x : Duo Pulse) : (s.withPulses x).cfg = s.cfg := rfl
@[simp] theorem withPulses_pins (s : State) (x : Duo Pulse) : (s.withPulses x).pins = s.pins := rfl
@[simp] theorem withPulses_stop (s : State) (x : Duo Pulse) : (s.withPulses x).stop = s.stop := rfl
@[simp] theorem withPulses_stations (s : State) (x : Duo Pulse) : (s.withPulses x).stations = s.stations := rfl
@[simp] theorem withPulses_zones (s : State) (x : Duo Pulse) : (s.withPulses x).zones = s.zones := rfl
@[simp] theorem withPulses_chain (s : State) (x : Duo Pulse) : (s.withPulses x).chain = s.chain := rfl
@[simp] theorem withPulses_track (s : State) (x : Duo Pulse) : (s.withPulses x).track = s.track := rfl
@[simp] theorem withPulses_gate (s : State) (x : Duo Pulse) : (s.withPulses x).gate = s.gate := rfl
@[simp] theorem withPulses_pulses (s : State) (x : Duo Pulse) : (s.withPulses x).pulses = x := rfl
@[simp] theorem withPulses_tags (s : State) (x : Duo Pulse) : (s.withPulses x).tags = s.tags := rfl
@[simp] theorem withPulses_supply (s : State) (x : Duo Pulse) : (s.withPulses x).supply = s.supply := rfl
@[simp] theorem withPulses_clear (s : State) (x : Duo Pulse) : (s.withPulses x).clear = s.clear := rfl
@[simp] theorem withPulses_feed (s : State) (x : Duo Pulse) : (s.withPulses x).feed = s.feed := rfl
@[simp] theorem withPulses_plan (s : State) (x : Duo Pulse) : (s.withPulses x).plan = s.plan := rfl
@[simp] theorem withPulses_deliv (s : State) (x : Duo Pulse) : (s.withPulses x).deliv = s.deliv := rfl
@[simp] theorem withPulses_line (s : State) (x : Duo Pulse) : (s.withPulses x).line = s.line := rfl
@[simp] theorem withPulses_notices (s : State) (x : Duo Pulse) : (s.withPulses x).notices = s.notices := rfl
@[simp] theorem withPulses_reply (s : State) (x : Duo Pulse) : (s.withPulses x).reply = s.reply := rfl
@[simp] theorem withPulses_pending (s : State) (x : Duo Pulse) : (s.withPulses x).pending = s.pending := rfl

@[simp] theorem withTags_cfg (s : State) (x : TagUnit) : (s.withTags x).cfg = s.cfg := rfl
@[simp] theorem withTags_pins (s : State) (x : TagUnit) : (s.withTags x).pins = s.pins := rfl
@[simp] theorem withTags_stop (s : State) (x : TagUnit) : (s.withTags x).stop = s.stop := rfl
@[simp] theorem withTags_stations (s : State) (x : TagUnit) : (s.withTags x).stations = s.stations := rfl
@[simp] theorem withTags_zones (s : State) (x : TagUnit) : (s.withTags x).zones = s.zones := rfl
@[simp] theorem withTags_chain (s : State) (x : TagUnit) : (s.withTags x).chain = s.chain := rfl
@[simp] theorem withTags_track (s : State) (x : TagUnit) : (s.withTags x).track = s.track := rfl
@[simp] theorem withTags_gate (s : State) (x : TagUnit) : (s.withTags x).gate = s.gate := rfl
@[simp] theorem withTags_pulses (s : State) (x : TagUnit) : (s.withTags x).pulses = s.pulses := rfl
@[simp] theorem withTags_tags (s : State) (x : TagUnit) : (s.withTags x).tags = x := rfl
@[simp] theorem withTags_supply (s : State) (x : TagUnit) : (s.withTags x).supply = s.supply := rfl
@[simp] theorem withTags_clear (s : State) (x : TagUnit) : (s.withTags x).clear = s.clear := rfl
@[simp] theorem withTags_feed (s : State) (x : TagUnit) : (s.withTags x).feed = s.feed := rfl
@[simp] theorem withTags_plan (s : State) (x : TagUnit) : (s.withTags x).plan = s.plan := rfl
@[simp] theorem withTags_deliv (s : State) (x : TagUnit) : (s.withTags x).deliv = s.deliv := rfl
@[simp] theorem withTags_line (s : State) (x : TagUnit) : (s.withTags x).line = s.line := rfl
@[simp] theorem withTags_notices (s : State) (x : TagUnit) : (s.withTags x).notices = s.notices := rfl
@[simp] theorem withTags_reply (s : State) (x : TagUnit) : (s.withTags x).reply = s.reply := rfl
@[simp] theorem withTags_pending (s : State) (x : TagUnit) : (s.withTags x).pending = s.pending := rfl

@[simp] theorem withSupply_cfg (s : State) (x : SupplyUnit) : (s.withSupply x).cfg = s.cfg := rfl
@[simp] theorem withSupply_pins (s : State) (x : SupplyUnit) : (s.withSupply x).pins = s.pins := rfl
@[simp] theorem withSupply_stop (s : State) (x : SupplyUnit) : (s.withSupply x).stop = s.stop := rfl
@[simp] theorem withSupply_stations (s : State) (x : SupplyUnit) : (s.withSupply x).stations = s.stations := rfl
@[simp] theorem withSupply_zones (s : State) (x : SupplyUnit) : (s.withSupply x).zones = s.zones := rfl
@[simp] theorem withSupply_chain (s : State) (x : SupplyUnit) : (s.withSupply x).chain = s.chain := rfl
@[simp] theorem withSupply_track (s : State) (x : SupplyUnit) : (s.withSupply x).track = s.track := rfl
@[simp] theorem withSupply_gate (s : State) (x : SupplyUnit) : (s.withSupply x).gate = s.gate := rfl
@[simp] theorem withSupply_pulses (s : State) (x : SupplyUnit) : (s.withSupply x).pulses = s.pulses := rfl
@[simp] theorem withSupply_tags (s : State) (x : SupplyUnit) : (s.withSupply x).tags = s.tags := rfl
@[simp] theorem withSupply_supply (s : State) (x : SupplyUnit) : (s.withSupply x).supply = x := rfl
@[simp] theorem withSupply_clear (s : State) (x : SupplyUnit) : (s.withSupply x).clear = s.clear := rfl
@[simp] theorem withSupply_feed (s : State) (x : SupplyUnit) : (s.withSupply x).feed = s.feed := rfl
@[simp] theorem withSupply_plan (s : State) (x : SupplyUnit) : (s.withSupply x).plan = s.plan := rfl
@[simp] theorem withSupply_deliv (s : State) (x : SupplyUnit) : (s.withSupply x).deliv = s.deliv := rfl
@[simp] theorem withSupply_line (s : State) (x : SupplyUnit) : (s.withSupply x).line = s.line := rfl
@[simp] theorem withSupply_notices (s : State) (x : SupplyUnit) : (s.withSupply x).notices = s.notices := rfl
@[simp] theorem withSupply_reply (s : State) (x : SupplyUnit) : (s.withSupply x).reply = s.reply := rfl
@[simp] theorem withSupply_pending (s : State) (x : SupplyUnit) : (s.withSupply x).pending = s.pending := rfl

@[simp] theorem withClear_cfg (s : State) (x : ClearUnit) : (s.withClear x).cfg = s.cfg := rfl
@[simp] theorem withClear_pins (s : State) (x : ClearUnit) : (s.withClear x).pins = s.pins := rfl
@[simp] theorem withClear_stop (s : State) (x : ClearUnit) : (s.withClear x).stop = s.stop := rfl
@[simp] theorem withClear_stations (s : State) (x : ClearUnit) : (s.withClear x).stations = s.stations := rfl
@[simp] theorem withClear_zones (s : State) (x : ClearUnit) : (s.withClear x).zones = s.zones := rfl
@[simp] theorem withClear_chain (s : State) (x : ClearUnit) : (s.withClear x).chain = s.chain := rfl
@[simp] theorem withClear_track (s : State) (x : ClearUnit) : (s.withClear x).track = s.track := rfl
@[simp] theorem withClear_gate (s : State) (x : ClearUnit) : (s.withClear x).gate = s.gate := rfl
@[simp] theorem withClear_pulses (s : State) (x : ClearUnit) : (s.withClear x).pulses = s.pulses := rfl
@[simp] theorem withClear_tags (s : State) (x : ClearUnit) : (s.withClear x).tags = s.tags := rfl
@[simp] theorem withClear_supply (s : State) (x : ClearUnit) : (s.withClear x).supply = s.supply := rfl
@[simp] theorem withClear_clear (s : State) (x : ClearUnit) : (s.withClear x).clear = x := rfl
@[simp] theorem withClear_feed (s : State) (x : ClearUnit) : (s.withClear x).feed = s.feed := rfl
@[simp] theorem withClear_plan (s : State) (x : ClearUnit) : (s.withClear x).plan = s.plan := rfl
@[simp] theorem withClear_deliv (s : State) (x : ClearUnit) : (s.withClear x).deliv = s.deliv := rfl
@[simp] theorem withClear_line (s : State) (x : ClearUnit) : (s.withClear x).line = s.line := rfl
@[simp] theorem withClear_notices (s : State) (x : ClearUnit) : (s.withClear x).notices = s.notices := rfl
@[simp] theorem withClear_reply (s : State) (x : ClearUnit) : (s.withClear x).reply = s.reply := rfl
@[simp] theorem withClear_pending (s : State) (x : ClearUnit) : (s.withClear x).pending = s.pending := rfl

@[simp] theorem withFeed_cfg (s : State) (x : FeedUnit) : (s.withFeed x).cfg = s.cfg := rfl
@[simp] theorem withFeed_pins (s : State) (x : FeedUnit) : (s.withFeed x).pins = s.pins := rfl
@[simp] theorem withFeed_stop (s : State) (x : FeedUnit) : (s.withFeed x).stop = s.stop := rfl
@[simp] theorem withFeed_stations (s : State) (x : FeedUnit) : (s.withFeed x).stations = s.stations := rfl
@[simp] theorem withFeed_zones (s : State) (x : FeedUnit) : (s.withFeed x).zones = s.zones := rfl
@[simp] theorem withFeed_chain (s : State) (x : FeedUnit) : (s.withFeed x).chain = s.chain := rfl
@[simp] theorem withFeed_track (s : State) (x : FeedUnit) : (s.withFeed x).track = s.track := rfl
@[simp] theorem withFeed_gate (s : State) (x : FeedUnit) : (s.withFeed x).gate = s.gate := rfl
@[simp] theorem withFeed_pulses (s : State) (x : FeedUnit) : (s.withFeed x).pulses = s.pulses := rfl
@[simp] theorem withFeed_tags (s : State) (x : FeedUnit) : (s.withFeed x).tags = s.tags := rfl
@[simp] theorem withFeed_supply (s : State) (x : FeedUnit) : (s.withFeed x).supply = s.supply := rfl
@[simp] theorem withFeed_clear (s : State) (x : FeedUnit) : (s.withFeed x).clear = s.clear := rfl
@[simp] theorem withFeed_feed (s : State) (x : FeedUnit) : (s.withFeed x).feed = x := rfl
@[simp] theorem withFeed_plan (s : State) (x : FeedUnit) : (s.withFeed x).plan = s.plan := rfl
@[simp] theorem withFeed_deliv (s : State) (x : FeedUnit) : (s.withFeed x).deliv = s.deliv := rfl
@[simp] theorem withFeed_line (s : State) (x : FeedUnit) : (s.withFeed x).line = s.line := rfl
@[simp] theorem withFeed_notices (s : State) (x : FeedUnit) : (s.withFeed x).notices = s.notices := rfl
@[simp] theorem withFeed_reply (s : State) (x : FeedUnit) : (s.withFeed x).reply = s.reply := rfl
@[simp] theorem withFeed_pending (s : State) (x : FeedUnit) : (s.withFeed x).pending = s.pending := rfl

@[simp] theorem withPlan_cfg (s : State) (x : PlanUnit) : (s.withPlan x).cfg = s.cfg := rfl
@[simp] theorem withPlan_pins (s : State) (x : PlanUnit) : (s.withPlan x).pins = s.pins := rfl
@[simp] theorem withPlan_stop (s : State) (x : PlanUnit) : (s.withPlan x).stop = s.stop := rfl
@[simp] theorem withPlan_stations (s : State) (x : PlanUnit) : (s.withPlan x).stations = s.stations := rfl
@[simp] theorem withPlan_zones (s : State) (x : PlanUnit) : (s.withPlan x).zones = s.zones := rfl
@[simp] theorem withPlan_chain (s : State) (x : PlanUnit) : (s.withPlan x).chain = s.chain := rfl
@[simp] theorem withPlan_track (s : State) (x : PlanUnit) : (s.withPlan x).track = s.track := rfl
@[simp] theorem withPlan_gate (s : State) (x : PlanUnit) : (s.withPlan x).gate = s.gate := rfl
@[simp] theorem withPlan_pulses (s : State) (x : PlanUnit) : (s.withPlan x).pulses = s.pulses := rfl
@[simp] theorem withPlan_tags (s : State) (x : PlanUnit) : (s.withPlan x).tags = s.tags := rfl
@[simp] theorem withPlan_supply (s : State) (x : PlanUnit) : (s.withPlan x).supply = s.supply := rfl
@[simp] theorem withPlan_clear (s : State) (x : PlanUnit) : (s.withPlan x).clear = s.clear := rfl
@[simp] theorem withPlan_feed (s : State) (x : PlanUnit) : (s.withPlan x).feed = s.feed := rfl
@[simp] theorem withPlan_plan (s : State) (x : PlanUnit) : (s.withPlan x).plan = x := rfl
@[simp] theorem withPlan_deliv (s : State) (x : PlanUnit) : (s.withPlan x).deliv = s.deliv := rfl
@[simp] theorem withPlan_line (s : State) (x : PlanUnit) : (s.withPlan x).line = s.line := rfl
@[simp] theorem withPlan_notices (s : State) (x : PlanUnit) : (s.withPlan x).notices = s.notices := rfl
@[simp] theorem withPlan_reply (s : State) (x : PlanUnit) : (s.withPlan x).reply = s.reply := rfl
@[simp] theorem withPlan_pending (s : State) (x : PlanUnit) : (s.withPlan x).pending = s.pending := rfl

@[simp] theorem withDeliv_cfg (s : State) (x : DeliveryUnit) : (s.withDeliv x).cfg = s.cfg := rfl
@[simp] theorem withDeliv_pins (s : State) (x : DeliveryUnit) : (s.withDeliv x).pins = s.pins := rfl
@[simp] theorem withDeliv_stop (s : State) (x : DeliveryUnit) : (s.withDeliv x).stop = s.stop := rfl
@[simp] theorem withDeliv_stations (s : State) (x : DeliveryUnit) : (s.withDeliv x).stations = s.stations := rfl
@[simp] theorem withDeliv_zones (s : State) (x : DeliveryUnit) : (s.withDeliv x).zones = s.zones := rfl
@[simp] theorem withDeliv_chain (s : State) (x : DeliveryUnit) : (s.withDeliv x).chain = s.chain := rfl
@[simp] theorem withDeliv_track (s : State) (x : DeliveryUnit) : (s.withDeliv x).track = s.track := rfl
@[simp] theorem withDeliv_gate (s : State) (x : DeliveryUnit) : (s.withDeliv x).gate = s.gate := rfl
@[simp] theorem withDeliv_pulses (s : State) (x : DeliveryUnit) : (s.withDeliv x).pulses = s.pulses := rfl
@[simp] theorem withDeliv_tags (s : State) (x : DeliveryUnit) : (s.withDeliv x).tags = s.tags := rfl
@[simp] theorem withDeliv_supply (s : State) (x : DeliveryUnit) : (s.withDeliv x).supply = s.supply := rfl
@[simp] theorem withDeliv_clear (s : State) (x : DeliveryUnit) : (s.withDeliv x).clear = s.clear := rfl
@[simp] theorem withDeliv_feed (s : State) (x : DeliveryUnit) : (s.withDeliv x).feed = s.feed := rfl
@[simp] theorem withDeliv_plan (s : State) (x : DeliveryUnit) : (s.withDeliv x).plan = s.plan := rfl
@[simp] theorem withDeliv_deliv (s : State) (x : DeliveryUnit) : (s.withDeliv x).deliv = x := rfl
@[simp] theorem withDeliv_line (s : State) (x : DeliveryUnit) : (s.withDeliv x).line = s.line := rfl
@[simp] theorem withDeliv_notices (s : State) (x : DeliveryUnit) : (s.withDeliv x).notices = s.notices := rfl
@[simp] theorem withDeliv_reply (s : State) (x : DeliveryUnit) : (s.withDeliv x).reply = s.reply := rfl
@[simp] theorem withDeliv_pending (s : State) (x : DeliveryUnit) : (s.withDeliv x).pending = s.pending := rfl

@[simp] theorem withLine_cfg (s : State) (x : LineUnit) : (s.withLine x).cfg = s.cfg := rfl
@[simp] theorem withLine_pins (s : State) (x : LineUnit) : (s.withLine x).pins = s.pins := rfl
@[simp] theorem withLine_stop (s : State) (x : LineUnit) : (s.withLine x).stop = s.stop := rfl
@[simp] theorem withLine_stations (s : State) (x : LineUnit) : (s.withLine x).stations = s.stations := rfl
@[simp] theorem withLine_zones (s : State) (x : LineUnit) : (s.withLine x).zones = s.zones := rfl
@[simp] theorem withLine_chain (s : State) (x : LineUnit) : (s.withLine x).chain = s.chain := rfl
@[simp] theorem withLine_track (s : State) (x : LineUnit) : (s.withLine x).track = s.track := rfl
@[simp] theorem withLine_gate (s : State) (x : LineUnit) : (s.withLine x).gate = s.gate := rfl
@[simp] theorem withLine_pulses (s : State) (x : LineUnit) : (s.withLine x).pulses = s.pulses := rfl
@[simp] theorem withLine_tags (s : State) (x : LineUnit) : (s.withLine x).tags = s.tags := rfl
@[simp] theorem withLine_supply (s : State) (x : LineUnit) : (s.withLine x).supply = s.supply := rfl
@[simp] theorem withLine_clear (s : State) (x : LineUnit) : (s.withLine x).clear = s.clear := rfl
@[simp] theorem withLine_feed (s : State) (x : LineUnit) : (s.withLine x).feed = s.feed := rfl
@[simp] theorem withLine_plan (s : State) (x : LineUnit) : (s.withLine x).plan = s.plan := rfl
@[simp] theorem withLine_deliv (s : State) (x : LineUnit) : (s.withLine x).deliv = s.deliv := rfl
@[simp] theorem withLine_line (s : State) (x : LineUnit) : (s.withLine x).line = x := rfl
@[simp] theorem withLine_notices (s : State) (x : LineUnit) : (s.withLine x).notices = s.notices := rfl
@[simp] theorem withLine_reply (s : State) (x : LineUnit) : (s.withLine x).reply = s.reply := rfl
@[simp] theorem withLine_pending (s : State) (x : LineUnit) : (s.withLine x).pending = s.pending := rfl

@[simp] theorem withNotices_cfg (s : State) (x : Vector NoticeState 12) : (s.withNotices x).cfg = s.cfg := rfl
@[simp] theorem withNotices_pins (s : State) (x : Vector NoticeState 12) : (s.withNotices x).pins = s.pins := rfl
@[simp] theorem withNotices_stop (s : State) (x : Vector NoticeState 12) : (s.withNotices x).stop = s.stop := rfl
@[simp] theorem withNotices_stations (s : State) (x : Vector NoticeState 12) : (s.withNotices x).stations = s.stations := rfl
@[simp] theorem withNotices_zones (s : State) (x : Vector NoticeState 12) : (s.withNotices x).zones = s.zones := rfl
@[simp] theorem withNotices_chain (s : State) (x : Vector NoticeState 12) : (s.withNotices x).chain = s.chain := rfl
@[simp] theorem withNotices_track (s : State) (x : Vector NoticeState 12) : (s.withNotices x).track = s.track := rfl
@[simp] theorem withNotices_gate (s : State) (x : Vector NoticeState 12) : (s.withNotices x).gate = s.gate := rfl
@[simp] theorem withNotices_pulses (s : State) (x : Vector NoticeState 12) : (s.withNotices x).pulses = s.pulses := rfl
@[simp] theorem withNotices_tags (s : State) (x : Vector NoticeState 12) : (s.withNotices x).tags = s.tags := rfl
@[simp] theorem withNotices_supply (s : State) (x : Vector NoticeState 12) : (s.withNotices x).supply = s.supply := rfl
@[simp] theorem withNotices_clear (s : State) (x : Vector NoticeState 12) : (s.withNotices x).clear = s.clear := rfl
@[simp] theorem withNotices_feed (s : State) (x : Vector NoticeState 12) : (s.withNotices x).feed = s.feed := rfl
@[simp] theorem withNotices_plan (s : State) (x : Vector NoticeState 12) : (s.withNotices x).plan = s.plan := rfl
@[simp] theorem withNotices_deliv (s : State) (x : Vector NoticeState 12) : (s.withNotices x).deliv = s.deliv := rfl
@[simp] theorem withNotices_line (s : State) (x : Vector NoticeState 12) : (s.withNotices x).line = s.line := rfl
@[simp] theorem withNotices_notices (s : State) (x : Vector NoticeState 12) : (s.withNotices x).notices = x := rfl
@[simp] theorem withNotices_reply (s : State) (x : Vector NoticeState 12) : (s.withNotices x).reply = s.reply := rfl
@[simp] theorem withNotices_pending (s : State) (x : Vector NoticeState 12) : (s.withNotices x).pending = s.pending := rfl

@[simp] theorem withReply_cfg (s : State) (x : Option Reply) : (s.withReply x).cfg = s.cfg := rfl
@[simp] theorem withReply_pins (s : State) (x : Option Reply) : (s.withReply x).pins = s.pins := rfl
@[simp] theorem withReply_stop (s : State) (x : Option Reply) : (s.withReply x).stop = s.stop := rfl
@[simp] theorem withReply_stations (s : State) (x : Option Reply) : (s.withReply x).stations = s.stations := rfl
@[simp] theorem withReply_zones (s : State) (x : Option Reply) : (s.withReply x).zones = s.zones := rfl
@[simp] theorem withReply_chain (s : State) (x : Option Reply) : (s.withReply x).chain = s.chain := rfl
@[simp] theorem withReply_track (s : State) (x : Option Reply) : (s.withReply x).track = s.track := rfl
@[simp] theorem withReply_gate (s : State) (x : Option Reply) : (s.withReply x).gate = s.gate := rfl
@[simp] theorem withReply_pulses (s : State) (x : Option Reply) : (s.withReply x).pulses = s.pulses := rfl
@[simp] theorem withReply_tags (s : State) (x : Option Reply) : (s.withReply x).tags = s.tags := rfl
@[simp] theorem withReply_supply (s : State) (x : Option Reply) : (s.withReply x).supply = s.supply := rfl
@[simp] theorem withReply_clear (s : State) (x : Option Reply) : (s.withReply x).clear = s.clear := rfl
@[simp] theorem withReply_feed (s : State) (x : Option Reply) : (s.withReply x).feed = s.feed := rfl
@[simp] theorem withReply_plan (s : State) (x : Option Reply) : (s.withReply x).plan = s.plan := rfl
@[simp] theorem withReply_deliv (s : State) (x : Option Reply) : (s.withReply x).deliv = s.deliv := rfl
@[simp] theorem withReply_line (s : State) (x : Option Reply) : (s.withReply x).line = s.line := rfl
@[simp] theorem withReply_notices (s : State) (x : Option Reply) : (s.withReply x).notices = s.notices := rfl
@[simp] theorem withReply_reply (s : State) (x : Option Reply) : (s.withReply x).reply = x := rfl
@[simp] theorem withReply_pending (s : State) (x : Option Reply) : (s.withReply x).pending = s.pending := rfl

@[simp] theorem withPending_cfg (s : State) (x : List Instr) : (s.withPending x).cfg = s.cfg := rfl
@[simp] theorem withPending_pins (s : State) (x : List Instr) : (s.withPending x).pins = s.pins := rfl
@[simp] theorem withPending_stop (s : State) (x : List Instr) : (s.withPending x).stop = s.stop := rfl
@[simp] theorem withPending_stations (s : State) (x : List Instr) : (s.withPending x).stations = s.stations := rfl
@[simp] theorem withPending_zones (s : State) (x : List Instr) : (s.withPending x).zones = s.zones := rfl
@[simp] theorem withPending_chain (s : State) (x : List Instr) : (s.withPending x).chain = s.chain := rfl
@[simp] theorem withPending_track (s : State) (x : List Instr) : (s.withPending x).track = s.track := rfl
@[simp] theorem withPending_gate (s : State) (x : List Instr) : (s.withPending x).gate = s.gate := rfl
@[simp] theorem withPending_pulses (s : State) (x : List Instr) : (s.withPending x).pulses = s.pulses := rfl
@[simp] theorem withPending_tags (s : State) (x : List Instr) : (s.withPending x).tags = s.tags := rfl
@[simp] theorem withPending_supply (s : State) (x : List Instr) : (s.withPending x).supply = s.supply := rfl
@[simp] theorem withPending_clear (s : State) (x : List Instr) : (s.withPending x).clear = s.clear := rfl
@[simp] theorem withPending_feed (s : State) (x : List Instr) : (s.withPending x).feed = s.feed := rfl
@[simp] theorem withPending_plan (s : State) (x : List Instr) : (s.withPending x).plan = s.plan := rfl
@[simp] theorem withPending_deliv (s : State) (x : List Instr) : (s.withPending x).deliv = s.deliv := rfl
@[simp] theorem withPending_line (s : State) (x : List Instr) : (s.withPending x).line = s.line := rfl
@[simp] theorem withPending_notices (s : State) (x : List Instr) : (s.withPending x).notices = s.notices := rfl
@[simp] theorem withPending_reply (s : State) (x : List Instr) : (s.withPending x).reply = s.reply := rfl
@[simp] theorem withPending_pending (s : State) (x : List Instr) : (s.withPending x).pending = x := rfl

end Sys2Proof.Machine.State
end

