-- ==== Sys2Proof/Laws/Frames.lean ====
section
/-! SUPPORT. Which parts of State each shared operation may change: one lemma per operation, cited in place of unfolding it. -/

namespace Sys2Proof.Machine

theorem changesOnly.refl (l : List Part) (s : State) : changesOnly l s s := by
  intro p _; cases p <;> rfl

theorem changesOnly.mono {l m : List Part} {s t : State} (h : changesOnly l s t) (hs : l ⊆ m) :
    changesOnly m s t := fun p hp => h p fun hl => hp (hs hl)

theorem changesOnly.trans {l : List Part} {s t u : State} (h : changesOnly l s t)
    (k : changesOnly l t u) : changesOnly l s u := by
  intro p hp
  have h1 := h p hp
  have h2 := k p hp
  cases p <;> exact Eq.trans h2 h1

/-- Two operations in a row, each within its own parts. -/
theorem changesOnly.comp {l m n : List Part} {s t u : State} (h : changesOnly l s t)
    (k : changesOnly m t u) (hl : l ⊆ n) (hm : m ⊆ n) : changesOnly n s u :=
  (h.mono hl).trans (k.mono hm)

/-- A fold of operations that each stay within the parts. -/
theorem changesOnly.foldl {α : Type} {l : List Part} (f : State → α → State)
    (h : ∀ s a, changesOnly l s (f s a)) (as : List α) (s : State) :
    changesOnly l s (as.foldl f s) := by
  induction as generalizing s with
  | nil => exact .refl l s
  | cons a as ih => exact (h s a).trans (ih (f s a))

/-! ### Named updates -/

theorem State.withCfg_only (s : State) (x : Configuration) : changesOnly [.cfg] s (s.withCfg x) := by
  intro p hp; cases p <;> first | rfl | simp at hp

theorem State.withPins_only (s : State) (x : Pins) : changesOnly [.pins] s (s.withPins x) := by
  intro p hp; cases p <;> first | rfl | simp at hp

theorem State.withStop_only (s : State) (x : StopUnit) : changesOnly [.stop] s (s.withStop x) := by
  intro p hp; cases p <;> first | rfl | simp at hp

theorem State.withStations_only (s : State) (x : Quad Station) : changesOnly [.stations] s (s.withStations x) := by
  intro p hp; cases p <;> first | rfl | simp at hp

theorem State.withZones_only (s : State) (x : Trio Zone) : changesOnly [.zones] s (s.withZones x) := by
  intro p hp; cases p <;> first | rfl | simp at hp

theorem State.withChain_only (s : State) (x : Chain) : changesOnly [.chain] s (s.withChain x) := by
  intro p hp; cases p <;> first | rfl | simp at hp

theorem State.withTrack_only (s : State) (x : TrackUnit) : changesOnly [.track] s (s.withTrack x) := by
  intro p hp; cases p <;> first | rfl | simp at hp

theorem State.withGate_only (s : State) (x : GateUnit) : changesOnly [.gate] s (s.withGate x) := by
  intro p hp; cases p <;> first | rfl | simp at hp

theorem State.withPulses_only (s : State) (x : Duo Pulse) : changesOnly [.pulses] s (s.withPulses x) := by
  intro p hp; cases p <;> first | rfl | simp at hp

theorem State.withTags_only (s : State) (x : TagUnit) : changesOnly [.tags] s (s.withTags x) := by
  intro p hp; cases p <;> first | rfl | simp at hp

theorem State.withSupply_only (s : State) (x : SupplyUnit) : changesOnly [.supply] s (s.withSupply x) := by
  intro p hp; cases p <;> first | rfl | simp at hp

theorem State.withClear_only (s : State) (x : ClearUnit) : changesOnly [.clear] s (s.withClear x) := by
  intro p hp; cases p <;> first | rfl | simp at hp

theorem State.withFeed_only (s : State) (x : FeedUnit) : changesOnly [.feed] s (s.withFeed x) := by
  intro p hp; cases p <;> first | rfl | simp at hp

theorem State.withPlan_only (s : State) (x : PlanUnit) : changesOnly [.plan] s (s.withPlan x) := by
  intro p hp; cases p <;> first | rfl | simp at hp

theorem State.withDeliv_only (s : State) (x : DeliveryUnit) : changesOnly [.deliv] s (s.withDeliv x) := by
  intro p hp; cases p <;> first | rfl | simp at hp

theorem State.withLine_only (s : State) (x : LineUnit) : changesOnly [.line] s (s.withLine x) := by
  intro p hp; cases p <;> first | rfl | simp at hp

theorem State.withNotices_only (s : State) (x : Vector NoticeState 12) : changesOnly [.notices] s (s.withNotices x) := by
  intro p hp; cases p <;> first | rfl | simp at hp

theorem State.withReply_only (s : State) (x : Option Reply) : changesOnly [.reply] s (s.withReply x) := by
  intro p hp; cases p <;> first | rfl | simp at hp

theorem State.withPending_only (s : State) (x : List Instr) : changesOnly [.pending] s (s.withPending x) := by
  intro p hp; cases p <;> first | rfl | simp at hp

/-! ### Small operations -/

theorem State.setZone_only (s : State) (z : ZoneId) (x : Zone) :
    changesOnly [.zones] s (s.setZone z x) := s.withZones_only _

theorem State.mapZones_only (s : State) (f : ZoneId → Zone → Zone) :
    changesOnly [.zones] s (s.mapZones f) := s.withZones_only _

theorem State.setStation_only (s : State) (k : StationId) (x : Station) :
    changesOnly [.stations] s (s.setStation k x) := s.withStations_only _

theorem State.setPulse_only (s : State) (p : PulseId) (x : Pulse) :
    changesOnly [.pulses] s (s.setPulse p x) := s.withPulses_only _

theorem State.withTable_only (s : State) (t : List Entry) :
    changesOnly [.track] s (s.withTable t) := s.withTrack_only _

theorem State.withArrivals_only (s : State) (a : List Arrival) :
    changesOnly [.track] s (s.withArrivals a) := s.withTrack_only _

theorem State.withOrphan_only (s : State) (o : Option Nat) :
    changesOnly [.track] s (s.withOrphan o) := s.withTrack_only _

theorem State.mapEntry_only (s : State) (sheet : Nat) (f : Entry → Entry) :
    changesOnly [.track] s (s.mapEntry sheet f) := s.withTrack_only _

theorem State.countStale_only (s : State) : changesOnly [.line] s s.countStale := s.withLine_only _

theorem State.latch_only (s : State) (n : Notice) : changesOnly [.notices] s (s.latch n) := by
  unfold State.latch; dsimp only; split
  · exact s.withNotices_only _
  · exact .refl _ _

theorem latchNew_only (before after : State) :
    changesOnly [.notices] after (latchNew before after) := by
  unfold latchNew
  refine changesOnly.foldl _ (fun s n => ?_) _ _
  split
  · exact s.latch_only n
  · exact .refl _ _

theorem State.push_only (s : State) (f : Frame) : changesOnly [.line] s (s.push f) :=
  s.withLine_only _

theorem State.place_only (s : State) (f : Frame) : changesOnly [.line] s (s.place f) := by
  unfold State.place; split
  · exact s.push_only f
  · exact s.withLine_only _

theorem State.jamcall_only (s : State) (x : Site) : changesOnly [.line] s (s.jamcall x) :=
  s.place_only _

/-! ### Zones and drive chain -/

theorem State.brakeAll_only (s : State) : changesOnly [.zones] s s.brakeAll := s.mapZones_only _
theorem State.fallAll_only (s : State) : changesOnly [.zones] s s.fallAll := s.mapZones_only _
theorem State.beginRises_only (s : State) : changesOnly [.zones] s s.beginRises := s.mapZones_only _

theorem State.pendRise_only (s : State) (z : ZoneId) :
    changesOnly [.zones, .chain] s (s.pendRise z) := by
  have h := (s.setZone_only z { s.zone z with risePending := true }).mono
    (m := [.zones, .chain]) (by decide)
  unfold State.pendRise; dsimp only; split
  · exact h.trans ((State.beginRises_only _).mono (by decide))
  · split
    · exact h.trans (((State.withChain_only _ _).mono (by decide)).trans
        ((State.beginRises_only _).mono (by decide)))
    · exact h.trans ((State.withChain_only _ _).mono (by decide))
  · split
    · exact h.trans ((State.withChain_only _ _).mono (by decide))
    · exact h
  · exact .refl _ _

theorem State.riseZone_only (s : State) (z : ZoneId) :
    changesOnly [.zones, .chain] s (s.riseZone z) := by
  unfold State.riseZone; split
  · exact .refl _ _
  · split
    · exact s.pendRise_only z
    · exact s.pendRise_only z
    · exact .refl _ _
    · exact .refl _ _
    · exact (s.setZone_only z _).mono (by decide)

theorem State.riseAll_only (s : State) : changesOnly [.zones, .chain] s s.riseAll :=
  ((s.riseZone_only _).trans (State.riseZone_only _ _)).trans (State.riseZone_only _ _)

theorem State.releaseChain_only (s : State) : changesOnly [.chain] s s.releaseChain := by
  unfold State.releaseChain; split
  · exact s.withChain_only _
  · exact .refl _ _

/-! ### Path state and stops -/

theorem State.latchPath_only (s : State) (p : PathState) :
    changesOnly [.notices] s (s.latchPath p) := by
  unfold State.latchPath; split
  · exact s.latch_only _
  · exact .refl _ _

/-- The parts that entering a path state may change. -/
def enterParts : List Part := [.stop, .feed, .track, .notices, .chain]

theorem State.leaveRun_only (s : State) (p : PathState) : changesOnly [.feed] s (s.leaveRun p) := by
  unfold State.leaveRun; split
  · exact s.withFeed_only _
  · exact .refl _ _

theorem State.leaveIdle_only (s : State) (p : PathState) :
    changesOnly [.feed, .track] s (s.leaveIdle p) := by
  unfold State.leaveIdle; split
  · exact .comp (s.withFeed_only _) (State.withTrack_only _ _) (by decide) (by decide)
  · exact .refl _ _

theorem State.notePath_only (s : State) (p : PathState) :
    changesOnly [.notices] s (s.notePath p) := by
  unfold State.notePath; split
  · exact .refl _ _
  · exact s.latchPath_only p

theorem State.setPath_only (s : State) (p : PathState) : changesOnly [.stop] s (s.setPath p) :=
  s.withStop_only _

theorem State.enter_only (s : State) (p : PathState) : changesOnly enterParts s (s.enter p) :=
  ((s.leaveRun_only p).mono (by decide)).trans (((State.leaveIdle_only _ p).mono (by decide)).trans
    (((State.notePath_only _ p).mono (by decide)).trans (((State.setPath_only _ p).mono
      (by decide)).trans ((State.releaseChain_only _).mono (by decide)))))

theorem State.ownCause_only (s : State) (c : Cause) (place sheet : Nat) :
    changesOnly [.stop] s (s.ownCause c place sheet) := s.withStop_only _

theorem State.joinSite_only (s : State) (c : Cause) (place sheet : Nat) :
    changesOnly [.stop, .line] s (s.joinSite c place sheet) :=
  ((s.ownCause_only c place sheet).mono (by decide)).trans
    (((State.withStop_only _ _).mono (by decide)).trans ((State.jamcall_only _ _).mono (by decide)))

theorem State.announceStance_only (s : State) (st : Stance) :
    changesOnly [.stop, .line] s (s.announceStance st) := by
  unfold State.announceStance; split
  · exact (s.push_only _).mono (by decide)
  · have h : changesOnly [.stop, .line] s (s.withLine { s.line with txOverflow := true }) :=
      (s.withLine_only _).mono (by decide)
    dsimp only; split
    · exact h.trans (State.joinSite_only _ _ _ _)
    · exact h

theorem State.dropDelays_only (s : State) : changesOnly [.pulses] s s.dropDelays :=
  s.withPulses_only _

theorem State.openedAtHalt_only (s : State) : changesOnly enterParts s s.openedAtHalt := by
  unfold State.openedAtHalt; split
  · exact s.enter_only _
  · exact .refl _ _

theorem State.enterHalted_only (s : State) : changesOnly stopParts s s.enterHalted :=
  ((s.enter_only _).mono (by decide)).trans (((State.dropDelays_only _).mono (by decide)).trans
    (((State.announceStance_only _ _).mono (by decide)).trans
      ((State.openedAtHalt_only _).mono (by decide))))

theorem State.restZones_only (s : State) : changesOnly [.zones] s s.restZones := by
  unfold State.restZones; split
  · exact s.brakeAll_only
  · exact s.fallAll_only

theorem State.haltTest_only (s : State) : changesOnly stopParts s s.haltTest := by
  unfold State.haltTest; split
  · exact s.enterHalted_only
  · exact (s.announceStance_only _).mono (by decide)

theorem State.enterHalting_only (s : State) : changesOnly stopParts s s.enterHalting :=
  ((s.enter_only _).mono (by decide)).trans (((State.restZones_only _).mono (by decide)).trans
    (State.haltTest_only _))

theorem State.zonesChanged_only (s : State) : changesOnly stopParts s s.zonesChanged := by
  unfold State.zonesChanged; split
  · exact s.enterHalted_only
  · exact s.releaseChain_only.mono (by decide)

theorem State.haltAheadTest_only (s : State) : changesOnly stopParts s s.haltAheadTest := by
  unfold State.haltAheadTest; split
  · exact s.enterHalting_only
  · exact .refl _ _

theorem State.drainTest_only (s : State) : changesOnly stopParts s s.drainTest := by
  unfold State.drainTest; split
  · exact s.enterHalting_only
  · exact .refl _ _

theorem State.afterJoin_only (s : State) (before : Option OwnCause) :
    changesOnly stopParts s (s.afterJoin before) := by
  unfold State.afterJoin; split
  · exact s.enterHalting_only
  · split
    · exact ((s.brakeAll_only).mono (by decide)).trans (State.zonesChanged_only _)
    · exact .refl _ _

theorem State.joinStop_only (s : State) (c : Cause) (place sheet : Nat) :
    changesOnly stopParts s (s.joinStop c place sheet) :=
  ((s.joinSite_only c place sheet).mono (by decide)).trans (State.afterJoin_only _ _)

theorem State.announceFlush_only (s : State) : changesOnly stopParts s s.announceFlush := by
  unfold State.announceFlush; split
  · exact (s.push_only _).mono (by decide)
  · exact ((s.withLine_only _).mono (by decide)).trans (State.joinStop_only _ _ _ _)

theorem State.enterFlush_only (s : State) : changesOnly stopParts s s.enterFlush :=
  ((s.enter_only _).mono (by decide)).trans ((State.announceFlush_only _).trans
    ((State.haltAheadTest_only _).trans (State.drainTest_only _)))

theorem State.newStop_only (s : State) (epoch : Nat) (x : Site) :
    changesOnly [.stop, .tags, .clear, .plan] s (s.newStop epoch x) :=
  ((s.withStop_only _).mono (by decide)).trans (((State.withTags_only _ _).mono (by decide)).trans
    (((State.withClear_only _ _).mono (by decide)).trans
      ((State.withPlan_only _ _).mono (by decide))))

theorem State.takeStance_only (s : State) (p : PathState) :
    changesOnly stopParts s (s.takeStance p) := by
  unfold State.takeStance; split
  · exact s.enterHalting_only
  · exact s.enterFlush_only

theorem State.stopStart_only (s : State) (epoch : Nat) (x : Site) :
    changesOnly stopParts s (s.stopStart epoch x) :=
  ((s.newStop_only epoch x).mono (by decide)).trans (State.takeStance_only _ _)

theorem State.startStop_only (s : State) (c : Cause) (place sheet : Nat) :
    changesOnly stopParts s (s.startStop c place sheet) :=
  ((s.ownCause_only c place sheet).mono (by decide)).trans
    ((State.stopStart_only _ _ _).trans ((State.jamcall_only _ _).mono (by decide)))

theorem State.raise_only (s : State) (c : Cause) (place sheet : Nat) :
    changesOnly stopParts s (s.raise c place sheet) := by
  unfold State.raise; split
  · split
    · exact s.startStop_only c place sheet
    · exact s.startStop_only c place sheet
    · exact s.joinStop_only c place sheet
    · exact s.joinStop_only c place sheet
    all_goals exact .refl _ _
  · exact .refl _ _

/-- A cause that the path state drops changes nothing (R45). -/
theorem State.raise_dropped (s : State) (c : Cause) (place sheet : Nat)
    (h : c.takesEffect s.stop.path = false) : s.raise c place sheet = s := by
  simp [State.raise, h]

theorem State.raiseFrom_only (s : State) (p : PathState) (c : Cause) (place sheet : Nat) :
    changesOnly stopParts s (s.raiseFrom p c place sheet) := by
  unfold State.raiseFrom; split
  · exact (s.joinSite_only c place sheet).mono (by decide)
  · exact s.raise_only c place sheet

/-- A cause raised as the first of its command is raised as such (R51, R52). -/
theorem State.raiseFrom_first (s : State) (c : Cause) (place sheet : Nat) :
    s.raiseFrom s.stop.path c place sheet = s.raise c place sheet := by
  unfold State.raiseFrom Cause.joinsAtRest
  cases h : s.stop.path <;> cases c <;> simp [Cause.takesEffect]

/-- A cause of a node that was not in RUN, FLUSH or HALTING does not join at rest (R45). -/
theorem State.raiseFrom_raise (s : State) (p : PathState) (c : Cause) (place sheet : Nat)
    (h : s.stop.path ≠ .halted ∧ s.stop.path ≠ .clearing) :
    s.raiseFrom p c place sheet = s.raise c place sheet := by
  simp [State.raiseFrom, Cause.joinsAtRest, h]

theorem State.queueFrame_only (s : State) (p : PathState) (f : Frame) :
    changesOnly stopParts s (s.queueFrame p f) := by
  unfold State.queueFrame; split
  · exact (s.push_only f).mono (by decide)
  · exact ((s.withLine_only _).mono (by decide)).trans (State.raiseFrom_only _ _ _ _ _)

theorem State.takeFrame_only {s t : State} {k : FrameKind} {f : Frame}
    (h : s.takeFrame k = some (f, t)) : changesOnly [.line] s t := by
  unfold State.takeFrame at h; split at h
  · cases h
  · split at h
    · cases h; exact s.withLine_only _
    · cases h

/-! ### Tests -/

theorem State.wantZone_only (s : State) (z : ZoneId) :
    changesOnly [.zones, .chain] s (s.wantZone z) := by
  unfold State.wantZone; split
  · exact s.riseZone_only z
  · exact .refl _ _

theorem State.feedTest_only (s : State) : changesOnly [.zones, .chain] s s.feedTest := by
  unfold State.feedTest; split
  · exact ((s.wantZone_only _).trans (State.wantZone_only _ _)).trans (State.wantZone_only _ _)
  · exact .refl _ _

theorem State.idleFallTest_only (s : State) :
    changesOnly [.zones, .chain, .track] s s.idleFallTest := by
  unfold State.idleFallTest; split
  · exact ((State.fallAll_only _).mono (by decide)).trans
      (((State.withTrack_only _ _).mono (by decide)).trans
        ((State.releaseChain_only _).mono (by decide)))
  · exact .refl _ _

theorem State.leftTests_only (s : State) : changesOnly stopParts s s.leftTests :=
  (s.drainTest_only).trans (((State.idleFallTest_only _).mono (by decide)).trans
    ((State.feedTest_only _).mono (by decide)))

end Sys2Proof.Machine
end

