-- ==== Sys2Proof/Laws/OpFrames.lean ====
section
/-! SUPPORT. Which parts of State the operations of each unit may change. -/

namespace Sys2Proof.Machine

/-! ### Gate and pulses -/

theorem State.gateService_only (s : State) : changesOnly [.gate] s s.gateService := by
  unfold State.gateService; split
  · exact .refl _ _
  · split
    · exact .refl _ _
    · split
      · exact s.withGate_only _
      · exact .refl _ _

theorem State.leaveClaim_only (s : State) (sheet : Nat) :
    changesOnly [.gate] s (s.leaveClaim sheet) := by
  unfold State.leaveClaim; split
  · exact (s.withGate_only _).trans (State.gateService_only _)
  · exact .refl _ _

theorem State.makeClaim_only (s : State) (sheet : Nat) :
    changesOnly (.gate :: stopParts) s (s.makeClaim sheet) := by
  unfold State.makeClaim; split
  · exact .refl _ _
  · split
    · exact .refl _ _
    · split
      · split
        · exact (s.withGate_only _).mono (by decide)
        · exact .refl _ _
      · split
        · exact (s.raise_only _ _ _).mono (by decide)
        · exact ((s.withGate_only _).mono (by decide)).trans
            (((State.mapEntry_only _ _ _).mono (by decide)).trans
              ((State.gateService_only _).mono (by decide)))

theorem State.guardAtEdge_only (s : State) (sheet : Nat) :
    changesOnly stopParts s (s.guardAtEdge sheet) := by
  unfold State.guardAtEdge; split
  · exact s.raise_only _ _ _
  · exact .refl _ _

theorem State.guardTests_only (s : State) : changesOnly stopParts s s.guardTests := by
  unfold State.guardTests
  refine changesOnly.foldl _ (fun t c => ?_) _ _
  split
  · exact t.raise_only _ _ _
  · exact .refl _ _

theorem State.imageRule_only (s : State) (sheet : Nat) :
    changesOnly stopParts s (s.imageRule sheet) := by
  unfold State.imageRule; split
  · exact .refl _ _
  · split
    · exact ((s.mapEntry_only _ _).mono (by decide)).trans (State.haltAheadTest_only _)
    · exact .refl _ _

theorem State.releaseSheet_only (s : State) (sheet : Nat) :
    changesOnly stopParts s (s.releaseSheet sheet) :=
  ((s.mapEntry_only _ _).mono (by decide)).trans (State.imageRule_only _ _)

theorem State.startPulse_only (s : State) (p : PulseId) (d : PulseDelay) :
    changesOnly stopParts s (s.startPulse p d) := by
  unfold State.startPulse; dsimp only; split
  · exact ((s.setPulse_only _ _).mono (by decide)).trans (State.releaseSheet_only _ _)
  · exact (s.setPulse_only _ _).mono (by decide)

theorem State.completeDelay_only (s : State) (p : PulseId) :
    changesOnly stopParts s (s.completeDelay p) := by
  unfold State.completeDelay; split
  · split
    · exact s.startPulse_only _ _
    · exact .refl _ _
  · exact .refl _ _

theorem State.takeTrigger_only (s : State) (p : PulseId) (a b sheet : Nat) :
    changesOnly stopParts s (s.takeTrigger p a b sheet) := by
  unfold State.takeTrigger; split
  · exact s.raise_only _ _ _
  · exact ((s.setPulse_only _ _).mono (by decide)).trans (State.completeDelay_only _ _)

theorem State.trigger_only (s : State) (p : PulseId) (a b sheet : Nat) :
    changesOnly stopParts s (s.trigger p a b sheet) :=
  (s.completeDelay_only p).trans (State.takeTrigger_only _ _ _ _ _)

theorem State.stationTrigger_only (s : State) (p : PulseId) (k : StationId) (edge : TriggerEdge)
    (r : SheetRecord) : changesOnly stopParts s (s.stationTrigger p k edge r) := by
  unfold State.stationTrigger; dsimp only; split
  · exact s.trigger_only _ _ _ _
  · exact .refl _ _

theorem State.edgeTriggers_only (s : State) (k : StationId) (edge : TriggerEdge) (sheet : Nat) :
    changesOnly stopParts s (s.edgeTriggers k edge sheet) := by
  unfold State.edgeTriggers; split
  · exact .refl _ _
  · exact (s.stationTrigger_only _ _ _ _).trans (State.stationTrigger_only _ _ _ _ _)

theorem State.endWidth_only (s : State) (p : PulseId) : changesOnly stopParts s (s.endWidth p) := by
  unfold State.endWidth; split
  · exact .refl _ _
  · exact ((s.setPulse_only _ _).mono (by decide)).trans (State.completeDelay_only _ _)

/-! ### Delivery -/

theorem State.reject_only (s : State) (r : SheetRecord) (why : RejectReason) :
    changesOnly [.deliv] s (s.reject r why) := s.withDeliv_only _

/-- The parts that the delivery unit may change. -/
def delivParts : List Part := .deliv :: stopParts

theorem State.announce_only (s : State) (p : PathState) (a : Announcement) :
    changesOnly delivParts s (s.announce p a) := by
  unfold State.announce; split
  · exact (s.withDeliv_only _).mono (by decide)
  · exact (s.raiseFrom_only _ _ _ _).mono (by decide)

theorem State.startOp_only (s : State) (op : FinishOp) : changesOnly [.deliv] s (s.startOp op) :=
  s.withDeliv_only _

theorem State.endOp_only (s : State) : changesOnly [.deliv] s s.endOp := s.withDeliv_only _

theorem State.stapleTest_only (s : State) : changesOnly [.deliv] s s.stapleTest := by
  unfold State.stapleTest; split
  · split
    · exact (s.withDeliv_only _).trans (State.startOp_only _ _)
    · exact .refl _ _
  · exact .refl _ _

theorem State.compileSheet_only (s : State) (p : PathState) (r : SheetRecord) :
    changesOnly delivParts s (s.compileSheet p r) := by
  unfold State.compileSheet; split
  · exact (s.raise_only _ _ _).mono (by decide)
  · exact ((s.withDeliv_only _).mono (by decide)).trans ((State.announce_only _ _ _).trans
      ((State.stapleTest_only _).mono (by decide)))

theorem State.takeRecord_only (s : State) (p : PathState) (r : SheetRecord) :
    changesOnly delivParts s (s.takeRecord p r) := by
  unfold State.takeRecord; split
  · exact (s.reject_only _ _).mono (by decide)
  · split
    · exact s.announce_only _ _
    · split
      · exact (s.reject_only _ _).mono (by decide)
      · split
        · exact (s.reject_only _ _).mono (by decide)
        · exact s.announce_only _ _
    · split
      · exact (s.reject_only _ _).mono (by decide)
      · split
        · exact (s.reject_only _ _).mono (by decide)
        · exact s.compileSheet_only _ _
    all_goals exact .refl _ _

theorem State.stapleDone_only (s : State) : changesOnly delivParts s s.stapleDone := by
  have h : changesOnly delivParts s (s.endOp.withDeliv
      { s.endOp.deliv with compile := s.deliv.compile.drop s.deliv.stapleCount }) :=
    .comp s.endOp_only (State.withDeliv_only _ _) (by decide) (by decide)
  unfold State.stapleDone; dsimp only; split
  · exact h.trans ((State.stapleTest_only _).mono (by decide))
  · exact h.trans ((State.announce_only _ _ _).trans ((State.stapleTest_only _).mono (by decide)))

theorem State.opFailed_only (s : State) : changesOnly [.deliv] s s.opFailed :=
  s.endOp_only.trans (State.withDeliv_only _ _)

/-! ### Edges -/

/-- The parts that an entry's leaving may change. -/
def leaveParts : List Part := .gate :: stopParts

theorem State.removeEntry_only (s : State) (sheet : Nat) :
    changesOnly leaveParts s (s.removeEntry sheet) :=
  ((s.withTable_only _).mono (by decide)).trans (((State.leaveClaim_only _ _).mono (by decide)).trans
    ((State.leftTests_only _).mono (by decide)))

theorem State.handOn_only (s : State) (sheet : Nat) : changesOnly leaveParts s (s.handOn sheet) := by
  unfold State.handOn; split
  · exact .refl _ _
  · split
    · exact (s.mapEntry_only _ _).mono (by decide)
    · exact s.removeEntry_only _

theorem State.sendPass_only (s : State) (p : PathState) (e : Entry) :
    changesOnly leaveParts s (s.sendPass p e) :=
  ((s.queueFrame_only _ _).mono (by decide)).trans (State.handOn_only _ _)

theorem State.claimAt_only (s : State) (k : StationId) (sheet : Nat) :
    changesOnly leaveParts s (s.claimAt k sheet) := by
  unfold State.claimAt; split
  · exact s.makeClaim_only _
  · exact .refl _ _

theorem State.imageAt_only (s : State) (k : StationId) (sheet : Nat) :
    changesOnly stopParts s (s.imageAt k sheet) := by
  unfold State.imageAt; split
  · exact s.imageRule_only _
  · exact .refl _ _

theorem State.afterLead_only (s : State) (k : StationId) (sheet : Nat) :
    changesOnly leaveParts s (s.afterLead k sheet) :=
  (s.claimAt_only k sheet).trans (((State.guardAtEdge_only _ _).mono (by decide)).trans
    (((State.edgeTriggers_only _ _ _ _).mono (by decide)).trans
      (((State.imageAt_only _ _ _).mono (by decide)).trans
        (((State.haltAheadTest_only _).mono (by decide)).trans
          ((State.leftTests_only _).mono (by decide))))))

theorem State.discardTests_only (s : State) (l : List Arrival) :
    changesOnly leaveParts s (s.discardTests l) := by
  unfold State.discardTests; split
  · exact .refl _ _
  · exact (State.leftTests_only _).mono (by decide)

theorem State.leadS1_only (s : State) (p : PathState) : changesOnly leaveParts s (s.leadS1 p) := by
  unfold State.leadS1; split
  · exact ((s.withTrack_only _).mono (by decide)).trans (State.afterLead_only _ _ _)
  · exact ((s.withArrivals_only _).mono (by decide)).trans
      ((State.raiseFrom_only _ _ _ _ _).mono (by decide))
  · split
    · exact ((s.withArrivals_only _).mono (by decide)).trans
        ((State.raise_only _ _ _ _).mono (by decide))
    · exact ((s.withTrack_only _).mono (by decide)).trans (State.discardTests_only _ _)

theorem State.leadBeyond_only (s : State) (k : StationId) :
    changesOnly leaveParts s (s.leadBeyond k) := by
  unfold State.leadBeyond; split
  · exact (s.raise_only _ _ _).mono (by decide)
  · exact ((s.mapEntry_only _ _).mono (by decide)).trans (State.afterLead_only _ _ _)

theorem State.gapTest_only (s : State) (k : StationId) (gap sheet : Nat) :
    changesOnly stopParts s (s.gapTest k gap sheet) := by
  unfold State.gapTest; split
  · exact s.raise_only _ _ _
  · exact .refl _ _

theorem State.matchLead_only (s : State) (p : PathState) (k : StationId) :
    changesOnly leaveParts s (s.matchLead p k) := by
  unfold State.matchLead; split
  · exact s.leadS1_only _
  all_goals exact s.leadBeyond_only _

theorem State.leadingEdge_only (s : State) (k : StationId) (still : Bool) :
    changesOnly edgeParts s (s.leadingEdge k still) :=
  ((s.setStation_only _ _).mono (by decide)).trans (((State.gapTest_only _ _ _ _).mono
    (by decide)).trans ((State.matchLead_only _ _ _).mono (by decide)))

theorem State.passTrail_only (s : State) (k : StationId) (sheet : Nat) :
    changesOnly [.track] s (s.passTrail k sheet) := s.mapEntry_only _ _

theorem State.storeLength_only (s : State) (sheet l : Nat) :
    changesOnly [.track] s (s.storeLength sheet l) := s.mapEntry_only _ _

theorem State.measure_only (s : State) (k : StationId) (still : Bool) (e : Entry) :
    changesOnly stopParts s (s.measure k still e) := by
  unfold State.measure; dsimp only; split
  · split
    · exact ((s.storeLength_only _ _).mono (by decide)).trans (State.raise_only _ _ _ _)
    · exact (s.storeLength_only _ _).mono (by decide)
  · exact .refl _ _

theorem State.fixRule_only (s : State) (k : StationId) (sheet : Nat) :
    changesOnly stopParts s (s.fixRule k sheet) := by
  unfold State.fixRule; split
  · exact ((s.mapEntry_only _ _).mono (by decide)).trans (State.haltAheadTest_only _)
  · exact .refl _ _

theorem State.clearClaim_only (s : State) (k : StationId) (sheet : Nat) :
    changesOnly [.gate] s (s.clearClaim k sheet) := by
  unfold State.clearClaim; split
  · exact s.leaveClaim_only _
  · exact .refl _ _

theorem State.heldPass_only (s : State) (p : PathState) (sheet : Nat) :
    changesOnly leaveParts s (s.heldPass p sheet) := by
  unfold State.heldPass; split
  · exact .refl _ _
  · split
    · exact s.sendPass_only _ _
    · exact .refl _ _

theorem State.turnRule_only (s : State) (p : PathState) (k : StationId) (sheet : Nat) :
    changesOnly leaveParts s (s.turnRule p k sheet) := by
  unfold State.turnRule; split
  · split
    · exact .refl _ _
    · split
      · exact ((s.mapEntry_only _ _).mono (by decide)).trans (State.heldPass_only _ _ _)
      · exact .refl _ _
  · exact .refl _ _

theorem State.atLast_only (s : State) (p : PathState) (sheet : Nat) :
    changesOnly ([.gate, .deliv] ++ stopParts) s (s.atLast p sheet) := by
  unfold State.atLast; split
  · exact .refl _ _
  · split
    · exact ((s.takeRecord_only _ _).mono (by decide)).trans
        ((State.removeEntry_only _ _).mono (by decide))
    · split
      · exact (s.removeEntry_only _).mono (by decide)
      · exact .refl _ _
      · split
        · exact (s.removeEntry_only _).mono (by decide)
        · exact .refl _ _

theorem State.endAt_only (s : State) (p : PathState) (k : StationId) (sheet : Nat) :
    changesOnly ([.gate, .deliv] ++ stopParts) s (s.endAt p k sheet) := by
  unfold State.endAt; split
  · exact s.atLast_only _ _
  · exact .refl _ _

theorem State.trailEffects_only (s : State) (k : StationId) (still : Bool) (e : Entry) :
    changesOnly ([.gate, .deliv] ++ stopParts) s (s.trailEffects k still e) :=
  ((s.passTrail_only _ _).mono (by decide)).trans (((State.measure_only _ _ _ _).mono
    (by decide)).trans (((State.fixRule_only _ _ _).mono (by decide)).trans
      (((State.clearClaim_only _ _ _).mono (by decide)).trans
        (((State.edgeTriggers_only _ _ _ _).mono (by decide)).trans
          (((State.turnRule_only _ _ _ _).mono (by decide)).trans (State.endAt_only _ _ _ _))))))

theorem State.holdStalls_only (s before : State) : changesOnly [.track] s (s.holdStalls before) :=
  s.withTrack_only _

theorem State.trailMatched_only (s : State) (k : StationId) (still : Bool) (e : Entry) :
    changesOnly ([.gate, .deliv] ++ stopParts) s (s.trailMatched k still e) :=
  (s.trailEffects_only _ _ _).trans ((State.holdStalls_only _ _).mono (by decide))

theorem State.restartPace_only (s : State) (k : StationId) :
    changesOnly [.feed] s (s.restartPace k) := by
  unfold State.restartPace; split
  · exact s.withFeed_only _
  · exact .refl _ _

theorem State.endOrphan_only (s : State) : changesOnly stopParts s s.endOrphan :=
  ((s.withOrphan_only _).mono (by decide)).trans ((State.raise_only _ _ _ _).trans
    (State.leftTests_only _))

theorem State.matchTrail_only (s : State) (k : StationId) (still : Bool) :
    changesOnly ([.gate, .deliv] ++ stopParts) s (s.matchTrail k still) := by
  unfold State.matchTrail; split
  · exact s.endOrphan_only.mono (by decide)
  · split
    · exact .refl _ _
    · exact s.trailMatched_only _ _ _

theorem State.gateClears_only (s : State) (k : StationId) :
    changesOnly [.gate] s (s.gateClears k) := by
  unfold State.gateClears; split
  · exact s.gateService_only
  · exact .refl _ _

theorem State.trailingEdge_only (s : State) (k : StationId) (still : Bool) :
    changesOnly edgeParts s (s.trailingEdge k still) :=
  ((s.setStation_only _ _).mono (by decide)).trans (((State.restartPace_only _ _).mono
    (by decide)).trans (((State.matchTrail_only _ _ _).mono (by decide)).trans
      (((State.gateClears_only _ _).mono (by decide)).trans
        ((State.feedTest_only _).mono (by decide)))))

theorem State.takeEdge_only (s : State) (k : StationId) (still : Bool) :
    changesOnly edgeParts s (s.takeEdge k still) := by
  unfold State.takeEdge; split
  · exact s.leadingEdge_only _ _
  · exact s.trailingEdge_only _ _

theorem State.countEdge_only (s : State) (z : ZoneId) :
    changesOnly [.zones, .stations, .track, .pulses, .feed] s (s.countEdge z) :=
  ((s.setZone_only _ _).mono (by decide)).trans (((State.withStations_only _ _).mono
    (by decide)).trans (((State.withTrack_only _ _).mono (by decide)).trans
      (((State.withPulses_only _ _).mono (by decide)).trans
        ((State.withFeed_only _ _).mono (by decide)))))

/-! ### PASS -/

theorem State.passPoint_only (s : State) (e : Entry) : changesOnly leaveParts s (s.passPoint e) := by
  unfold State.passPoint; split
  · exact (s.mapEntry_only _ _).mono (by decide)
  · exact s.sendPass_only _ _

theorem State.arrived_only (s : State) : changesOnly stopParts s s.arrived := by
  unfold State.arrived; split
  · exact (s.riseAll_only.mono (by decide)).trans ((State.withTrack_only _ _).mono (by decide))
  · exact s.haltAheadTest_only.trans (State.drainTest_only _)

theorem State.announceArrival_only (s : State) (p : PathState) (r : SheetRecord) (origin : Nat) :
    changesOnly stopParts s (s.announceArrival p r origin) := by
  unfold State.announceArrival; dsimp only; split
  · exact ((s.withArrivals_only _).mono (by decide)).trans (State.arrived_only _)
  · split
    · exact s.raiseFrom_only _ _ _ _
    · exact ((s.withArrivals_only _).mono (by decide)).trans (State.arrived_only _)

theorem State.adopt_only (s : State) (r : SheetRecord) (origin hold : Nat) :
    changesOnly leaveParts s (s.adopt r origin hold) :=
  ((s.withTrack_only _).mono (by decide)).trans ((State.claimAt_only _ _ _).trans
    (((State.imageAt_only _ _ _).mono (by decide)).trans
      (((State.haltAheadTest_only _).mono (by decide)).trans
        ((State.leftTests_only _).mono (by decide)))))

theorem State.takePass_only (s : State) (r : SheetRecord) (origin : Nat) :
    changesOnly leaveParts s (s.takePass r origin) := by
  unfold State.takePass; split
  · exact .refl _ _
  · split
    · split
      · exact (s.endOrphan_only.trans (State.announceArrival_only _ _ _ _)).mono (by decide)
      · split
        · exact s.adopt_only _ _ _
        · exact ((s.withOrphan_only _).mono (by decide)).trans
            (((State.raise_only _ _ _ _).mono (by decide)).trans
              (((State.leftTests_only _).mono (by decide)).trans
                ((State.announceArrival_only _ _ _ _).mono (by decide))))
    · exact (s.announceArrival_only _ _ _).mono (by decide)

theorem State.passFrom_only (s : State) (f : Frame) : changesOnly leaveParts s (s.passFrom f) := by
  unfold State.passFrom; split
  · exact .refl _ _
  · split
    · exact .refl _ _
    · split
      · exact s.countStale_only.mono (by decide)
      · split
        · exact s.takePass_only _ _
        · exact s.countStale_only.mono (by decide)

/-! ### Drive -/

theorem State.withdrawRises_only (s : State) : changesOnly [.zones] s s.withdrawRises :=
  s.mapZones_only _

theorem State.brakeMoving_only (s : State) : changesOnly [.zones] s s.brakeMoving :=
  s.mapZones_only _

theorem State.stopSilence_only (s : State) (z : ZoneId) : changesOnly [.zones] s (s.stopSilence z) :=
  s.setZone_only _ _

theorem State.silence_only (s : State) (p : PathState) (z : ZoneId) :
    changesOnly stopParts s (s.silence p z) :=
  ((s.stopSilence_only z).mono (by decide)).trans (State.raiseFrom_only _ _ _ _ _)

theorem State.chainFails_only (s : State) : changesOnly stopParts s s.chainFails :=
  ((s.withChain_only _).mono (by decide)).trans ((State.raise_only _ _ _ _).trans
    (State.zonesChanged_only _))

/-! ### Feeding -/

theorem State.addPick_only (s : State) (r : SheetRecord) : changesOnly stopParts s (s.addPick r) := by
  unfold State.addPick; split
  · exact (s.withArrivals_only _).mono (by decide)
  · exact s.raise_only _ _ _

theorem State.issuePage_only (s : State) (d : PageDesc) :
    changesOnly stopParts s (s.issuePage d) :=
  ((s.withFeed_only _).mono (by decide)).trans ((State.addPick_only _ _).trans
    (State.trigger_only _ _ _ _ _))

theorem State.clearSites_only (s : State) : changesOnly [.stop] s s.clearSites := s.withStop_only _

theorem State.rest_only (s : State) :
    changesOnly [.stop, .zones, .chain, .track, .pulses, .feed, .notices] s s.rest :=
  (s.fallAll_only.mono (by decide)).trans (((State.clearSites_only _).mono (by decide)).trans
    (((State.enter_only _ _).mono (by decide)).trans ((State.dropDelays_only _).mono (by decide))))

/-- The parts that a sink's frame may change at the FEED node. -/
def sinkParts : List Part := [.feed, .zones, .chain, .line]

theorem State.deliverFinal_only (s : State) (f : Frame) :
    changesOnly sinkParts s (s.deliverFinal f) := by
  unfold State.deliverFinal; split
  · exact .refl _ _
  · split
    · exact s.countStale_only.mono (by decide)
    · split
      · exact ((s.withFeed_only _).mono (by decide)).trans
          ((State.feedTest_only _).mono (by decide))
      · exact .refl _ _

theorem State.deliverCompiled_only (s : State) (f : Frame) :
    changesOnly sinkParts s (s.deliverCompiled f) := by
  unfold State.deliverCompiled; split
  · exact (s.withFeed_only _).mono (by decide)
  · exact .refl _ _

theorem State.deliverPurge_only (s : State) (f : Frame) :
    changesOnly sinkParts s (s.deliverPurge f) := by
  unfold State.deliverPurge; split
  · split
    · exact ((s.withFeed_only _).mono (by decide)).trans ((State.feedTest_only _).mono (by decide))
    · exact .refl _ _
  · exact .refl _ _

theorem State.setclose_only (s : State) (f : Frame) : changesOnly sinkParts s (s.setclose f) := by
  unfold State.setclose; dsimp only; split
  · exact .refl _ _
  · split
    · exact s.countStale_only.mono (by decide)
    · split
      · exact (s.withFeed_only _).mono (by decide)
      · exact ((s.withFeed_only _).mono (by decide)).trans
          ((State.feedTest_only _).mono (by decide))

/-! ### Planning -/

theorem State.report_only (s : State) (f : Frame) : changesOnly [.plan] s (s.report f) := by
  unfold State.report; split
  · exact .refl _ _
  · split
    · exact .refl _ _
    · split
      · exact .refl _ _
      · split <;> exact s.withPlan_only _

theorem State.planTest_only (s : State) : changesOnly [.feed, .plan] s s.planTest := by
  unfold State.planTest; split
  · exact ((s.withFeed_only _).mono (by decide)).trans ((State.withPlan_only _ _).mono (by decide))
  · exact .refl _ _

theorem State.readyFrom_only (s : State) (f : Frame) :
    changesOnly [.feed, .plan] s (s.readyFrom f) := by
  unfold State.readyFrom; split
  · exact .refl _ _
  · split
    · exact (s.withPlan_only _).mono (by decide)
    · exact ((s.withPlan_only _).mono (by decide)).trans (State.planTest_only _)

/-! ### Clearing -/

theorem State.residualFound_only (s : State) : changesOnly [.clear] s s.residualFound :=
  s.withClear_only _

theorem State.leaveClaims_only (s : State) (l : List Entry) :
    changesOnly [.gate] s (s.leaveClaims l) :=
  changesOnly.foldl (fun (t : State) (e : Entry) => t.leaveClaim e.record.sheet)
    (fun t _ => t.leaveClaim_only _) l s

/-- The parts that a survey's end may change. -/
def surveyParts : List Part := [.track, .gate, .clear, .deliv]

theorem State.applySurvey_only (s : State) (judge : Entry → Disposition) (d : Disposition)
    (l : List Report) : changesOnly surveyParts s (s.applySurvey judge d l) := by
  unfold State.applySurvey; dsimp only
  exact ((s.withTrack_only _).mono (by decide)).trans (((State.leaveClaims_only _ _).mono
    (by decide)).trans ((State.withClear_only _ _).mono (by decide)))

theorem State.emptyCompile_only (s : State) : changesOnly [.deliv] s s.emptyCompile :=
  s.withDeliv_only _

theorem State.fullForm_only (s : State) : changesOnly surveyParts s s.fullForm := by
  unfold State.fullForm; split
  · exact s.residualFound_only.mono (by decide)
  · exact (s.applySurvey_only _ _ _).trans ((State.emptyCompile_only _).mono (by decide))

theorem State.consistencyForm_only (s : State) : changesOnly surveyParts s s.consistencyForm := by
  unfold State.consistencyForm; split
  · exact s.residualFound_only.mono (by decide)
  · exact s.applySurvey_only _ _ _

theorem State.enterClearing_only (s : State) : changesOnly enterParts s s.enterClearing := by
  unfold State.enterClearing; split
  · exact s.enter_only _
  · exact .refl _ _

theorem State.emptyBinds_only (s : State) : changesOnly [.clear] s s.emptyBinds := s.withClear_only _

theorem State.surveyForm_only (s : State) : changesOnly surveyParts s s.surveyForm := by
  unfold State.surveyForm; split
  · exact s.fullForm_only
  · split
    · exact ((s.startOp_only _).mono (by decide)).trans ((State.withClear_only _ _).mono (by decide))
    · exact s.consistencyForm_only

theorem State.survey_only (s : State) : changesOnly (surveyParts ++ enterParts) s s.survey :=
  (s.enterClearing_only.mono (by decide)).trans (((State.withOrphan_only _ _).mono
    (by decide)).trans (((State.emptyBinds_only _).mono (by decide)).trans
      ((State.surveyForm_only _).mono (by decide))))

theorem State.voidDone_only (s : State) : changesOnly surveyParts s s.voidDone := by
  unfold State.voidDone; dsimp only
  exact ((s.endOp_only).mono (by decide)).trans (((State.withClear_only _ _).mono
    (by decide)).trans (((State.emptyCompile_only _).mono (by decide)).trans
      (State.consistencyForm_only _)))

theorem State.opDone_only (s : State) :
    changesOnly ([.gate, .deliv] ++ stopParts) s s.opDone := by
  unfold State.opDone; split
  · exact .refl _ _
  · exact s.stapleDone_only.mono (by decide)
  · split
    · exact s.voidDone_only.mono (by decide)
    · exact s.opFailed_only.mono (by decide)

theorem State.announceReady_only (s : State) :
    changesOnly ([.line, .clear, .plan] ++ enterParts) s s.announceReady := by
  unfold State.announceReady; dsimp only
  exact ((s.push_only _).mono (by decide)).trans (((State.withClear_only _ _).mono
    (by decide)).trans (((State.withStop_only _ _).mono (by decide)).trans
      (((State.enter_only _ _).mono (by decide)).trans
        ((State.planTest_only _).mono (by decide)))))

theorem State.planPurge_only (s : State) (sheet : Nat) :
    changesOnly [.track, .clear] s (s.planPurge sheet) := by
  unfold State.planPurge; dsimp only
  exact ((s.withTrack_only _).mono (by decide)).trans ((State.withClear_only _ _).mono (by decide))

theorem State.planBind_only (s : State) (sheet : Nat) (d : PageDesc) :
    changesOnly [.track, .clear] s (s.planBind sheet d) := by
  unfold State.planBind; split
  · exact .refl _ _
  · split
    · exact ((s.mapEntry_only _ _).mono (by decide)).trans
        ((State.withClear_only _ _).mono (by decide))
    · exact .refl _ _

theorem State.planFrom_only (s : State) (f : Frame) (act : State → State)
    (h : ∀ t, changesOnly [.track, .clear] t (act t)) :
    changesOnly [.track, .clear, .line] s (s.planFrom f act) := by
  unfold State.planFrom; split
  · exact s.countStale_only.mono (by decide)
  · split
    · exact .refl _ _
    · split
      · exact s.countStale_only.mono (by decide)
      · split
        · exact (h s).mono (by decide)
        · exact .refl _ _

theorem State.repeatPasses_only (s : State) (l : List Entry) :
    changesOnly stopParts s (s.repeatPasses l) :=
  changesOnly.foldl _ (fun t _ => t.queueFrame_only _ _) l s

theorem State.openPace_only (s : State) : changesOnly [.feed] s s.openPace := by
  unfold State.openPace; split
  · exact s.withFeed_only _
  · exact .refl _ _

theorem State.planGo_only (s : State) : changesOnly [.plan] s s.planGo := by
  unfold State.planGo; split
  · exact s.withPlan_only _
  · exact .refl _ _

theorem State.arrivalTests_only (s : State) : changesOnly stopParts s s.arrivalTests := by
  refine changesOnly.foldl _ (fun t a => ?_) _ _
  split
  · exact t.raise_only _ _ _
  · exact .refl _ _

theorem State.entryTests_only (s : State) : changesOnly stopParts s s.entryTests := by
  refine changesOnly.foldl _ (fun t a => ?_) _ _
  split
  · exact t.raise_only _ _ _
  · exact .refl _ _

theorem State.stallTests_only (s : State) : changesOnly stopParts s s.stallTests := by
  refine changesOnly.foldl _ (fun t a => ?_) _ _
  split
  · exact t.raise_only _ _ _
  · exact .refl _ _

theorem State.windowTests_only (s : State) : changesOnly stopParts s s.windowTests :=
  s.arrivalTests_only.trans ((State.entryTests_only _).trans (State.stallTests_only _))

theorem State.interlockTest_only (s : State) : changesOnly stopParts s s.interlockTest := by
  unfold State.interlockTest; split
  · exact s.raiseFrom_only _ _ _ _
  · split
    · exact s.raiseFrom_only _ _ _ _
    · exact .refl _ _

theorem State.restartGaps_only (s : State) : changesOnly [.stations] s s.restartGaps :=
  s.withStations_only _

theorem State.resolveArrivals_only (s : State) : changesOnly [.track] s s.resolveArrivals :=
  s.withArrivals_only _

theorem State.runTests_only (s : State) : changesOnly leaveParts s s.runTests :=
  (s.windowTests_only.mono (by decide)).trans (((State.interlockTest_only _).mono
    (by decide)).trans (((State.guardTests_only _).mono (by decide)).trans
      (((State.gateService_only _).mono (by decide)).trans
        ((State.feedTest_only _).mono (by decide)))))

/-- The parts that GO may change. -/
def goParts : List Part := [.stations, .gate] ++ stopParts

theorem State.enterRun_only (s : State) : changesOnly goParts s s.enterRun :=
  (s.emptyBinds_only.mono (by decide)).trans (((State.clearSites_only _).mono (by decide)).trans
    (((State.restartGaps_only _).mono (by decide)).trans (((State.planGo_only _).mono
      (by decide)).trans (((State.riseAll_only _).mono (by decide)).trans
        (((State.enter_only _ _).mono (by decide)).trans (((State.resolveArrivals_only _).mono
          (by decide)).trans ((State.runTests_only _).mono (by decide))))))))

theorem State.returnHeld_only (s : State) : changesOnly stopParts s s.returnHeld := by
  unfold State.returnHeld; dsimp only
  exact ((s.withTable_only _).mono (by decide)).trans (State.repeatPasses_only _ _)

theorem State.goReady_only (s : State) : changesOnly goParts s s.goReady := by
  unfold State.goReady; split
  · exact (s.returnHeld_only.mono (by decide)).trans (State.enterRun_only _)
  · exact (s.startStop_only _ _ _).mono (by decide)

theorem State.go_only (s : State) : changesOnly goParts s s.go := by
  unfold State.go; split
  · exact s.enterRun_only
  · exact (s.startStop_only _ _ _).mono (by decide)

theorem State.goFrom_only (s : State) (f : Frame) : changesOnly goParts s (s.goFrom f) := by
  have h : ∀ (t : State), changesOnly goParts t t.goCurrent := by
    intro t
    unfold State.goCurrent; split
    · exact (t.openPace_only.mono (by decide)).trans (State.goReady_only _)
    · exact (t.startStop_only _ _ _).mono (by decide)
    · exact (t.startStop_only _ _ _).mono (by decide)
    · exact t.countStale_only.mono (by decide)
    · exact t.countStale_only.mono (by decide)
    all_goals exact .refl _ _
  unfold State.goFrom; split
  · exact ((s.withStop_only _).mono (by decide)).trans
      (((State.openPace_only _).mono (by decide)).trans (State.go_only _))
  · split
    · exact h s
    · exact s.countStale_only.mono (by decide)

/-! ### Tags and supply -/

theorem State.setInput_only (s : State) (i : InputId) (x : Input) :
    changesOnly [.tags] s (s.setInput i x) := s.withTags_only _

theorem State.resendInputs_only (s : State) : changesOnly stopParts s s.resendInputs := by
  refine changesOnly.foldl _ (fun t i => ?_) _ _
  split
  · exact t.queueFrame_only _ _
  · exact .refl _ _

theorem State.hearTag_only (s : State) (tag : Nat) (asserted : Bool) :
    changesOnly [.tags] s (s.hearTag tag asserted) := s.withTags_only _

theorem State.markCycle_only (s : State) : changesOnly [.tags] s s.markCycle := by
  unfold State.markCycle; split
  · exact s.withTags_only _
  · exact .refl _ _

theorem State.brakeIf_only (s : State) (c : Bool) : changesOnly [.zones] s (s.brakeIf c) := by
  unfold State.brakeIf; split
  · exact s.brakeAll_only
  · exact .refl _ _

theorem State.interlocks_only (s : State) (p : PathState) (l : List Nat) :
    changesOnly stopParts s (s.interlocks p l) :=
  changesOnly.foldl _ (fun t _ => t.raiseFrom_only _ _ _ _) l s

theorem State.voidOpened_only (s : State) : changesOnly [.deliv] s s.voidOpened := by
  unfold State.voidOpened; split
  · exact s.opFailed_only
  · exact .refl _ _

theorem State.surveyOpened_only (s : State) : changesOnly [.deliv, .clear] s s.surveyOpened :=
  (s.voidOpened_only.mono (by decide)).trans ((State.withClear_only _ _).mono (by decide))

theorem State.withdrawReady_only (s : State) : changesOnly [.line, .clear] s s.withdrawReady := by
  unfold State.withdrawReady; split
  · exact (s.push_only _).mono (by decide)
  · exact (s.withClear_only _).mono (by decide)

theorem State.groupOpens_only (s : State) : changesOnly delivParts s s.groupOpens := by
  have h : changesOnly delivParts s s.surveyOpened := s.surveyOpened_only.mono (by decide)
  unfold State.groupOpens; split
  · exact h.trans ((State.enter_only _ _).mono (by decide))
  · exact h.trans (((State.withdrawReady_only _).mono (by decide)).trans
      ((State.enter_only _ _).mono (by decide)))
  · exact h.trans ((State.withClear_only _ _).mono (by decide))
  all_goals exact h

theorem State.openIf_only (s : State) (c : Bool) : changesOnly delivParts s (s.openIf c) := by
  unfold State.openIf; split
  · exact s.groupOpens_only
  · exact .refl _ _

theorem State.tagChange_only (s : State) (tag : Nat) (asserted : Bool) :
    changesOnly delivParts s (s.tagChange tag asserted) := by
  unfold State.tagChange; dsimp only
  exact ((s.hearTag_only _ _).mono (by decide)).trans (((State.markCycle_only _).mono
    (by decide)).trans (((State.brakeIf_only _ _).mono (by decide)).trans
      (((State.interlocks_only _ _ _).mono (by decide)).trans (((State.interlocks_only _ _ _).mono
        (by decide)).trans (((State.zonesChanged_only _).mono (by decide)).trans
          ((State.openIf_only _ _).trans ((State.feedTest_only _).mono (by decide))))))))

theorem State.tagFrom_only (s : State) (f : Frame) : changesOnly delivParts s (s.tagFrom f) := by
  unfold State.tagFrom; dsimp only; split
  · exact s.countStale_only.mono (by decide)
  · split
    · split
      · exact .refl _ _
      · exact s.resendInputs_only.mono (by decide)
    · split
      · exact .refl _ _
      · exact s.tagChange_only _ _

theorem State.superviseSupply_only (s : State) : changesOnly [.supply] s s.superviseSupply :=
  s.withSupply_only _

theorem State.supplyTurns_only (s : State) :
    changesOnly (.supply :: stopParts) s s.supplyTurns := by
  have h : changesOnly (.supply :: stopParts) s
      (s.withSupply { ok := s.comparatorOk, hold := none }) := (s.withSupply_only _).mono (by decide)
  unfold State.supplyTurns; dsimp only; split
  · exact h
  · exact h.trans (((State.brakeAll_only _).mono (by decide)).trans (((State.raise_only _ _ _ _).mono
      (by decide)).trans ((State.zonesChanged_only _).mono (by decide))))

/-! ### Frames of the stop controller, and the line port -/

theorem State.jamcallFrom_only (s : State) (f : Frame) :
    changesOnly stopParts s (s.jamcallFrom f) := by
  unfold State.jamcallFrom; split
  · exact s.countStale_only.mono (by decide)
  · split
    · exact ((s.withStop_only _).mono (by decide)).trans (State.haltAheadTest_only _)
    · exact s.stopStart_only _ _

theorem State.unresolve_only (s : State) (seg : Nat) (st : Stance) :
    changesOnly [.track] s (s.unresolve seg st) := by
  unfold State.unresolve; split
  · exact s.withArrivals_only _
  · exact .refl _ _

theorem State.stance_only (s : State) (seg : Nat) (st : Stance) :
    changesOnly stopParts s (s.stance seg st) :=
  ((s.withStop_only _).mono (by decide)).trans (((State.unresolve_only _ _ _).mono
    (by decide)).trans ((State.haltAheadTest_only _).trans (State.drainTest_only _)))

theorem State.stopstateFrom_only (s : State) (f : Frame) :
    changesOnly stopParts s (s.stopstateFrom f) := by
  unfold State.stopstateFrom; split
  · exact s.countStale_only.mono (by decide)
  · split
    · exact s.countStale_only.mono (by decide)
    · exact s.stance_only _ _

theorem State.limitTest_only (s : State) : changesOnly stopParts s s.limitTest := by
  unfold State.limitTest; split
  · exact ((s.withLine_only _).mono (by decide)).trans (State.raise_only _ _ _ _)
  · exact .refl _ _

theorem State.rxOverflows_only (s : State) (p : PathState) :
    changesOnly stopParts s (s.rxOverflows p) :=
  ((s.withLine_only _).mono (by decide)).trans (State.raiseFrom_only _ _ _ _ _)

theorem State.receive_only (s : State) (p : PathState) (f : Frame) :
    changesOnly stopParts s (s.receive p f) := by
  unfold State.receive; split
  · exact (s.withLine_only _).mono (by decide)
  · exact s.rxOverflows_only _

theorem State.goDropped_only (s : State) : changesOnly [.feed, .plan] s s.goDropped := by
  unfold State.goDropped; split
  · exact .refl _ _
  · split
    · exact (s.withFeed_only _).mono (by decide)
    · split
      · exact (s.withPlan_only _).mono (by decide)
      · exact .refl _ _

theorem State.sent_only (s : State) (p : PathState) (f : Frame) :
    changesOnly stopParts s (s.sent p f) := by
  have h : changesOnly stopParts s (s.withLine
      { s.line.release with tx := s.line.tx.erase f, errorRun := 0 }) :=
    (s.withLine_only _).mono (by decide)
  unfold State.sent; dsimp only; split
  · exact h.trans (State.receive_only _ _ _)
  · split
    · exact h.trans ((State.rxOverflows_only _ _).trans ((State.goDropped_only _).mono (by decide)))
    · exact h.trans (State.rxOverflows_only _ _)

theorem State.countCrc_only (s : State) : changesOnly [.line] s s.countCrc := s.withLine_only _

/-! ### Local port -/

theorem State.answer_only (s : State) (r : Reply) : changesOnly [.reply] s (s.answer r) :=
  s.withReply_only _

theorem State.mapNotices_only (s : State) (f : Notice → NoticeState → NoticeState) :
    changesOnly [.notices] s (s.mapNotices f) := s.withNotices_only _

theorem State.addPage_only (s : State) (d : PageDesc) :
    changesOnly [.feed, .reply, .zones, .chain] s (s.addPage d) := by
  unfold State.addPage; dsimp only
  exact ((s.withFeed_only _).mono (by decide)).trans (((State.answer_only _ _).mono
    (by decide)).trans ((State.feedTest_only _).mono (by decide)))

end Sys2Proof.Machine
end

