-- ==== Sys2Proof/WellFormed.lean ====
section
/-! DEFINITION. What a sender may put into a command: the widths that the local port's header and the line give its operands. -/

namespace Sys2Proof

/-- A local command's header gives a data length of 0 to 64 bytes (11.6). -/
def dataLengthOk (n : Nat) : Bool := n ≤ 64

/-- A set names no notice twice. -/
def noticeSetOk (l : List Notice) : Bool := decide l.Nodup

/-- Selector and index are one byte each (11.6), so a stream number or index is below 256. -/
def byteOk (n : Nat) : Bool := n < 256

/-- The line bits of one frame after its start bit: from 40 bits with 4 fill bits to 168 bits with
16 fill bits (R176). Fewer bits are a frame cut short, a command of its own. A header whose length
field is 17 to 31 is no frame a node sends; with at most 31 bytes a reader reads 288 bits and 28
fill bits. -/
def lineBitsOk (bits : List Bool) : Bool := 44 ≤ bits.length && bits.length ≤ 316

/-- A command's operands are within the widths that carry them. -/
def Instr.wf : Instr → Bool
  | .configRead _ n => dataLengthOk n
  | .start n => dataLengthOk n
  | .restart n => dataLengthOk n
  | .pageSubmit data => dataLengthOk data.length
  | .streamCancel st n => byteOk st && dataLengthOk n
  | .streamRelease st n => byteOk st && dataLengthOk n
  | .read _ i n => byteOk i && dataLengthOk n
  | .readCounters n => dataLengthOk n
  | .noticeRead n => dataLengthOk n
  | .noticeClear names _ => noticeSetOk names
  | .noticeSetup enable level _ => noticeSetOk enable && noticeSetOk level
  | .passPointReached i => i < tableCap
  | .deferredPass i => i < tableCap
  | .lateAtStation i => i < tableCap
  | .lateAtS1 i => i < arrivalCap
  | .gateGuardFail i => i < claimCap
  | .frameReceived bits => lineBitsOk bits
  | .powerOnReset => true
  | .configWrite _ _ => true
  | .encoderCountedEdge _ _ => true
  | .sensorRawChange _ _ => true
  | .filterCountComplete _ => true
  | .stillEdge _ => true
  | .stall _ => true
  | .orphanHoldExpiry => true
  | .pulseDelayComplete _ => true
  | .pulseWidthEnd _ => true
  | .paceGapReached => true
  | .issue => true
  | .startGo => true
  | .restTimerExpiry => true
  | .drdyPresent => true
  | .readyTimerExpiry => true
  | .drdyLost => true
  | .zoneStep _ => true
  | .silenceTimeout _ => true
  | .inputPinChange _ _ => true
  | .tagHoldExpiry _ => true
  | .vsenseChange _ => true
  | .supplyHoldExpiry => true
  | .fdone _ => true
  | .operationTimeout => true
  | .announcementQueued => true
  | .jamcallTaken => true
  | .stopstateTaken => true
  | .tagstateTaken => true
  | .passTaken => true
  | .deliverFinal => true
  | .deliverCompiled => true
  | .deliverPurge => true
  | .setcloseTaken => true
  | .reportTaken => true
  | .readyTaken => true
  | .planFrameQueued => true
  | .planGoQueued => true
  | .planPurge => true
  | .planBind => true
  | .goTaken => true
  | .restTaken => true
  | .surveyStart => true
  | .reportQueued => true
  | .readyQueued => true
  | .frameTransmitStart => true
  | .arbitrationLost => true
  | .transmitError => true
  | .errorLimitReached => true
  | .frameSent => true
  | .resetnLow => true
  | .frameCutShort => true

end Sys2Proof
end

