-- ==== Sys2Proof/Laws/PerInstr.lean ====
section
/-! SUPPORT. What a well-formed command's operands are, said of each command: the widths that carry them (11.6), the sizes of the collections an index names (R4, R7, R89), and the line bits of a frame (R176). -/

namespace Sys2Proof.Laws.Widths

/-- The operands of a command are within the widths that carry them. -/
def Within : Instr → Prop
  | .powerOnReset => True
  | .configWrite _ _ => True
  | .configRead _ dataLength => dataLength ≤ 64
  | .start dataLength => dataLength ≤ 64
  | .restart dataLength => dataLength ≤ 64
  | .pageSubmit data => data.length ≤ 64
  | .streamCancel stream dataLength => stream ≤ 255 ∧ dataLength ≤ 64
  | .streamRelease stream dataLength => stream ≤ 255 ∧ dataLength ≤ 64
  | .read _ index dataLength => index ≤ 255 ∧ dataLength ≤ 64
  | .readCounters dataLength => dataLength ≤ 64
  | .noticeRead dataLength => dataLength ≤ 64
  | .noticeClear names _ => names.Nodup
  | .noticeSetup enable level _ => enable.Nodup ∧ level.Nodup
  | .encoderCountedEdge _ _ => True
  | .sensorRawChange _ _ => True
  | .filterCountComplete _ => True
  | .stillEdge _ => True
  | .passPointReached index => index < 8
  | .deferredPass index => index < 8
  | .lateAtStation index => index < 8
  | .lateAtS1 index => index < 4
  | .stall _ => True
  | .orphanHoldExpiry => True
  | .gateGuardFail index => index < 2
  | .pulseDelayComplete _ => True
  | .pulseWidthEnd _ => True
  | .paceGapReached => True
  | .issue => True
  | .startGo => True
  | .restTimerExpiry => True
  | .drdyPresent => True
  | .readyTimerExpiry => True
  | .drdyLost => True
  | .zoneStep _ => True
  | .silenceTimeout _ => True
  | .inputPinChange _ _ => True
  | .tagHoldExpiry _ => True
  | .vsenseChange _ => True
  | .supplyHoldExpiry => True
  | .fdone _ => True
  | .operationTimeout => True
  | .announcementQueued => True
  | .jamcallTaken => True
  | .stopstateTaken => True
  | .tagstateTaken => True
  | .passTaken => True
  | .deliverFinal => True
  | .deliverCompiled => True
  | .deliverPurge => True
  | .setcloseTaken => True
  | .reportTaken => True
  | .readyTaken => True
  | .planFrameQueued => True
  | .planGoQueued => True
  | .planPurge => True
  | .planBind => True
  | .goTaken => True
  | .restTaken => True
  | .surveyStart => True
  | .reportQueued => True
  | .readyQueued => True
  | .frameTransmitStart => True
  | .arbitrationLost => True
  | .transmitError => True
  | .errorLimitReached => True
  | .frameSent => True
  | .frameReceived bits => 44 ≤ bits.length ∧ bits.length ≤ 316
  | .resetnLow => True
  | .frameCutShort => True

/-- A command is well-formed exactly when its operands are within their widths. -/
def Statement (i : Instr) : Prop := i.wf = true ↔ Within i

theorem powerOnReset : Statement (.powerOnReset) := iff_of_true rfl trivial

theorem configWrite (item : ConfigItem) (value : ConfigValue) : Statement (.configWrite item value) := iff_of_true rfl trivial

theorem configRead (item : ConfigItem) (dataLength : Nat) : Statement (.configRead item dataLength) := by simp [Statement, Instr.wf, Within, dataLengthOk]

theorem start (dataLength : Nat) : Statement (.start dataLength) := by simp [Statement, Instr.wf, Within, dataLengthOk]

theorem restart (dataLength : Nat) : Statement (.restart dataLength) := by simp [Statement, Instr.wf, Within, dataLengthOk]

theorem pageSubmit (data : List Byte) : Statement (.pageSubmit data) := by simp [Statement, Instr.wf, Within, dataLengthOk]

theorem streamCancel (stream : Nat) (dataLength : Nat) : Statement (.streamCancel stream dataLength) := by simp [Statement, Instr.wf, Within, dataLengthOk, byteOk, Nat.lt_succ_iff]

theorem streamRelease (stream : Nat) (dataLength : Nat) : Statement (.streamRelease stream dataLength) := by simp [Statement, Instr.wf, Within, dataLengthOk, byteOk, Nat.lt_succ_iff]

theorem read (collection : Collection) (index : Nat) (dataLength : Nat) : Statement (.read collection index dataLength) := by simp [Statement, Instr.wf, Within, dataLengthOk, byteOk, Nat.lt_succ_iff]

theorem readCounters (dataLength : Nat) : Statement (.readCounters dataLength) := by simp [Statement, Instr.wf, Within, dataLengthOk]

theorem noticeRead (dataLength : Nat) : Statement (.noticeRead dataLength) := by simp [Statement, Instr.wf, Within, dataLengthOk]

theorem noticeClear (names : List Notice) (fits : Bool) : Statement (.noticeClear names fits) := by simp [Statement, Instr.wf, Within, noticeSetOk]

theorem noticeSetup (enable : List Notice) (level : List Notice) (fits : Bool) : Statement (.noticeSetup enable level fits) := by simp [Statement, Instr.wf, Within, noticeSetOk]

theorem encoderCountedEdge (z : ZoneId) (rising : Bool) : Statement (.encoderCountedEdge z rising) := iff_of_true rfl trivial

theorem sensorRawChange (k : StationId) (high : Bool) : Statement (.sensorRawChange k high) := iff_of_true rfl trivial

theorem filterCountComplete (k : StationId) : Statement (.filterCountComplete k) := iff_of_true rfl trivial

theorem stillEdge (k : StationId) : Statement (.stillEdge k) := iff_of_true rfl trivial

theorem passPointReached (index : Nat) : Statement (.passPointReached index) := decide_eq_true_iff

theorem deferredPass (index : Nat) : Statement (.deferredPass index) := decide_eq_true_iff

theorem lateAtStation (index : Nat) : Statement (.lateAtStation index) := decide_eq_true_iff

theorem lateAtS1 (index : Nat) : Statement (.lateAtS1 index) := decide_eq_true_iff

theorem stall (k : StationId) : Statement (.stall k) := iff_of_true rfl trivial

theorem orphanHoldExpiry : Statement (.orphanHoldExpiry) := iff_of_true rfl trivial

theorem gateGuardFail (index : Nat) : Statement (.gateGuardFail index) := by simp [Statement, Instr.wf, Within, claimCap]

theorem pulseDelayComplete (p : PulseId) : Statement (.pulseDelayComplete p) := iff_of_true rfl trivial

theorem pulseWidthEnd (p : PulseId) : Statement (.pulseWidthEnd p) := iff_of_true rfl trivial

theorem paceGapReached : Statement (.paceGapReached) := iff_of_true rfl trivial

theorem issue : Statement (.issue) := iff_of_true rfl trivial

theorem startGo : Statement (.startGo) := iff_of_true rfl trivial

theorem restTimerExpiry : Statement (.restTimerExpiry) := iff_of_true rfl trivial

theorem drdyPresent : Statement (.drdyPresent) := iff_of_true rfl trivial

theorem readyTimerExpiry : Statement (.readyTimerExpiry) := iff_of_true rfl trivial

theorem drdyLost : Statement (.drdyLost) := iff_of_true rfl trivial

theorem zoneStep (z : ZoneId) : Statement (.zoneStep z) := iff_of_true rfl trivial

theorem silenceTimeout (z : ZoneId) : Statement (.silenceTimeout z) := iff_of_true rfl trivial

theorem inputPinChange (i : InputId) (high : Bool) : Statement (.inputPinChange i high) := iff_of_true rfl trivial

theorem tagHoldExpiry (i : InputId) : Statement (.tagHoldExpiry i) := iff_of_true rfl trivial

theorem vsenseChange (microvolts : Nat) : Statement (.vsenseChange microvolts) := iff_of_true rfl trivial

theorem supplyHoldExpiry : Statement (.supplyHoldExpiry) := iff_of_true rfl trivial

theorem fdone (high : Bool) : Statement (.fdone high) := iff_of_true rfl trivial

theorem operationTimeout : Statement (.operationTimeout) := iff_of_true rfl trivial

theorem announcementQueued : Statement (.announcementQueued) := iff_of_true rfl trivial

theorem jamcallTaken : Statement (.jamcallTaken) := iff_of_true rfl trivial

theorem stopstateTaken : Statement (.stopstateTaken) := iff_of_true rfl trivial

theorem tagstateTaken : Statement (.tagstateTaken) := iff_of_true rfl trivial

theorem passTaken : Statement (.passTaken) := iff_of_true rfl trivial

theorem deliverFinal : Statement (.deliverFinal) := iff_of_true rfl trivial

theorem deliverCompiled : Statement (.deliverCompiled) := iff_of_true rfl trivial

theorem deliverPurge : Statement (.deliverPurge) := iff_of_true rfl trivial

theorem setcloseTaken : Statement (.setcloseTaken) := iff_of_true rfl trivial

theorem reportTaken : Statement (.reportTaken) := iff_of_true rfl trivial

theorem readyTaken : Statement (.readyTaken) := iff_of_true rfl trivial

theorem planFrameQueued : Statement (.planFrameQueued) := iff_of_true rfl trivial

theorem planGoQueued : Statement (.planGoQueued) := iff_of_true rfl trivial

theorem planPurge : Statement (.planPurge) := iff_of_true rfl trivial

theorem planBind : Statement (.planBind) := iff_of_true rfl trivial

theorem goTaken : Statement (.goTaken) := iff_of_true rfl trivial

theorem restTaken : Statement (.restTaken) := iff_of_true rfl trivial

theorem surveyStart : Statement (.surveyStart) := iff_of_true rfl trivial

theorem reportQueued : Statement (.reportQueued) := iff_of_true rfl trivial

theorem readyQueued : Statement (.readyQueued) := iff_of_true rfl trivial

theorem frameTransmitStart : Statement (.frameTransmitStart) := iff_of_true rfl trivial

theorem arbitrationLost : Statement (.arbitrationLost) := iff_of_true rfl trivial

theorem transmitError : Statement (.transmitError) := iff_of_true rfl trivial

theorem errorLimitReached : Statement (.errorLimitReached) := iff_of_true rfl trivial

theorem frameSent : Statement (.frameSent) := iff_of_true rfl trivial

theorem frameReceived (bits : List Bool) : Statement (.frameReceived bits) := by simp [Statement, Instr.wf, Within, lineBitsOk]

theorem resetnLow : Statement (.resetnLow) := iff_of_true rfl trivial

theorem frameCutShort : Statement (.frameCutShort) := iff_of_true rfl trivial

end Sys2Proof.Laws.Widths
end

