-- ==== Sys2Proof/Tests/Slice0.lean ====
section
/-! SUPPORT. Tests: terms that the well-formedness checks refuse, the manual's worked examples run one step at a time, and for each statement a state that meets its hypotheses. -/

namespace Sys2Proof.Tests

set_option Elab.async false

open Sys2Proof Sys2Proof.Machine

/-! ### Small states -/

/-- A present station on Z1, 1800 pu after the one before, measuring with gain 1.0. -/
def eye : StationCfg :=
  { StationCfg.powerOn with
    present := true, spacing := 1800, lengthCheck := true, gain := 65536, filter := 2 }

/-- A zone with a pitch of 1.25 pu and a profile of four entries up and four down. -/
def belt : ZoneCfg :=
  { ZoneCfg.powerOn with
    pitch := 5120, riseStart := 0, riseEnd := 3, fallStart := 4, fallEnd := 7, stepMs := 2
    silenceExp := 4 }

/-- A slot that hears `tag`, with no use. -/
def slotOn (tag : Nat) : SlotCfg :=
  { SlotCfg.powerOn with tag := tag, invert := false, panel := false, stop := false }

/-- A node of two stations on Z1 at segment 2, between segments 1 and 3. -/
def cfgOf (k : NodeKind) : Configuration :=
  { Configuration.powerOn with
    segment := 2, kind := some k, stations := ⟨eye, eye, .powerOn, .powerOn⟩
    upstream := ⟨⟨1, 500⟩, ⟨4, 700⟩⟩, nextSegment := 3, passDistance := 50, orphanHold := 100
    windows := ⟨⟨60, 200, 30⟩, ⟨60, 200, 30⟩, ⟨60, 200, 30⟩, ⟨60, 200, 30⟩⟩
    zones := ⟨belt, .powerOn, .powerOn⟩, gapMin := 100, roster := [2, 3, 5], purgeSink := 3
    preImage := [1, 2], paceGap := 300 }

/-- A configured node with its supply ok and nothing in hand. -/
def node (k : NodeKind) (p : PathState) : State :=
  { State.reset with
    cfg := cfgOf k, stop := { StopUnit.reset with path := p }, supply := ⟨true, none⟩ }

/-- A duplex sheet with both sides blank. -/
def sheet (id : Nat) : SheetRecord :=
  { sheet := id, stream := 1, page1 := some 10, page2 := some 11, set := 4, first := true
    last := true, media := 0, nominal := 3000, measured := none, dest := 5, purge := false
    side1 := .blank, side2 := some .blank, current := .one, released := false, retry := 0 }

def entry (id lead trail : Nat) : Entry :=
  { record := sheet id, loc := .transit, lead := lead, trail := trail, leadTracker := 0
    passTracker := none, passSent := false, disposition := none, source := 1, claimed := 0
    passHold := .clear }

def arrival (id : Nat) : Arrival :=
  { record := sheet id, sender := 1, link := 0, linkDistance := 500, unresolved := false }

def page (n : Nat) : PageDesc :=
  { stream := 1, page1 := n, page2 := none, set := 4, first := true, last := true, media := 0
    nominal := 3000, dest := 5, retry := 0 }

/-- `s` with the table `t`. -/
def holding (s : State) (t : List Entry) : State := { s with track := { s.track with table := t } }

/-- `s` with the arrival queue `a`. -/
def expecting (s : State) (a : List Arrival) : State :=
  { s with track := { s.track with arrivals := a } }

/-- `s` with the pin of S1 and S2 high, so that both read covered raw. -/
def raised (s : State) : State :=
  { s with pins := { s.pins with sns := ⟨true, true, false, false⟩ } }

/-- `s` with S1 and S2 filtered covered, and the pending count complete. -/
def coveredEyes (s : State) : State :=
  { s with stations := ⟨{ Station.reset with covered := true, count := 2, coverCount := 2400 },
      { Station.reset with covered := true, count := 2, coverCount := 2400 }, .reset, .reset⟩ }

/-- `s` with S1 and S2 uncovered, and the pending count complete. -/
def bareEyes (s : State) : State :=
  { s with stations := ⟨{ Station.reset with count := 2 }, { Station.reset with count := 2 },
      .reset, .reset⟩ }

/-- `s` with `f` in front of the receive queue. -/
def hears (s : State) (k : FrameKind) (origin epoch : Nat) (p : List Byte) : State :=
  { s with line := { s.line with rx := [⟨k, origin, epoch, p⟩] } }

/-- What a step leaves, or the state it started from. -/
def after (s : State) (c : Instr) : State :=
  match exec c s with
  | .next t => t
  | .fault _ => s
  | .refused _ => s

/-! ### Well-formedness -/

theorem test_wf_long_data : (Instr.start 65).wf = false := rfl
theorem test_wf_long_restart : (Instr.restart 65).wf = false := rfl
theorem test_wf_long_config_read : (Instr.configRead .segment 65).wf = false := rfl
theorem test_wf_long_page : (Instr.pageSubmit (List.replicate 65 0)).wf = false := by decide +kernel
theorem test_wf_wide_stream : (Instr.streamCancel 256 0).wf = false := rfl
theorem test_wf_wide_release : (Instr.streamRelease 256 0).wf = false := rfl
theorem test_wf_wide_index : (Instr.read .zones 256 0).wf = false := rfl
theorem test_wf_long_counters : (Instr.readCounters 65).wf = false := rfl
theorem test_wf_long_notice_read : (Instr.noticeRead 65).wf = false := rfl
theorem test_wf_repeated_notice : (Instr.noticeClear [.jam, .jam] true).wf = false := rfl
theorem test_wf_repeated_enable : (Instr.noticeSetup [.run, .run] [] true).wf = false := rfl
theorem test_wf_repeated_level : (Instr.noticeSetup [] [.run, .run] true).wf = false := rfl
theorem test_wf_pass_index : (Instr.passPointReached 8).wf = false := rfl
theorem test_wf_deferred_index : (Instr.deferredPass 8).wf = false := rfl
theorem test_wf_late_index : (Instr.lateAtStation 8).wf = false := rfl
theorem test_wf_arrival_index : (Instr.lateAtS1 4).wf = false := rfl
theorem test_wf_claim_index : (Instr.gateGuardFail 2).wf = false := rfl
theorem test_wf_short_frame : (Instr.frameReceived (List.replicate 43 true)).wf = false := by decide +kernel
theorem test_wf_long_frame : (Instr.frameReceived (List.replicate 317 true)).wf = false := by decide +kernel

/-! ### The manual's worked examples -/

/-- 2.2, worked figures: pitch 5120, edge 1 carries 1 and leaves 1024. -/
theorem test_pitch_first_edge :
    (after (node .plain .run) (.encoderCountedEdge .z1 true)).zones.a.frac = 1024 := by
  decide +kernel

/-- 2.2: pitch 5120, edge 4 carries 2 and leaves 0; a tracker on the zone advances by 2. -/
theorem test_pitch_fourth_edge :
    let s := { holding (node .plain .run) [entry 7 1 0] with
      zones := ⟨{ Zone.reset with frac := 3072 }, .reset, .reset⟩ }
    let t := after s (.encoderCountedEdge .z1 true)
    t.zones.a.frac = 0 ∧ t.track.table.map Entry.leadTracker = [2] := by
  decide +kernel

/-- 2.4, worked sequence: with F = 3 the third counted edge completes the filter. -/
theorem test_filter_third_edge :
    let c := { cfgOf .plain with stations := ⟨{ eye with filter := 3 }, eye, .powerOn, .powerOn⟩ }
    let s := raised { node .plain .run with
      cfg := c, stations := ⟨{ Station.reset with count := 2 }, .reset, .reset, .reset⟩ }
    let t := after s (.encoderCountedEdge .z1 true)
    s.filterDone .s1 = false ∧ t.filterDone .s1 = true ∧
      (after t (.filterCountComplete .s1)).stations.a.covered = true := by
  decide +kernel

/-- 2.6, worked computation: 2998 pu. -/
theorem test_length_worked : correctedLength 2376 5120 66191 (-384) = 2998 := by decide +kernel

/-- 2.6, the rounding table. -/
theorem test_length_rounding :
    correctedLength 0 5120 65536 128 = 1 ∧ correctedLength 0 5120 65536 (-128) = 0 ∧
    correctedLength 0 5120 65536 (-129) = 0 ∧ correctedLength 40 5120 65536 (-32768) = 0 ∧
    correctedLength 65534 65535 131071 0 = 8191 := by
  decide +kernel

/-- 3.5, worked sequence: a STALL at 3200 pu against 2998 + 200, station 2, sheet 42. -/
theorem test_stall_worked :
    let e := { entry 42 2 1 with record := { sheet 42 with measured := some 2998 } }
    let s := { holding (node .plain .run) [e] with stations := ⟨.reset,
      { Station.reset with covered := true, coverTracker := 3200, coverCount := 2560 }, .reset,
      .reset⟩ }
    s.stallThreshold .s2 = 3198 ∧
      (after s (.stall .s2)).stop.sites = [⟨2, .stall, 2, 42⟩] := by
  decide +kernel

/-- 3.7, two stops: STRAY in IDLE under epoch 0 starts a stop under epoch 1. -/
theorem test_stray_in_idle :
    let t := after (raised (bareEyes (node .plain .idle))) (.filterCountComplete .s1)
    t.stop.epoch = 1 ∧ t.stop.sites = [⟨2, .stray, 1, 0⟩] := by
  decide +kernel

/-- 3.7, order A: a JAMCALL of the current epoch adds its site behind the node's own. -/
theorem test_jamcall_joins :
    let s := { node .plain .halting with stop := { StopUnit.reset with
      path := .halting, epoch := 5, sites := [⟨2, .late, 1, 41⟩] } }
    (after (hears s .jamcall 3 5 [2, 2, 42]) .jamcallTaken).stop.sites =
      [⟨2, .late, 1, 41⟩, ⟨3, .stall, 2, 42⟩] := by
  decide +kernel

/-- 5.6, worked sequence, x = 3570: 81 leaves the claim list and 82 is served. -/
theorem test_gate_serves_behind :
    let s := { node .plain .run with gate := { pos := .a, claims := [⟨81, .a, true⟩, ⟨82, .b, false⟩] } }
    (s.leaveClaim 81).gate = { pos := .b, claims := [⟨82, .b, true⟩] } := by
  decide +kernel

/-- 10.8, t = 900: the second sheet of the set starts the staple with count 2. -/
theorem test_staple_starts :
    let r := { sheet 102 with first := false, side1 := .fixed, side2 := some .fixed }
    let one := { (sheet 101).compileRecord with last := false, side1 := .fixed, side2 := some .fixed }
    let s := { node .finish .run with deliv := { DeliveryUnit.reset with compile := [one] } }
    (s.takeRecord .run r).deliv.op = .staple ∧ (s.takeRecord .run r).deliv.stapleCount = 2 := by
  decide +kernel

/-- 10.8, t = 2700: FDONE closes set 20 with count 2 and the next staple starts. -/
theorem test_staple_ends :
    let row (id set : Nat) (first : Bool) : CompileRecord :=
      { (sheet id).compileRecord with stream := 3, set := set, first := first, last := !first }
    let s := { node .finish .run with deliv := { DeliveryUnit.reset with
      compile := [row 101 20 true, row 102 20 false, row 103 21 true, row 104 21 false]
      op := .staple, opTimer := 1800, stapleCount := 2 } }
    let t := after s (.fdone true)
    t.deliv.compile.map CompileRecord.sheet = [103, 104] ∧ t.deliv.op = .staple ∧
      t.deliv.opTimer = 0 ∧ t.deliv.announce = [.setclose 3 20 2] := by
  decide +kernel

/-- The nine issued pages of 9.6, each with its page and media class. -/
def plan96Issued : List Issued :=
  [(90, 50, 12), (91, 51, 12), (92, 52, 12), (93, 53, 13), (94, 54, 13), (95, 55, 13), (96, 56, 14),
   (97, 57, 14), (98, 58, 14)].map fun (id, n, set) =>
    { sheet := id
      page := { page n with stream := 0, set := set, media := if n = 58 then 1 else 0, dest := 7 }
      compiled := false }

/-- The reports of 9.6 as they merge, in order. -/
def plan96Unit : PlanUnit :=
  [(7, 90, Disposition.purged, SideState.fixed, 0, 0), (7, 91, .purged, .fixed, 0, 0),
   (6, 92, .heldContinue, .fixed, 0, 0), (6, 93, .heldContinue, .fixed, 1, 0),
   (4, 94, .heldContinue, .fixed, 0, 0), (3, 95, .heldPurge, .unfixed, 0, 0),
   (2, 96, .heldPurge, .unfixed, 0, 0), (1, 97, .heldBlank, .blank, 0, 0),
   (1, 98, .heldBlank, .blank, 1, 1)].foldl
    (fun u (x : Nat × Nat × Disposition × SideState × Nat × Nat) =>
      u.gather [1] x.1 { sheet := x.2.1, disposition := x.2.2.1, side1 := x.2.2.2.1, side2 := none
                         media := two x.2.2.2.2.2, position := x.2.2.2.2.1 }) PlanUnit.reset

/-- 9.6, worked plan: the plan list, the resume queue and the issued list. -/
theorem test_plan_worked :
    let p := buildPlan [1] plan96Unit { FeedUnit.reset with issued := plan96Issued }
    p.2.map (fun c => match c with | .purge n => (n, 0) | .bind n d => (n, d.page1)) =
      [(92, 0), (93, 0), (94, 0), (97, 50), (98, 0)] ∧
    p.1.resume.map (fun d => (d.page1, d.retry)) =
      [(51, 1), (52, 1), (53, 1), (54, 1), (55, 1), (56, 1), (57, 0), (58, 0)] ∧
    p.1.issued.map (fun i => (i.sheet, i.page.page1, i.page.retry)) = [(97, 50, 1)] := by
  decide +kernel

/-- R176: 44 bits after the start bit with no payload, and 13 bytes of PASS in 144 bits and 14 fills. -/
theorem test_line_bit_counts :
    (⟨.go, 1, 0, []⟩ : Frame).lineBits.length = 44 ∧
    (⟨.pass, 1, 0, passPayload 2 (sheet 7)⟩ : Frame).lineBits.length = 158 := by
  decide +kernel

/-- 11.6: the kinds' codes and classes of JAMCALL and REST. -/
theorem test_kind_codes :
    (FrameKind.jamcall.code, FrameKind.jamcall.cls, FrameKind.rest.code, FrameKind.rest.cls) =
      (1, 0, 11, 6) := rfl

/-- R139: the allocator skips the ID in use and wraps from 255 to 1. -/
theorem test_allocator_wraps :
    ({ FeedUnit.reset with lastSheet := 255, issued := [⟨1, page 1, false⟩] } : FeedUnit).nextId = 2 :=
  rfl

/-- R46: the epoch after 255 is 1. -/
theorem test_epoch_wraps : nextEpoch 255 = 1 := rfl

/-! ### Witnesses: states and operands that meet the statements' hypotheses -/

/-- `s` with `n` frames in the transmit queue. -/
def queued (s : State) (n : Nat) : State :=
  { s with line := { s.line with tx := List.replicate n ⟨.go, 2, 0, []⟩ } }

/-- A FEED node. -/
def feeder (p : PathState) : State :=
  { node .feed p with
    cfg := { cfgOf .feed with
      slots := (Configuration.powerOn.slots).set 0 { slotOn 9 with
        tray := ⟨true, true, true, true⟩ } }
    tags := { State.reset.tags with slots := State.reset.tags.slots.set 0 .asserted } }

/-- The feeder in RUN with its belt running and a page to issue. -/
def feeding : State :=
  { feeder .run with
    zones := ⟨{ Zone.reset with state := .running, position := 3 }, .reset, .reset⟩
    feed := { FeedUnit.reset with pages := [page 20, page 21] } }

theorem test_witness_step : ({ State.reset with pending := [.issue, .goTaken] } : State).pending =
    .issue :: [.goTaken] := rfl

theorem test_witness_empty_queue :
    (hears (node .plain .run) .go 1 0 []).due.head? = some .goTaken ∧ State.reset.due = [] ∧
    ({ State.reset with pins := { Pins.reset with resetn := false } } : State).due = [] := by
  decide +kernel

/-- With nothing due and a rise pending, 1 ms takes the ready timer to its time, at which it is due. -/
theorem test_witness_tick :
    let s := { node .plain .run with
      zones := ⟨{ Zone.reset with risePending := true }, .reset, .reset⟩, chain := ⟨.wait, 99⟩ }
    s.due = [] ∧ s.pins.resetn = true ∧ (s.zone .z1).risePending = true ∧
    (s.tick).chain = ⟨.wait, 100⟩ ∧ (s.tick).due = [.readyTimerExpiry] := by decide +kernel

/-- A node with sheets in hand keeps the table invariants, and its step answers a next state. -/
theorem test_witness_tables :
    let s := holding (node .plain .run) ((List.range 8).map fun i => entry (i + 1) 1 0)
    WithinCaps s ∧ sheetsUnique s ∧ ∃ t, step s = .next t := by
  refine ⟨⟨?_, ?_, ?_, ?_, ?_, ?_, ?_, ?_, ?_, ?_, ?_, ?_, ?_⟩, ?_, ⟨_, rfl⟩⟩ <;>
    first | decide +kernel | (unfold sheetsUnique; decide +kernel)

/-- A halted node with its own site. -/
def jammed : State :=
  { node .plain .halted with stop := { StopUnit.reset with
    path := .halted, epoch := 5, sites := [⟨2, .late, 1, 41⟩]
    own := some ⟨.late, 1, 41, true⟩ } }

theorem test_witness_site_law : surveyLaw jammed ∧ SiteLaw jammed ∧ ∃ t, step jammed = .next t :=
  ⟨fun h => absurd rfl h, ⟨by decide, by decide, fun h => by cases h <;> contradiction,
    fun _ => by decide, fun h => by rcases h with h | h | h <;> contradiction⟩, _, rfl⟩

theorem test_witness_zones_at_rest :
    surveyLaw jammed ∧ RestLaw jammed ∧
    brakeLaw { node .plain .run with
      supply := ⟨false, none⟩
      zones := ⟨{ Zone.reset with state := .braked }, .reset, .reset⟩ } ∧
    ({ node .plain .run with supply := ⟨false, none⟩ } : State).braking = true ∧
    ∃ t, step jammed = .next t :=
  ⟨fun h => absurd rfl h,
    ⟨fun z => by cases z <;> decide +kernel, fun _ z => by cases z <;> decide +kernel,
      fun _ z => by cases z <;> decide +kernel⟩,
    fun _ z => by cases z <;> decide +kernel, by decide +kernel, _, rfl⟩

theorem test_witness_ranges : InRange State.reset ∧ ∃ t, step State.reset = .next t :=
  ⟨⟨by decide, by decide, by decide, by decide, fun k => by cases k <;> decide,
    fun k => by cases k <;> decide, fun k => by cases k <;> decide, fun p => by cases p <;> decide,
    by decide, fun z => by cases z <;> decide, by simp [State.reset], by simp [State.reset]⟩, _, rfl⟩

theorem test_witness_feed_lists :
    let s := { feeding with feed := { feeding.feed with
      issued := [⟨1, page 30, false⟩, ⟨2, page 31, true⟩], resume := [page 32] } }
    pagesDistinct s ∧ IssuedLaw s ∧ ∃ t, step s = .next t := by
  refine ⟨?_, ⟨?_, ?_, ?_⟩, ⟨_, rfl⟩⟩
  · unfold pagesDistinct; decide +kernel
  · decide +kernel
  · decide +kernel
  · simp [feeding, feeder, node, State.reset, PlanUnit.reset]

/-- An IMAGE node takes the first step of a side, and the statement's two entries are the same sheet. -/
theorem test_witness_sides :
    let s := { holding (node .image .run) [entry 7 1 0] with
      pulses := ⟨⟨some ⟨5, 5, 1, 7⟩, none⟩, ⟨none, none⟩⟩
      cfg := { cfgOf .image with
        pulses := ⟨{ PulseCfg.powerOn with source := .station .s1, qualifier := .release },
          .powerOn⟩ }
      pending := [.pulseDelayComplete .p1] }
    sheetsUnique s ∧ ∃ t, step s = .next t ∧
      t.track.table.map (fun e => (e.record.sheet, e.record.side1)) = [(7, .unfixed)] :=
  ⟨by unfold sheetsUnique; decide +kernel, _, rfl, by decide +kernel⟩

/-- The sheet enters the table from its arrival entry at S1. -/
theorem test_witness_enters :
    let s := { expecting (raised (bareEyes (node .plain .run))) [arrival 9] with
      pending := [.filterCountComplete .s1] }
    sheetsUnique s ∧ ∃ t, step s = .next t ∧
      t.track.table.map (fun e => (e.record.sheet, e.record.side1)) = [(9, .blank)] :=
  ⟨by unfold sheetsUnique; decide +kernel, _, rfl, by decide +kernel⟩

theorem test_witness_epoch : ∃ t, exec .goTaken (hears (node .plain .idle) .go 1 7 []) = .next t ∧
    t.stop.epoch = 7 ∧ t.stop.path = .run := ⟨_, rfl, by decide +kernel, by decide +kernel⟩

theorem test_witness_frame_fits :
    Frame.Fits ⟨.pass, 15, 255, passPayload 2 (sheet 7)⟩ ∧ Frame.Fits ⟨.go, 0, 0, []⟩ :=
  ⟨⟨by decide, by decide, by decide⟩, ⟨by decide, by decide, by decide⟩⟩

theorem test_witness_payloads :
    (sheet 255).Fits ∧ (page 65535).Fits ∧ (page 65535).dest ≠ 0 ∧
    ({ sheet := 1, disposition := .removed, side1 := .blank, side2 := none, media := 0
       position := 7 } : Report).position < 8 ∧ (⟨15, .finish, 8, 255⟩ : Site).place ≤ 8 ∧
    Stance.halted ≠ .unknown :=
  ⟨⟨by decide, by decide, by decide, by decide, by decide, by decide, by decide, by decide⟩,
    ⟨by decide, by decide, by decide, by decide, by decide⟩, by decide, by decide, by decide,
    by decide⟩

theorem test_witness_configuration :
    State.reset.pins.resetn = true ∧ State.reset.stop.path = .unconfigured ∧
    (after State.reset (.configWrite .segment (.number 15))).reply = some ⟨.accepted, 0, .noData⟩ ∧
    (after State.reset (.configWrite .segment (.number 16))).reply = some ⟨.range, 0, .noData⟩ ∧
    (after State.reset (.configWrite .restDelay (.number 25500))).cfg.restDelay = 25500 ∧
    numberRange (.stationOffset 4) = some (-32768, 32767) ∧
    exec (.configRead (.stationFilter 5) 0) State.reset =
      .next { State.reset with reply := some ⟨.range, 0, .noData⟩ } ∧
    (node .plain .run).configured = true ∧ (node .plain .run).pins.resetn = true :=
  ⟨rfl, rfl, by decide +kernel, by decide +kernel, by decide +kernel, rfl, rfl, rfl, rfl⟩

theorem test_witness_reads :
    let s := holding feeding [entry 7 1 0]
    s.pins.resetn = true ∧ s.track.table[0]? = some (entry 7 1 0) ∧ s.track.table.length ≤ 1 ∧
    s.cfg.kind = some .feed ∧ s.feed.pages[1]? = some (page 21) ∧
    (node .plain .run).cfg.kind ≠ some .feed := by decide

/-- What items take and do not take, at the ends of their values. -/
theorem test_witness_item_values :
    itemTakes .kind (.kind (some .purge)) ∧ ¬ itemTakes .kind (.kind none) ∧
    itemTakes (.slotForward 8) (.forward .out2) ∧ ¬ itemTakes (.slotForward 9) (.forward .out2) ∧
    itemTakes .preImage (.segments [1, 15, 2]) ∧ ¬ itemTakes .preImage (.segments [2, 2]) ∧
    itemTakes (.route (.sink 15)) (.route (some ⟨15, .b⟩)) ∧
    ¬ itemTakes (.route .purge) (.route (some ⟨0, .a⟩)) ∧
    itemTakes .supplySelect (.number 3) ∧ ¬ itemTakes .supplySelect (.number 4) ∧
    ConfigValue.flag true ≠ .misfit := by
  refine ⟨⟨_, rfl⟩, (by rintro ⟨k, h⟩; cases h), ⟨by decide, _, rfl⟩, fun h => absurd h.1.2 (by decide),
    ⟨_, rfl, by decide, by decide, by decide⟩, ?_,
    ⟨fun d h => by cases h; decide, _, rfl, by simp⟩, ?_,
    ⟨3, 0, 3, rfl, rfl, by decide, by decide⟩, ?_, by decide⟩
  · rintro ⟨l, h, -, hn, -⟩; cases h; exact absurd hn (by decide)
  · rintro ⟨-, r, h, hr⟩; cases h; exact absurd (hr _ rfl).1 (by decide)
  · rintro ⟨n, lo, hi, h, hr, -, h2⟩; cases h; cases hr; exact absurd h2 (by decide)

/-- Reads of a list, of numbered things and of single entries, each at its last index and beyond. -/
theorem test_witness_reads_as :
    let s := holding feeding [entry 7 1 0]
    s.readsAs .segmentTable 0 (.entry (entry 7 1 0)) ∧ s.readsAs .segmentTable 1 .noData ∧
    s.readsAs .stations 4 (.station (s.station .s4)) ∧ s.readsAs .stations 5 .noData ∧
    s.readsAs .streamFaults 3 (.fault ⟨false, 0⟩) ∧ s.readsAs .streamFaults 4 .noData ∧
    s.readsAs .orphan 0 .noData ∧ s.readsAs .gate 0 .noData ∧ s.readsAs .pace 0 (.pace 65535) ∧ s.isSink = false ∧
    (node .stack .run).readsAs .delivery 0 (.delivery .reset) ∧
    readItem s.cfg .unknown = none := by
  refine ⟨⟨by simp [holding], by simp [holding]⟩, ⟨by simp [holding], fun _ => rfl⟩,
    ⟨fun x => by cases x <;> decide, fun h => absurd rfl (h .s4)⟩,
    ⟨fun x => by cases x <;> decide, fun _ => rfl⟩,
    ⟨rfl, fun x h => ?_, fun h => absurd rfl (h 3)⟩, ⟨rfl, fun x h => absurd x.isLt (by simp at h; omega), fun _ => rfl⟩,
    ⟨by simp [holding, feeding, feeder, node, State.reset], fun _ => rfl⟩,
    ⟨by simp [show (holding feeding [entry 7 1 0]).hasGate = false from rfl], fun _ => rfl⟩,
    ⟨rfl, by simp [holding, feeding, feeder, node, State.reset, FeedUnit.reset, trackerTop],
      fun h => absurd h (by decide)⟩, rfl,
    ⟨rfl, by simp [node, State.reset], fun h => absurd h (by decide)⟩, rfl⟩
  have hx : x = 3 := Fin.ext h.symm
  subst hx; rfl

/-- A configuration that START accepts. -/
def startable : State := { node .plain .unconfigured with cfg := { cfgOf .plain with
  zones := ⟨belt, belt, belt⟩ } }

theorem test_witness_start :
    startable.pins.resetn = true ∧ startable.configured = false ∧ failedCheck startable.cfg = none ∧
    (after startable (.start 0)).stop.path = .idle ∧ checkFails State.reset.cfg 1 ∧
    (∀ n, ¬ checkFails startable.cfg n) ∧ (node .plain .run).configured = true := by
  refine ⟨rfl, rfl, by decide +kernel, by decide +kernel, .inl rfl, ?_, rfl⟩
  intro n
  match n with
  | 0 => exact id
  | 1 => exact fun h => by rcases h with h | h <;> contradiction
  | 2 => exact fun h => absurd (h .s1) (by decide)
  | 3 =>
    rintro ⟨j, k, h, a, b⟩
    revert h a b; cases j <;> cases k <;> decide
  | 4 =>
    rintro ⟨k, a, b⟩
    revert a b; cases k <;> decide
  | 5 =>
    rintro ⟨k, a, b⟩
    revert a b; cases k <;> decide
  | 6 => rintro (⟨-, h, -⟩ | ⟨h, -⟩) <;> contradiction
  | 7 => rintro ⟨⟨r, h, -⟩, -⟩; contradiction
  | 8 => rintro ⟨h, -⟩; contradiction
  | 9 => rintro (⟨h, -⟩ | ⟨h, -⟩ | ⟨h, -⟩) <;> contradiction
  | 10 =>
    rintro (⟨p, k, h, -⟩ | ⟨p, h, -⟩ | ⟨h, -⟩ | ⟨h, -⟩)
    · revert h; cases p <;> cases k <;> decide
    · revert h; cases p <;> decide
    · contradiction
    · contradiction
  | 11 =>
    rintro ⟨-, x, h, hx⟩
    revert x; decide +kernel
  | n + 12 => exact id

theorem test_witness_refused :
    isLocal (.start 1) = true ∧ State.reset.pins.resetn = true ∧
    exec (.start 1) State.reset = .next { State.reset with reply := some ⟨.range, 0, .noData⟩ } ∧
    ({ State.reset with pins := { Pins.reset with resetn := false } } : State).pins.resetn = false :=
  ⟨rfl, rfl, rfl, rfl⟩

/-- The FEED node's last page of the queue, the sixteenth, finds its place; each refusal has its case. -/
theorem test_witness_page_submit :
    let s := { feeding with feed := { feeding.feed with
      pages := (List.range 15).map fun n => page (100 + n) } }
    s.pins.resetn = true ∧ (page 30).Fits ∧ s.configured = true ∧ s.cfg.kind = some .feed ∧
    s.pageInRange (page 30) ∧ ¬ s.pageInRange { page 30 with nominal := 999 } ∧
    (s.feed.faults.get 1).faulted = false ∧ (1, 30) ∉ pageKeys s ∧ (1, 100) ∈ pageKeys s ∧
    (after s (.pageSubmit (pageBytes (page 30)))).reply = some ⟨.accepted, 16, .noData⟩ := by
  refine ⟨rfl, ⟨by decide, by decide, by decide, by decide, by decide⟩, rfl, rfl, ?_, ?_, rfl, ?_,
    ?_, ?_⟩
  · unfold State.pageInRange; decide +kernel
  · unfold State.pageInRange; decide +kernel
  all_goals decide +kernel

theorem test_witness_page_held_or_full :
    (({ feeding with feed := { feeding.feed with faults := feeding.feed.faults.set 1 ⟨true, 9⟩ } } :
      State).feed.faults.get 1).faulted = true ∧
    16 ≤ ({ feeding.feed with
      pages := (List.range 16).map fun n => page (100 + n) } : FeedUnit).pages.length ∧
    (node .plain .run).cfg.kind ≠ some .feed ∧ State.reset.configured = false := by
  decide +kernel

theorem test_witness_streams :
    let s := { feeding with feed := { feeding.feed with
      faults := feeding.feed.faults.set 3 ⟨true, 9⟩ } }
    s.pins.resetn = true ∧ s.configured = true ∧ s.cfg.kind = some .feed ∧
    (s.feed.faults.get 3).faulted = true ∧ (s.feed.faults.get 1).faulted = false ∧
    (3 : Fin 4).val = 3 ∧ 3 < 4 ∧
    (after s (.streamCancel 1 0)).reply = some ⟨.accepted, 2, .noData⟩ := by decide +kernel

theorem test_witness_notices :
    let s := after State.reset (.noticeSetup [.supplyLow] [.supplyLow] true)
    s.pins.resetn = true ∧ s.notice .supplyLow = ⟨true, true, true⟩ ∧
    (after s (.noticeClear [.supplyLow] true)).notice .supplyLow = ⟨true, true, true⟩ ∧
    s.outputs.attn = false := by decide +kernel

/-- The HALTED notice is enabled and its condition comes to hold in the last zone's step. -/
theorem test_witness_latches :
    let s := { node .plain .halting with
      zones := ⟨{ Zone.reset with state := .falling, position := 7 }, .reset, .reset⟩
      notices := State.reset.notices.set 1 ⟨true, false, false⟩ }
    (s.notice .halted).enabled = true ∧ s.condition .halted = false ∧
    (after s (.zoneStep .z1)).condition .halted = true ∧
    ((after s (.zoneStep .z1)).notice .halted).latch = true := by decide +kernel

theorem test_witness_counted_edge :
    (node .plain .run).inUse .z1 = true ∧ ((node .plain .run).zoneCfg .z1).mode = .lowToHigh ∧
    (node .plain .run).inUse .z2 = false ∧ (node .plain .run).present .s2 = true ∧
    (node .plain .run).present .s3 = false ∧ (node .plain .run).pulseBound .p1 .z1 = False ∧
    ({ node .plain .run with cfg := { cfgOf .plain with
      pulses := ⟨{ PulseCfg.powerOn with source := .station .s2 }, .powerOn⟩ } } : State).pulseBound
        .p1 .z1 := ⟨by decide +kernel, rfl, by decide +kernel, rfl, rfl, rfl, rfl⟩

theorem test_witness_raw_change :
    let s := node .plain .run
    let u := { s with pins := { s.pins with sns := s.pins.sns.set StationId.s1.ix true } }
    s.configured = true ∧ s.present .s1 = true ∧ s.pins.sns.get StationId.s1.ix ≠ true ∧
    (s.stationCfg .s1).filter ≠ 0 ∧ u.rawCovered .s1 ≠ (s.station .s1).covered ∧
    s.present .s4 = false := by decide +kernel

theorem test_witness_raw_edge :
    let s := { node .plain .run with cfg := { cfgOf .plain with
      stations := ⟨{ eye with filter := 0 }, eye, .powerOn, .powerOn⟩ } }
    (s.stationCfg .s1).filter = 0 ∧
    (after s (.sensorRawChange .s1 true)).track.orphan = some 0 := by decide +kernel

/-- S1 due a leading edge, both by counted edges and still. -/
theorem test_witness_edge_due (still : Bool) :
    (raised (bareEyes (node .plain .run))).edgeDue .s1 still ∧
    (raised (bareEyes (node .plain .run))).edgeDue .s2 still := by
  unfold State.edgeDue; cases still <;> decide +kernel

theorem test_witness_lead_s1 :
    let s := raised (bareEyes (node .plain .run))
    let e := (List.range 8).map fun i => entry (i + 1) 1 0
    s.rawCovered .s1 = true ∧ s.cfg.gapMin ≤ (s.station .s1).gapTracker ∧
    (expecting (holding s (e.take 7)) [arrival 3, arrival 9, arrival 10]).track.arrivals =
      [arrival 3] ++ arrival 9 :: [arrival 10] ∧
    (after (expecting (holding s (e.take 7)) [arrival 3, arrival 9, arrival 10])
      (.filterCountComplete .s1)).track.table.map (fun x => x.record.sheet) =
      [1, 2, 3, 4, 5, 6, 7, 9] ∧
    Clear (expecting (holding s e) [arrival 9]) ∧
    (raised (bareEyes (node .plain .idle))).stop.path = .idle := by
  refine ⟨?_, ?_, rfl, ?_, ⟨rfl, rfl, ?_⟩, rfl⟩ <;> decide +kernel

theorem test_witness_lead_beyond :
    let s := raised (bareEyes (holding (node .plain .run) [entry 6 2 1, entry 7 1 0, entry 8 1 0]))
    sheetsUnique s ∧ s.rawCovered .s2 = true ∧ s.cfg.gapMin ≤ (s.station .s2).gapTracker ∧
    FirstIn (fun e : Entry => e.lead + 1 = StationId.s2.num) s.track.table [entry 6 2 1] (entry 7 1 0)
      [entry 8 1 0] ∧
    (∀ e ∈ (node .plain .run).track.table, e.lead + 1 ≠ StationId.s2.num) ∧
    (after s (.stillEdge .s2)).track.table.map Entry.lead = [2, 2, 1] := by
  refine ⟨?_, ?_, ?_, ⟨rfl, rfl, ?_⟩, ?_, ?_⟩
  · unfold sheetsUnique; decide +kernel
  all_goals decide +kernel

/-- A node whose gate is set at station `k`, with P1 triggered by both stations' leading edges. -/
def gated (k : StationId) (source : StationId) (edge : TriggerEdge) (p : PathState) : State :=
  { node .plain p with
    cfg := { cfgOf .plain with
      gateSet := k, gateStation := .s2, gateDistance := 900, gateGuard := 10
      legMap := [⟨.purge, ⟨3, .b⟩⟩]
      pulses := ⟨{ PulseCfg.powerOn with source := .station source, edge := edge, a1 := 40, b1 := 9 },
        .powerOn⟩ } }

/-- At S1 the claim is made and the pulse output triggered; a queue of duplicates is emptied. -/
theorem test_witness_lead_s1_claims :
    let s := raised (bareEyes (gated .s1 .s1 .leading .run))
    let u := expecting s [arrival 9]
    let v := expecting (holding s [entry 9 1 0]) [arrival 9]
    s.hasGate = true ∧ s.routeFor (arrival 9).record.leg = some ⟨3, .b⟩ ∧ s.gate.claims.length < 2 ∧
    s.triggered .p1 .s1 .leading (sheet 9) ∧ (s.pulse .p1).delay = none ∧
    (after u (.filterCountComplete .s1)).gate.claims.map Claim.sheet = [9] ∧
    (after u (.filterCountComplete .s1)).pulse .p1 = ⟨some ⟨0, 40, 9, 9⟩, none⟩ ∧
    (∀ a ∈ v.track.arrivals,
      a.record.sheet ∈ v.track.table.map fun e => e.record.sheet) ∧
    (after v (.filterCountComplete .s1)).track.orphan = some 0 ∧
    (after { v with stop := { v.stop with path := .idle } } (.filterCountComplete .s1)).stop.sites =
      [⟨2, .stray, 1, 0⟩] :=
  ⟨by decide +kernel, by decide +kernel, by decide, ⟨rfl, rfl, .inl rfl⟩, rfl, by decide +kernel,
    by decide +kernel, by decide +kernel, by decide +kernel, by decide +kernel⟩

/-- Beyond S1: the claim at S2, GATE for a claim set at S1 that still waits, PULSE on a pending delay, and
STRAY that joins in FLUSH and is dropped in READY. -/
theorem test_witness_lead_beyond_claims :
    let go (s : State) := after (raised (bareEyes s)) (.filterCountComplete .s2)
    let s := holding (gated .s2 .s2 .leading .run) [entry 7 1 0]
    let w := { holding (gated .s1 .s1 .leading .run) [entry 7 1 0] with
      gate := { pos := .a, claims := [⟨7, .b, false⟩] } }
    let p := { holding (node .plain .run) [entry 7 1 0] with
      cfg := { (gated .s1 .s2 .leading .run).cfg with legMap := [] }
      pulses := ⟨⟨some ⟨1, 40, 9, 6⟩, none⟩, ⟨none, none⟩⟩ }
    s.hasGate = true ∧ (go s).gate.claims.map Claim.sheet = [7] ∧ Clear w ∧
    w.cfg.gateSet.num < StationId.s2.num ∧ (go w).stop.sites = [⟨2, .gate, 2, 7⟩] ∧
    p.hasGate = false ∧ p.triggered .p1 .s2 .leading (sheet 7) ∧ (p.pulse .p1).delay ≠ none ∧
    (go p).stop.sites = [⟨2, .pulse, 1, 7⟩] ∧
    (go (node .plain .flush)).stop.sites = [⟨2, .stray, 2, 0⟩] ∧
    (go (node .plain .ready)).stop.path = .ready :=
  ⟨by decide +kernel, by decide +kernel, ⟨rfl, rfl, by decide⟩, by decide, by decide +kernel,
    by decide +kernel, ⟨rfl, rfl, .inl rfl⟩, by decide, by decide +kernel, by decide +kernel,
    by decide +kernel⟩

/-- An IMAGE node in RUN with image station `k` and P1 as RELEASE on an edge at S1, with delay `a`. -/
def imager (k : StationId) (edge : TriggerEdge) (a : Nat) : State :=
  { node .image .run with cfg := { cfgOf .image with
    imageStation := k
    pulses := ⟨{ PulseCfg.powerOn with
      source := .station .s1, edge := edge, qualifier := .release, a1 := a, b1 := 9 }, .powerOn⟩ } }

/-- The image rule at a leading edge: a released sheet is imaged at the image station alone, a release
that the edge starts images the sheet there, and a complete delay starts its pulse ahead of the trigger. -/
theorem test_witness_imaged :
    let r := { sheet 9 with released := true }
    let s (k : StationId) :=
      expecting (raised (bareEyes (imager k .leading 40))) [{ arrival 9 with record := r }]
    let u := expecting (raised (bareEyes (imager .s1 .leading 0))) [arrival 9]
    let v := { holding u [entry 7 2 1] with pulses := ⟨⟨some ⟨40, 40, 9, 7⟩, none⟩, ⟨none, none⟩⟩ }
    let side (x : State) := x.track.table.map fun e => (e.record.sheet, e.record.side1)
    (s .s1).imaged .s1 r = r.toned ∧ (s .s2).imaged .s1 r = r ∧
    (∀ p, ¬ (s .s1).releasesAt p .s1 .leading r) ∧ u.releasesAt .p1 .s1 .leading (sheet 9) ∧
    side (after (s .s1) (.filterCountComplete .s1)) = [(9, .unfixed)] ∧
    side (after (s .s2) (.filterCountComplete .s1)) = [(9, .blank)] ∧
    side (after u (.filterCountComplete .s1)) = [(9, .unfixed)] ∧
    v.releaseReady 7 ∧ v.triggered .p1 .s1 .leading (sheet 9) ∧
    side (after v (.filterCountComplete .s1)) = [(7, .unfixed), (9, .blank)] ∧
    (after v (.filterCountComplete .s1)).pulse .p1 = ⟨some ⟨0, 0, 9, 9⟩, some ⟨0, 9, 7⟩⟩ :=
  ⟨by decide +kernel, by decide +kernel,
    fun p h => (by
      cases p <;> simp [State.releasesAt, State.triggered, State.pulseCfg, PulseId.ix, Duo.get,
        expecting, raised, bareEyes, imager, node, cfgOf, PulseCfg.powerOn, State.reset, State.pulse,
        sheet] at h),
    ⟨rfl, rfl, ⟨rfl, rfl, .inr ⟨rfl, rfl, rfl, rfl⟩⟩, by decide, rfl, .inl ⟨rfl, rfl⟩⟩,
    by decide +kernel, by decide +kernel, by decide +kernel,
    ⟨rfl, .p1, _, rfl, rfl, rfl, by decide, rfl⟩, ⟨rfl, rfl, .inr ⟨rfl, rfl, rfl, rfl⟩⟩,
    by decide +kernel, by decide +kernel⟩

/-- A trailing edge at an IMAGE node leaves the record, and releases it where it starts the pulse. -/
theorem test_witness_trail_image :
    let s (a : Nat) := coveredEyes (holding (imager .s1 .trailing a) [entry 7 1 0])
    let rel (x : State) := x.track.table.map fun e => (e.record.released, e.record.side1)
    (s 0).releasesAt .p1 .s1 .trailing (sheet 7) ∧
    rel (after (s 0) (.filterCountComplete .s1)) = [(true, .unfixed)] ∧
    rel (after (s 40) (.filterCountComplete .s1)) = [(false, .blank)] ∧
    (after (s 0) (.filterCountComplete .s1)).stop.path = .run :=
  ⟨⟨rfl, rfl, ⟨rfl, rfl, .inr ⟨rfl, rfl, rfl, rfl⟩⟩, by decide, rfl, .inl ⟨rfl, rfl⟩⟩,
    by decide +kernel, by decide +kernel, by decide +kernel⟩

/-- The order of due steps: what the carry of a counted edge brings about ahead of the edge, and a survey
ahead of a waiting frame. -/
theorem test_due_order :
    let e := { entry 7 2 1 with passTracker := some 50 }
    let s := { coveredEyes (holding (node .plain .run) [e]) with
      pulses := ⟨⟨some ⟨40, 40, 9, 7⟩, none⟩, ⟨none, none⟩⟩ }
    let h := hears (node .plain .halted) .rest 1 0 []
    s.due = [.passPointReached 0, .pulseDelayComplete .p1, .filterCountComplete .s1,
      .filterCountComplete .s2] ∧
    h.due.take 2 = [.surveyStart, .restTaken] := by decide +kernel

/-- A withheld PASS of the front entry is due ahead of the pass point of the entry behind, and the front
entry leaves first (R6, log 60). -/
theorem test_pass_order :
    let e (id : Nat) := { entry id 2 2 with passTracker := some 50 }
    let s := holding (node .plain .run) [{ e 7 with passHold := .due }, e 8]
    s.due.take 2 = [.deferredPass 0, .passPointReached 1] ∧
    (after s (.deferredPass 0)).track.table = [e 8] := by decide +kernel

/-- A STALL test that fails since another sheet is expected waits for its tracker's next advance. -/
theorem test_stall_waits :
    let e (id trail len : Nat) := { entry id 2 trail with record := { sheet id with nominal := len } }
    let s := { holding (node .plain .run) [e 7 0 1000] with
      stations := ⟨{ Station.reset with covered := true, count := 2, coverCount := 65535 },
        { Station.reset with covered := true, coverTracker := 2000 }, .reset, .reset⟩
      pins := { Pins.reset with sns := ⟨false, true, false, false⟩ } }
    let t := after s (.filterCountComplete .s1)
    s.stalled .s2 = false ∧ t.stalled .s2 = true ∧ t.stallDue .s2 = false ∧
    (after t (.encoderCountedEdge .z1 true)).stallDue .s2 = true := by decide +kernel

/-- S1 and S2 due a trailing edge. -/
theorem test_witness_trail_due (still : Bool) :
    (coveredEyes (node .plain .run)).edgeDue .s1 still ∧
    (coveredEyes (node .plain .run)).edgeDue .s2 still := by
  unfold State.edgeDue; cases still <;> decide +kernel

theorem test_witness_trail_before :
    let s := coveredEyes (holding (node .plain .run) [entry 6 2 1, entry 7 1 0, entry 8 1 0])
    sheetsUnique s ∧ s.rawCovered .s1 = false ∧ StationId.s1.num < s.lastStation ∧
    s.track.orphan = none ∧
    FirstIn (trailsAt .s1) s.track.table [entry 6 2 1] (entry 7 1 0) [entry 8 1 0] ∧
    (after s (.filterCountComplete .s1)).track.table.map (fun e => (e.trail, e.record.measured)) =
      [(1, none), (1, some 3000), (0, none)] := by
  refine ⟨?_, ?_, ?_, rfl, ⟨rfl, ⟨rfl, by decide⟩, ?_⟩, ?_⟩
  · unfold sheetsUnique; decide +kernel
  · decide +kernel
  · decide +kernel
  · simp [trailsAt, entry, StationId.num]
  · decide +kernel

/-- The clauses of any trailing edge: an orphan ended, no entry that expects it, and the pace tracker. -/
theorem test_witness_trail_any :
    let s := coveredEyes (node .plain .run)
    let o := { s with track := { s.track with orphan := some 5 } }
    let p := { coveredEyes (feeder .run) with feed := { FeedUnit.reset with pace := 77 } }
    o.edgeDue .s1 false ∧ o.rawCovered .s1 = false ∧ Clear o ∧
    (after o (.filterCountComplete .s1)).stop.sites = [⟨2, .stray, 1, 0⟩] ∧
    (∀ e ∈ s.track.table, ¬ trailsAt .s2 e) ∧
    (after s (.filterCountComplete .s2)).stop = s.stop ∧ p.cfg.paceStation = .s1 ∧
    (after p (.filterCountComplete .s1)).feed.pace = 0 ∧
    (after p (.filterCountComplete .s2)).feed.pace = 77 :=
  ⟨by unfold State.edgeDue; decide +kernel, by decide +kernel, ⟨rfl, rfl, by decide⟩, by decide +kernel,
    (fun _ h => nomatch h), by decide +kernel, rfl, by decide +kernel, by decide +kernel⟩

/-- The turn and fix clauses: a duplex sheet with its PASS withheld, and a fuser with S1 as its station. -/
theorem test_witness_turn_and_fix :
    let e := { entry 7 1 0 with
      passHold := .withheld, record := { sheet 7 with side1 := .fixed, purge := false } }
    let s := coveredEyes (holding (node .turn .run) [e])
    s.cfg.turnStation = .s1 ∧ e.record.leg = .duplex ∧ s.line.tx.length ≤ 11 ∧
    (after s (.filterCountComplete .s1)).track.table.map
      (fun e => (e.record.current, e.loc)) = [(.two, .handed)] ∧
    (node .fix .run).cfg.fixStation = .s1 := by decide +kernel

/-- A trailing edge at S1 triggers P1; one at the gate station lets the claim go. -/
theorem test_witness_trail_triggers :
    let s := coveredEyes (holding (gated .s1 .s1 .trailing .halting) [entry 7 1 0])
    let u := { s with
      cfg := { s.cfg with gateStation := .s1 }, gate := { pos := .b, claims := [⟨7, .b, true⟩] } }
    s.triggered .p1 .s1 .trailing (sheet 7) ∧
    (after s (.filterCountComplete .s1)).pulse .p1 = ⟨some ⟨0, 40, 9, 7⟩, none⟩ ∧
    (after s (.filterCountComplete .s1)).stop.path = .halting ∧ u.hasGate = true ∧
    (after u (.filterCountComplete .s1)).gate.claims = [] :=
  ⟨⟨rfl, rfl, .inl rfl⟩, by decide +kernel, by decide +kernel, by decide +kernel, by decide +kernel⟩

theorem test_witness_gap_and_length :
    let s := raised { node .plain .run with stations :=
      ⟨{ Station.reset with count := 2, gapTracker := 99 }, .reset, .reset, .reset⟩ }
    let u := { coveredEyes (holding (node .plain .run) [entry 7 1 0]) with
      stations := ⟨{ Station.reset with covered := true, count := 2, coverCount := 2425 }, .reset,
        .reset, .reset⟩ }
    Clear s ∧ (s.station .s1).gapTracker < s.cfg.gapMin ∧ s.edgeDue .s1 false ∧
    Clear u ∧ u.edgeDue .s1 false ∧ FirstIn (trailsAt .s1) u.track.table [] (entry 7 1 0) [] ∧
    u.lengthAt .s1 = 3031 ∧
    (entry 7 1 0).record.nominal + (u.window (entry 7 1 0).record.media).tolerance < 3031 := by
  refine ⟨⟨rfl, rfl, by decide⟩, by decide, ?_, ⟨rfl, rfl, by decide⟩, ?_,
    ⟨rfl, ⟨rfl, by decide⟩, by simp⟩, by decide +kernel, by decide⟩
  all_goals unfold State.edgeDue; decide +kernel

theorem test_witness_trail_last :
    let e := { entry 7 2 1 with loc := .handed, passSent := true }
    let s := coveredEyes (holding (node .plain .run) [e])
    s.rawCovered .s2 = false ∧ StationId.s2.num = s.lastStation ∧ s.isSink = false ∧
    FirstIn (trailsAt .s2) s.track.table [] e [] ∧
    (after s (.filterCountComplete .s2)).track.table = [] :=
  ⟨by decide +kernel, by decide +kernel, rfl, ⟨rfl, ⟨rfl, by decide⟩, by simp⟩, by decide +kernel⟩

/-- The worked sequence of 1.7: a turn at Sn sends the withheld PASS and ends the entry; one whose pass
point is not reached stays turned. -/
theorem test_witness_turn_last :
    let e := { entry 7 2 1 with
      passHold := .withheld, record := { sheet 7 with side1 := .fixed, purge := false } }
    let s := coveredEyes (holding { node .turn .run with
      cfg := { cfgOf .turn with turnStation := .s2 } } [e])
    let u := coveredEyes (holding { node .turn .run with
      cfg := { cfgOf .turn with turnStation := .s2 } } [{ e with passHold := .clear }])
    s.cfg.turnStation = .s2 ∧ e.record.leg = .duplex ∧ s.line.tx.length ≤ 11 ∧
    (after s (.filterCountComplete .s2)).track.table = [] ∧
    (after s (.filterCountComplete .s2)).line.tx.map Frame.kind = [.pass] ∧
    (after u (.filterCountComplete .s2)).track.table.map (fun x => x.record.current) = [.two] := by
  decide +kernel

/-- R95, R96: a trailing edge at Sn triggers its output, at a sink and elsewhere. -/
theorem test_trigger_at_the_last_station :
    let g := gated .s1 .s2 .trailing .halting
    let s (k : NodeKind) := coveredEyes (holding { g with cfg := { g.cfg with kind := some k } }
      [{ entry 7 2 1 with loc := .handed }])
    (s .plain).triggered .p1 .s2 .trailing (sheet 7) ∧
    (after (s .plain) (.filterCountComplete .s2)).stop.path = .halting ∧
    ((after (s .plain) (.filterCountComplete .s2)).pulse .p1).delay = some ⟨0, 40, 9, 7⟩ ∧
    ((after (s .stack) (.filterCountComplete .s2)).pulse .p1).delay = some ⟨0, 40, 9, 7⟩ := by
  refine ⟨⟨rfl, rfl, .inl rfl⟩, ?_, ?_, ?_⟩ <;> decide +kernel

/-- A stacker at its last station, calm, with eleven announcements waiting. -/
theorem test_witness_sinks :
    let e := { entry 7 2 1 with record := { sheet 7 with side1 := .fixed, side2 := some .fixed } }
    let s := { coveredEyes (holding (node .stack .run) [e]) with deliv := { DeliveryUnit.reset with
      announce := List.replicate 11 (.setclose 0 1 2) } }
    s.isSink = true ∧ Calm s .s2 false e ∧ s.deliv.announce.length < 12 ∧
    FirstIn (trailsAt .s2) s.track.table [] e [] ∧
    (after s (.filterCountComplete .s2)).deliv.announce.length = 12 := by
  refine ⟨rfl, ⟨by decide +kernel, fun p => by cases p <;> rfl⟩, by decide +kernel,
    ⟨rfl, ⟨rfl, by decide⟩, by simp⟩, by decide +kernel⟩

/-- With twelve announcements waiting the frame is lost with LINE; a set of two sheets is stapled. -/
theorem test_witness_sinks_lost_and_stapled :
    let ok (id : Nat) := { sheet id with side1 := .fixed, side2 := some .fixed }
    let e := { entry 7 2 1 with record := { ok 7 with first := false } }
    let s := { coveredEyes (holding (node .stack .run) [e]) with deliv := { DeliveryUnit.reset with
      announce := List.replicate 12 (.setclose 0 1 2) } }
    let one := { (ok 6).compileRecord with last := false }
    let u := { coveredEyes (holding (node .finish .run) [e]) with
      deliv := { DeliveryUnit.reset with compile := [one] } }
    Clear s ∧ Calm s .s2 false e ∧ 12 ≤ s.deliv.announce.length ∧
    (after s (.filterCountComplete .s2)).stop.sites = [⟨2, .line, 2, 0⟩] ∧
    IsStapleRun [one, e.record.compileRecord] ∧
    (after u (.filterCountComplete .s2)).deliv.stapleCount = 2 :=
  ⟨⟨rfl, rfl, by decide⟩, ⟨by decide +kernel, fun p => by cases p <;> rfl⟩, by decide,
    by decide +kernel,
    ⟨⟨_, _, rfl, rfl⟩, by decide +kernel, [_], _, rfl, rfl, by decide⟩, by decide +kernel⟩

theorem test_witness_compile_full :
    let e := entry 7 2 1
    let s := { coveredEyes (holding (node .finish .run) [e]) with deliv := { DeliveryUnit.reset with
      compile := List.replicate 16 (sheet 1).compileRecord } }
    Clear s ∧ 16 ≤ s.deliv.compile.length ∧ Calm s .s2 false e ∧
    (after s (.filterCountComplete .s2)).stop.sites = [⟨2, .finish, 0, 7⟩] :=
  ⟨⟨rfl, rfl, by decide⟩, by decide, ⟨by decide +kernel, fun p => by cases p <;> rfl⟩,
    by decide +kernel⟩

theorem test_witness_corrected_length :
    ((0 : Int) = (0 : Nat) * (5120 : Nat) * (65536 : Nat) + 0 * 2 ^ 20) ∧
    (-129 * 2 ^ 20 + 2 ^ 27 : Int) < 0 ∧ (0 : Int) ≤ -128 * 2 ^ 20 + 2 ^ 27 ∧
    (2 ^ 28 * 8192 : Int) ≤ 2 ^ 28 * 8192 - 2 ^ 27 + 2 ^ 27 := by decide

/-- An entry at its pass point, with thirteen frames and with fourteen queued. -/
theorem test_witness_pass_point :
    let e := { entry 7 2 1 with passTracker := some 50 }
    let s := holding (node .plain .run) [entry 6 2 1, e]
    sheetsUnique s ∧ AtPassPoint s e ∧ ¬ TurnHold s e ∧
    ((after (queued s 13) (.passPointReached 1)).line.tx.length = 14) ∧
    Clear (queued s 14) ∧ (after (queued s 14) (.passPointReached 1)).line.txOverflow = true := by
  refine ⟨by unfold sheetsUnique; decide +kernel, ⟨rfl, rfl, rfl, rfl, 50, rfl, by decide⟩,
    (by rintro ⟨h, -, -⟩; cases h), by decide +kernel, ⟨rfl, rfl, by decide⟩, by decide +kernel⟩

theorem test_witness_turn_hold :
    let e := { entry 7 2 0 with passTracker := some 50, record := { sheet 7 with side1 := .fixed } }
    let s := holding (node .turn .run) [e]
    AtPassPoint s e ∧ TurnHold s e ∧
    AtPassPoint (holding (node .turn .run) [{ e with passHold := .due, trail := 1 }])
      { e with passHold := .due, trail := 1 } ∧
    ¬ TurnHold s { e with passHold := .due, trail := 1 } :=
  ⟨⟨rfl, rfl, rfl, rfl, 50, rfl, by decide⟩, ⟨rfl, by decide, by decide⟩,
    ⟨rfl, rfl, rfl, rfl, 50, rfl, by decide⟩, fun h => absurd h.2.2 (by decide)⟩

theorem test_witness_window_tests :
    let e := { entry 7 1 0 with leadTracker := 1861 }
    let a := { arrival 8 with link := 561 }
    let s := { expecting (holding (node .plain .run) [e]) [a] with
      stations := ⟨{ Station.reset with covered := true, coverTracker := 3201 },
        { Station.reset with covered := true, coverTracker := 5001 }, .reset, .reset⟩
      gate := { pos := .a, claims := [⟨7, .b, false⟩] } }
    Clear s ∧ s.track.table[0]? = some e ∧ e.lead < s.lastStation ∧
    (s.stationCfg .s2).spacing + (s.window e.record.media).late < e.leadTracker ∧
    a.linkDistance + (s.window a.record.media).late < a.link ∧
    FirstIn (trailsAt .s1) s.track.table [] e [] ∧
    e.record.measured.getD e.record.nominal + (s.window e.record.media).stall <
      (s.station .s1).coverTracker ∧
    (∀ x ∈ s.track.table, ¬ trailsAt .s2 x) ∧ 4800 + (s.window 0).stall < (s.station .s2).coverTracker ∧
    e.lead = s.cfg.gateSet.num ∧ s.cfg.gateDistance ≤ e.leadTracker + s.cfg.gateGuard := by
  refine ⟨⟨rfl, rfl, by decide⟩, rfl, by decide +kernel, by decide, by decide,
    ⟨rfl, ⟨rfl, by decide⟩, by simp⟩, by decide, ?_, by decide, rfl, by decide⟩
  simp [holding, expecting, trailsAt, entry, StationId.num]

theorem test_witness_faults :
    let z : Zone := { Zone.reset with state := .running }
    let s := { node .plain .run with
      zones := ⟨z, .reset, .reset⟩, chain := ⟨.on, 0⟩, supply := ⟨true, some 8⟩
      track := { State.reset.track with orphan := some 101 }
      line := { LineUnit.reset with errorRun := 16 } }
    Clear s ∧ s.inUse .z1 = true ∧ (s.zone .z1).state = .running ∧ (s.zone .z1).atRest = false ∧
    s.pins.vsense < supplyReference s.cfg.supplySelect ∧ 16 ≤ s.line.errorRun ∧
    s.track.orphan = some 101 ∧ s.cfg.orphanHold < 101 :=
  ⟨⟨rfl, rfl, by decide⟩, by decide +kernel, rfl, rfl, by decide, by decide, rfl, by decide⟩

/-- Two zones whose silence timers run out in one ms (R52, R60, R88); the profile holds `v` alone. -/
def silentPair (k : NodeKind) (v : Nat) : State :=
  let z : Zone := { Zone.reset with state := .running, output := 500, silenceTimer := 16 }
  let t := node k .run
  { t with
    cfg := { t.cfg with
      stations := ⟨eye, { eye with zone := .z2 }, .powerOn, .powerOn⟩, zones := ⟨belt, belt, .powerOn⟩
      profile := Vector.replicate 256 v }
    zones := ⟨z, z, .reset⟩, chain := ⟨.on, 0⟩, pending := [] }

/-- The first silence starts the stop and the second joins it, be the zones falling or at rest at once. -/
theorem test_two_silences : ∀ v ∈ [500, 4000],
    let t := after (silentPair .plain v) (.silenceTimeout .z1)
    (silentPair .plain v).due = [.silenceTimeout .z1, .silenceTimeout .z2] ∧ t.due = [] ∧
    t.stop.path = (if v = 500 then .halting else .halted) ∧ t.causeCount .drive = 2 ∧
    t.line.tx.length = 3 ∧ t.stop.own = some ⟨.drive, 1, 0, true⟩ := by decide +kernel

/-- A silence whose zone another node's JAMCALL stopped in the same ms: it joins in HALTING, and is dropped
in HALTED (R45). -/
theorem test_silence_after_jamcall : ∀ v ∈ [500, 4000],
    let s := silentPair .feed v
    let f : Frame := ⟨.jamcall, 4, 3, [1, 1, 41]⟩
    let t := after { s with line := { s.line with rx := [f] } } .jamcallTaken
    t.stop.path = (if v = 500 then .halting else .halted) ∧ .silenceTimeout .z1 ∈ t.due ∧
    (after t (.silenceTimeout .z1)).causeCount .drive = (if v = 500 then 2 else 0) ∧
    .silenceTimeout .z2 ∉ (after t (.silenceTimeout .z1)).due := by decide +kernel

theorem test_witness_silence :
    let s := silentPair .plain 500
    Clear s ∧ s.inUse .z1 = true ∧ (s.zone .z1).silenceStopped = false ∧
    (s.zone .z1).state = .running ∧ s.silentIn .z1 .z2 = true ∧ s.silentIn .z1 .z3 = false ∧
    s.line.tx.length ≤ 12 :=
  ⟨⟨rfl, rfl, by decide +kernel⟩, by decide +kernel⟩

theorem test_witness_ready_timer :
    let s := { node .plain .run with
      zones := ⟨{ Zone.reset with risePending := true }, .reset, .reset⟩, chain := ⟨.wait, 100⟩ }
    Clear s ∧ s.chain.state = .wait ∧ (s.zone .z1).risePending = true ∧
    (after s .readyTimerExpiry).stop.sites = [⟨2, .drive, 0, 0⟩] :=
  ⟨⟨rfl, rfl, by decide⟩, rfl, rfl, by decide +kernel⟩

theorem test_witness_causes :
    Cause.late.takesEffect (node .plain .halting).stop.path = false ∧
    Cause.line.takesEffect (node .plain .halting).stop.path = true ∧
    Cause.late.takesEffect (node .plain .flush).stop.path = true ∧
    (queued (node .plain .flush) 14).line.tx.length ≤ 14 ∧
    ((queued (node .plain .flush) 14).raise .late 1 7).line.tx.length = 16 := by decide +kernel

theorem test_witness_gate :
    let s := { holding (node .plain .run) [entry 81 1 0] with
      gate := { pos := .a, claims := [⟨82, .b, false⟩] } }
    let c := { cfgOf .plain with gateStation := .s2, legMap := [⟨.purge, ⟨3, .b⟩⟩] }
    let u := { s with cfg := c }
    (s.station s.cfg.gateStation).covered = false ∧
    u.routeFor (entry 81 1 0).record.leg = some ⟨3, .b⟩ ∧ (entry 81 1 0).trail < u.cfg.gateStation.num ∧
    u.gate.claims.length < 2 ∧ (u.makeClaim 81).gate.claims.length = 2 ∧
    FirstIn (fun f : Entry => f.record.sheet = (entry 81 1 0).record.sheet) u.track.table []
      (entry 81 1 0) [] ∧ Clear u :=
  ⟨rfl, by decide +kernel, by decide, by decide, by decide +kernel, ⟨rfl, rfl, by simp⟩,
    ⟨rfl, rfl, by decide⟩⟩

/-- R90: a claim SET or WAITING where it is made, alone and behind another, and none for a sheet that has
passed the gate station. -/
theorem test_claim_cases :
    let s := { gated .s1 .s1 .leading .run with gate := { pos := .a, claims := [] } }
    let made (p : PathState) (l : List Claim) (trail : Nat) :=
      (({ holding s [entry 7 1 trail] with
        stop := { s.stop with path := p }, gate := { pos := .a, claims := l } } :
        State).makeClaim 7).gate
    s.cfg.gateStation = .s2 ∧ s.routeFor (sheet 7).leg = some ⟨3, .b⟩ ∧
    made .run [] 0 = ⟨.b, [⟨7, .b, true⟩]⟩ ∧ made .halted [] 0 = ⟨.a, [⟨7, .b, false⟩]⟩ ∧
    made .run [⟨6, .a, true⟩] 0 = ⟨.a, [⟨6, .a, true⟩, ⟨7, .b, false⟩]⟩ ∧
    made .halted [⟨6, .b, false⟩] 0 = ⟨.a, [⟨6, .b, false⟩, ⟨7, .b, false⟩]⟩ ∧
    made .run [] 2 = ⟨.b, []⟩ ∧ made .halted [] 2 = ⟨.a, []⟩ := by decide +kernel

theorem test_witness_pulses :
    let c := { cfgOf .image with
      pulses := ⟨{ PulseCfg.powerOn with source := .station .s1, qualifier := .release }, .powerOn⟩ }
    let s := { holding (node .image .run) [entry 7 1 0] with
      cfg := c, pulses := ⟨⟨some ⟨40, 40, 9, 7⟩, none⟩, ⟨some ⟨3, 3, 2, 7⟩, some ⟨9, 9, 6⟩⟩⟩ }
    sheetsUnique s ∧ (s.pulse .p1).delay = some ⟨40, 40, 9, 7⟩ ∧ (s.pulse .p1).active = none ∧
    s.cfg.kind = some .image ∧ (s.pulseCfg .p1).qualifier = .release ∧
    s.cfg.imageStation.num ≤ (entry 7 1 0).lead ∧
    FirstIn (fun e : Entry => e.record.sheet = 7) s.track.table [] (entry 7 1 0) [] ∧
    (s.pulse .p2).active = some ⟨9, 9, 6⟩ ∧
    (after s (.pulseWidthEnd .p2)).pulse .p2 = ⟨none, some ⟨0, 2, 7⟩⟩ :=
  ⟨by unfold sheetsUnique; decide +kernel, rfl, rfl, rfl, rfl, by decide, ⟨rfl, rfl, by simp⟩, rfl,
    by decide +kernel⟩

/-- The lane is open with an entry handed past the pace station and thirty-one pages issued. -/
theorem test_witness_issue :
    let s := holding { feeding with feed := { feeding.feed with
      lastSheet := 255
      issued := (List.range 31).map fun n => ⟨n + 1, page (100 + n), false⟩ } } [entry 9 2 1]
    LaneOpen s ∧ IsCandidate s (page 20) { s.feed with pages := [page 21] } ∧
    s.trayReady (page 20).media = true ∧ s.feed.lastSheet ≤ 255 ∧
    (after s .issue).feed.lastSheet = 32 ∧ (s.pulse .p1).delay = none := by
  refine ⟨⟨rfl, rfl, fun z => by cases z <;> decide +kernel, by decide, rfl, by decide, by decide,
    by decide, by decide⟩, .inr ⟨by decide, [], [page 21], ⟨rfl, by decide, by simp⟩, rfl⟩, ?_, ?_, ?_,
    rfl⟩ <;> decide +kernel

/-- A pick on a delay that waits for a width is PULSE, and one on a complete delay starts its pulse first. -/
theorem test_witness_issue_pulse :
    let s (w : Option PulseWidth) := { feeding with
      pulses := ⟨⟨some ⟨0, 0, 9, 6⟩, w⟩, ⟨none, none⟩⟩ }
    Clear (s (some ⟨1, 5, 5⟩)) ∧ (after (s (some ⟨1, 5, 5⟩)) .issue).stop.sites.map Site.cause = [.pulse] ∧
    ((after (s none) .issue).pulse .p1).active = some ⟨0, 9, 6⟩ ∧
    ((after (s none) .issue).pulse .p1).delay.isSome = true ∧
    (after (s none) .issue).stop.sites = [] :=
  ⟨⟨rfl, rfl, by decide⟩, by decide +kernel, by decide +kernel, by decide +kernel, by decide +kernel⟩

theorem test_witness_feed_unit :
    let s := { feeding with zones := ⟨.reset, .reset, .reset⟩, chain := ⟨.on, 0⟩ }
    let u := { feeder .idle with feed := feeding.feed }
    let v := queued { feeder .run with feed := { FeedUnit.reset with restTimer := 100 } } 14
    s.stop.path = .run ∧ s.cfg.paceGap ≤ s.feed.pace ∧
    IsCandidate s (page 20) { s.feed with pages := [page 21] } ∧ s.braking = false ∧
    s.inUse .z1 = true ∧ (s.zone .z1).atRest = true ∧ u.startTest = true ∧ v.resting = true ∧
    v.line.tx.length = 14 ∧ v.stop.own = none :=
  ⟨rfl, by decide, .inr ⟨by decide, [], [page 21], ⟨rfl, by decide, by simp⟩, rfl⟩,
    by decide +kernel, by decide +kernel, rfl, by decide +kernel, by decide +kernel, by decide, rfl⟩

/-- R80: rises asked for with the chain OFF wait for DRDY, or begin where it is present. -/
theorem test_rises_from_off :
    let s (drdy : Bool) := { feeding with
      zones := ⟨.reset, .reset, .reset⟩, chain := ⟨.off, 7⟩, pins := { feeding.pins with drdy := drdy } }
    RunsClean (hears (node .plain .ready) .go 1 0 []) ∧
    (after (s false) .paceGapReached).chain = ⟨.wait, 0⟩ ∧
    ((after (s false) .paceGapReached).zone .z1).risePending = true ∧
    (after (s true) .paceGapReached).chain.state = .on ∧
    (after (s true) .paceGapReached).zone .z1 = (s true).begun .z1 ∧
    (after (hears (node .plain .ready) .go 1 0 []) .goTaken).chain = ⟨.wait, 0⟩ :=
  ⟨⟨by decide +kernel, by decide +kernel, fun k => by cases k <;> decide +kernel, by decide +kernel,
    by decide +kernel, by decide +kernel⟩, by decide +kernel, by decide +kernel, by decide +kernel,
    by decide +kernel, by decide +kernel⟩

/-- R85: GO in IDLE takes a fall over at the first entry at or above the output. -/
theorem test_takeover :
    let t := node .plain .idle
    let s := hears { t with
      cfg := { t.cfg with profile := ((t.cfg.profile.set 1 300).set 2 700).set 3 900 }
      zones := ⟨{ Zone.reset with state := .falling, position := 5, output := 500 }, .reset, .reset⟩
      chain := ⟨.on, 0⟩ } .go 2 7 []
    let x := (after s .goTaken).zone .z1
    (x.state, x.position, x.output) = (.rising, 2, 700) := by decide +kernel

theorem test_witness_drive :
    let s := { node .plain .run with
      zones := ⟨{ Zone.reset with risePending := true }, .reset, .reset⟩, chain := ⟨.wait, 3⟩ }
    s.chain.state = .wait ∧ (s.zone .z1).risePending = true ∧
    (after s .drdyPresent).zone .z1 = s.begun .z1 ∧
    ({ node .plain .run with chain := ⟨.on, 0⟩ } : State).allRest = true := by decide +kernel

theorem test_witness_zone_step :
    let s := { node .plain .halting with
      zones := ⟨{ Zone.reset with state := .falling, position := 7, output := 9 }, .reset, .reset⟩ }
    let u := { s with zones := ⟨{ Zone.reset with state := .rising, position := 2 }, .reset, .reset⟩ }
    s.inUse .z1 = true ∧ (s.zoneCfg .z1).fallEnd ≤ (s.zone .z1).position ∧
    (queued s 15).line.tx.length < 16 ∧ (after (queued s 15) (.zoneStep .z1)).stop.path = .halted ∧
    (u.zone .z1).state = .rising ∧ (after u (.zoneStep .z1)).zones.a.state = .running := by
  decide +kernel

theorem test_witness_inputs :
    let s := { node .plain .run with
      cfg := { cfgOf .plain with inputTags := ⟨12, 0, 0, 0⟩ }
      pins := { Pins.reset with inp := ⟨true, false, false, false⟩, vsense := 1125000 }
      tags := { State.reset.tags with inputs := ⟨⟨false, some 4⟩, ⟨false, none⟩, ⟨false, none⟩,
        ⟨false, none⟩⟩ }
      supply := ⟨false, some 8⟩ }
    s.configured = true ∧ s.inputTag .in1 ≠ 0 ∧ (s.input .in1).hold.isSome = true ∧
    s.pins.inp.get InputId.in1.ix ≠ (s.input .in1).level ∧ s.inputTag .in2 = 0 ∧
    (after s (.tagHoldExpiry .in1)).line.tx.length = 1 ∧ s.supply.hold.isSome = true ∧
    supplyReference s.cfg.supplySelect ≤ s.pins.vsense ∧
    (after s .supplyHoldExpiry).supply = ⟨true, none⟩ := by decide +kernel

theorem test_witness_finish :
    let d := { DeliveryUnit.reset with
      compile := [(sheet 101).compileRecord], op := .staple, stapleCount := 1 }
    let s := { node .finish .run with deliv := d }
    let v := { node .finish .clearing with
      deliv := { d with op := .void }, clear := { ClearUnit.reset with phase := .voidWait } }
    s.cfg.kind = some .finish ∧ s.pins.fdone = false ∧ s.deliv.announce.length < 12 ∧
    (after s (.fdone true)).deliv.announce = [.setclose 1 4 1] ∧ v.clear.phase = .voidWait ∧
    (after v (.fdone true)).clear.reports.map Report.disposition = [.purged] ∧
    (after v .operationTimeout).clear.residual = true := by decide +kernel

theorem test_witness_waiting_lists :
    let r : Report := ⟨7, .removed, .blank, none, 0, 0⟩
    let s := queued { node .plain .clearing with
      clear := { ClearUnit.reset with phase := .reporting, reports := [r] }
      deliv := { DeliveryUnit.reset with announce := [.setclose 1 4 1] }
      plan := { PlanUnit.reset with phase := .emitting, list := [.purge 7] } } 13
    s.line.tx.length < 14 ∧ (after s .announcementQueued).line.tx.length = 14 ∧
    (after s .reportQueued).clear.reports = [] ∧ (after s .planFrameQueued).plan.list = [] ∧
    (after { s with plan := { s.plan with list := [] } } .planGoQueued).plan.phase = .sent ∧
    (after { s with
      clear := { s.clear with reports := [] }, deliv := .reset } .readyQueued).stop.path = .ready := by
  decide +kernel

theorem test_witness_jamcall :
    Front (hears (node .plain .run) .jamcall 3 5 [14, 8, 42]) .jamcall ⟨.jamcall, 3, 5, [14, 8, 42]⟩ [] ∧
    CarriesSite ⟨.jamcall, 3, 5, [14, 8, 42]⟩ ⟨3, .finish, 8, 42⟩ ∧
    (∀ x, ¬ CarriesSite ⟨.jamcall, 3, 5, [14, 9, 42]⟩ x) ∧
    (after (hears (holding (node .plain .run) [{ entry 7 1 0 with claimed := 0 }]) .jamcall 6 5
      [1, 1, 41]) .jamcallTaken).stop.path = .flush :=
  ⟨⟨rfl, rfl, rfl⟩, ⟨by decide, by decide, rfl, rfl, rfl, by decide, rfl⟩,
    fun x h => absurd (h.place ▸ h.few) (by decide), by decide +kernel⟩

theorem test_witness_stopstate :
    Front (hears jammed .stopstate 15 5 [3]) .stopstate ⟨.stopstate, 15, 5, [3]⟩ [] ∧
    Stance.halted.code = byteAt [3] 0 ∧ byteAt [4] 0 ∉ [1, 2, 3] ∧
    (after (hears (expecting jammed [{ arrival 7 with sender := 15 }]) .stopstate 15 5 [3])
      .stopstateTaken).track.arrivals.map Arrival.unresolved = [true] :=
  ⟨⟨rfl, rfl, rfl⟩, rfl, by decide, by decide +kernel⟩

/-- In FLUSH a JAMCALL or a STOPSTATE of the segment ahead turns the node to rest, and so does the last
arrival entry's sender; a JAMCALL from the segment ahead finds row 3 of R66. -/
theorem test_witness_flush_turns :
    let s := { holding (node .plain .flush) [entry 7 1 0] with
      stop := { StopUnit.reset with path := .flush, epoch := 5, sites := [⟨4, .late, 1, 41⟩] } }
    let d := { expecting s [arrival 8] with
      track := { State.reset.track with arrivals := [arrival 8] } }
    HaltAhead s (s.stop.setStance 3 .halting) ∧ s.nextOf (entry 7 1 0) = 3 ∧
    (after (hears s .jamcall 3 5 [1, 1, 41]) .jamcallTaken).stop.path = .halted ∧
    (after (hears s .jamcall 6 5 [1, 1, 41]) .jamcallTaken).stop.path = .flush ∧
    (after (hears s .stopstate 3 5 [2]) .stopstateTaken).stop.path = .halted ∧
    (after (hears s .stopstate 1 5 [2]) .stopstateTaken).stop.path = .flush ∧
    (after (hears d .stopstate 1 5 [2]) .stopstateTaken).stop.path = .halted ∧
    (after (hears (holding (node .plain .run) [entry 7 1 0]) .jamcall 3 5 [1, 1, 41])
      .jamcallTaken).stop.path = .halted ∧
    (after (hears (node .plain .run) .jamcall 6 5 [1, 1, 41]) .jamcallTaken).stop.path = .halted := by
  refine ⟨.inl ⟨entry 7 1 0, by simp [holding], by decide, by decide, .inr ?_⟩, ?_, ?_, ?_, ?_, ?_, ?_, ?_,
    ?_⟩ <;> decide +kernel

/-- A node whose slot 1 is a stop and a panel slot listening to tag 63. -/
def guarded (p : PathState) : State :=
  { node .plain p with
    cfg := { cfgOf .plain with
      slots := Configuration.powerOn.slots.set 0 { slotOn 63 with stop := true } }
    tags := { State.reset.tags with slots := State.reset.tags.slots.set 0 .clear } }

theorem test_witness_tagstate :
    let s := hears (guarded .run) .tagstate 4 0 [63, 1]
    Front s .tagstate ⟨.tagstate, 4, 0, [63, 1]⟩ [] ∧ Clear s ∧ s.aggregate = false ∧
    (s.cfg.slots.get 0).tag = 63 ∧ (s.cfg.slots.get 0).stop = true ∧
    true ≠ (s.cfg.slots.get 0).invert ∧ byteAt [63, 1] 1 = true.toNat ∧
    (after s .tagstateTaken).stop.own = some ⟨.interlock, 1, 0, false⟩ ∧
    (queued (hears (guarded .run) .tagstate 4 0 [0, 0]) 10).line.tx.length ≤ 10 ∧
    63 < byteAt [64, 0] 0 :=
  ⟨⟨rfl, rfl, rfl⟩, ⟨rfl, rfl, by decide⟩, by decide +kernel, rfl, rfl, by decide, rfl,
    by decide +kernel, by decide, by decide⟩

/-- A panel slot that opens takes READY to CLEARING with a withdrawn READY. -/
theorem test_witness_panel_opens :
    let g := guarded .ready
    let s := hears { g with
      cfg := { g.cfg with slots := g.cfg.slots.set 0 { slotOn 63 with panel := true } }
      tags := { g.tags with slots := g.tags.slots.set 0 .asserted } } .tagstate 4 0 [63, 0]
    s.groupOpen = false ∧ (after s .tagstateTaken).groupOpen = true ∧ s.line.tx.length < 14 ∧
    (after s .tagstateTaken).stop.path = .clearing := by decide +kernel

/-- Two panel slots that open together in RUN are two instances of INTERLOCK; OUT2 follows slot 3. -/
theorem test_witness_panels_in_run :
    let x := { slotOn 63 with panel := true }
    let y := { slotOn 5 with forward := .out2 }
    let s := { node .plain .run with
      cfg := { cfgOf .plain with
        slots := ((Configuration.powerOn.slots.set 0 x).set 1 x).set 2 y }
      tags := { State.reset.tags with slots := Vector.replicate 8 .asserted } }
    let t := after (hears s .tagstate 4 0 [63, 0]) .tagstateTaken
    Clear s ∧ s.groupOpen = false ∧ s.configured = true ∧ s.outputs.out2 = true ∧
    (List.finRange 8).filter (fun n => (s.cfg.slots.get n).tag = 63 ∧
      (s.cfg.slots.get n).panel = true ∧ s.tags.slots.get n = .asserted ∧
      false = (s.cfg.slots.get n).invert) = [0, 1] ∧
    t.stop.own = some ⟨.interlock, 1, 0, false⟩ ∧ t.stop.path = .clearing ∧
    t.causeCount .interlock = 2 ∧ t.line.tx.map Frame.kind = [.stopstate, .jamcall, .jamcall] :=
  ⟨⟨rfl, rfl, by decide⟩, by decide +kernel, rfl, by decide +kernel, by decide +kernel,
    by decide +kernel, by decide +kernel, by decide +kernel, by decide +kernel⟩

/-- A PASS finds an orphan at its hold distance and one beyond it. -/
theorem test_witness_pass_orphan :
    let s (h : Nat) := hears { node .plain .run with
      track := { State.reset.track with orphan := some h } } .pass 1 0 (passPayload 2 (sheet 7))
    (s 100).cfg.orphanHold = 100 ∧ (after (s 100) .passTaken).track.table.length = 1 ∧
    (after (s 101) .passTaken).stop.sites = [⟨2, .stray, 1, 0⟩] ∧
    (after (s 101) .passTaken).track.arrivals.length = 1 := by decide +kernel

/-- An adopted sheet has its claim where S1 is the gate-set station; a PASS in IDLE asks for the rise. -/
theorem test_witness_pass_claim :
    let p := passPayload 2 (sheet 7)
    let g := gated .s1 .s1 .leading .run
    let s := hears { g with track := { g.track with orphan := some 33 } } .pass 1 0 p
    let u := after (hears (node .plain .idle) .pass 1 0 p) .passTaken
    s.hasGate = true ∧ s.cfg.gateSet = .s1 ∧ (after s .passTaken).gate = ⟨.b, [⟨7, .b, true⟩]⟩ ∧
    (after s .passTaken).track.table.map Entry.claimed = [3] ∧
    u.chain = ⟨.wait, 0⟩ ∧ (u.zone .z1).risePending = true := by decide +kernel

theorem test_witness_pass :
    let p := passPayload 2 (sheet 7)
    let s := hears (node .plain .run) .pass 1 0 p
    Front s .pass ⟨.pass, 1, 0, p⟩ [] ∧ field p 0 7 4 = s.cfg.segment ∧
    passRecord p = some (sheet 7) ∧ (sheet 7).side2.isSome = (sheet 7).page2.isSome ∧
    (after s .passTaken).track.arrivals.map (fun a => a.record.sheet) = [7] ∧
    (after (hears { holding (node .plain .run) [] with track :=
      { State.reset.track with orphan := some 33 } } .pass 1 0 p)
      .passTaken).track.table.map Entry.leadTracker = [33] ∧
    FirstIn (fun b : Arrival => b.record.sheet = (sheet 7).sheet) [arrival 6, arrival 7] [arrival 6]
      (arrival 7) [] ∧ 4 ≤ [arrival 1, arrival 2, arrival 3, arrival 4].length :=
  ⟨⟨rfl, rfl, rfl⟩, by decide +kernel, by decide +kernel, rfl, by decide +kernel, by decide +kernel,
    ⟨rfl, rfl, by decide⟩, by decide⟩

theorem test_witness_deliver :
    let i : Issued := ⟨7, { page 10 with retry := 3 }, false⟩
    let s := { feeder .run with feed := { FeedUnit.reset with issued := [⟨6, page 9, false⟩, i] } }
    let f (v : Variant) : Frame := ⟨.deliver, 5, 0, deliverPayload v 7 1 (some 10)⟩
    let hear (v : Variant) := hears s .deliver 5 0 (f v).payload
    FirstIn (fun i : Issued => i.matchesDeliver (f .purge) = true) s.feed.issued [⟨6, page 9, false⟩] i
      [] ∧ field (f .purge).payload 1 7 4 = 3 ∧
    Front (hear .purge) .deliver (f .purge) [] ∧
    (after (hear .purge) .deliverPurge).feed.faults.get 1 = ⟨true, 10⟩ ∧
    ((after (hear .compiled) .deliverCompiled).feed.issued.map Issued.compiled = [false, true]) ∧
    (after (hear .final) .deliverFinal).feed.issued.length = 1 :=
  ⟨⟨rfl, by decide +kernel, by decide +kernel⟩, by decide +kernel, ⟨rfl, rfl, rfl⟩, by decide +kernel,
    by decide +kernel, by decide +kernel⟩

theorem test_witness_setclose :
    let s := hears { feeder .run with feed := { FeedUnit.reset with
      issued := [⟨6, page 9, true⟩, ⟨7, { page 10 with set := 5 }, true⟩] } } .setclose 5 0
        (setclosePayload 1 4 16)
    Front s .setclose ⟨.setclose, 5, 0, setclosePayload 1 4 16⟩ [] ∧
    (1 : Fin 4).val = field (setclosePayload 1 4 16) 0 7 6 ∧
    byteAt (setclosePayload 1 4 16) 2 = 16 ∧ byteAt (setclosePayload 1 4 17) 2 = 17 ∧
    (after s .setcloseTaken).feed.lastClose = some ⟨1, 4, 16, 1⟩ :=
  ⟨⟨rfl, rfl, rfl⟩, by decide +kernel, by decide +kernel, by decide +kernel, by decide +kernel⟩

theorem test_witness_report :
    let r : Report := ⟨7, .heldBlank, .blank, none, 1, 6⟩
    let s := hears (feeder .halting) .report 5 0 (reportPayload r)
    Front s .report ⟨.report, 5, 0, reportPayload r⟩ [] ∧ 5 ∈ s.cfg.roster ∧
    reportOf (reportPayload r) = some r ∧ s.plan.phase = .gathering ∧
    (after s .reportTaken).plan.candidates = [⟨7, 5, 6, 1⟩] :=
  ⟨⟨rfl, rfl, rfl⟩, by decide, by decide +kernel, rfl, by decide +kernel⟩

/-- The last READY of the roster builds the plan; the nine pages of 9.6 make a plan of their own. -/
theorem test_witness_ready_and_plan :
    let s := hears { feeder .ready with plan := { PlanUnit.reset with readySet := [2, 3] } } .ready 5 0
      (readyPayload false)
    Front s .ready ⟨.ready, 5, 0, readyPayload false⟩ [] ∧ 5 ∈ s.cfg.roster ∧
    flagAt (readyPayload false) 0 0 = false ∧ flagAt (readyPayload true) 0 0 = true ∧
    (∀ g ∈ s.cfg.roster, g ∈ s.plan.readySet ∨ g = 5) ∧
    (after s .readyTaken).plan.phase = .emitting ∧
    ∃ g cmds, buildPlan [1] plan96Unit { FeedUnit.reset with issued := plan96Issued } = (g, cmds) :=
  ⟨⟨rfl, rfl, rfl⟩, by decide, by decide +kernel, by decide +kernel, by decide, by decide +kernel,
    _, _, rfl⟩

/-- R157, R160: the first page of a stream that a plan drops, for a retry of 4 and beyond the 32nd. -/
theorem test_plan_drops :
    let i (n : Nat) : Issued := ⟨n, { page n with stream := 2, retry := 3 }, false⟩
    let p := buildPlan [1] .reset { FeedUnit.reset with
      issued := [i 1, i 2], resume := (List.range 33).map fun k => page (40 + k) }
    FaultedByPlan .reset [i 1, i 2] 2 ∧ p.1.faults.get 2 = ⟨true, 1⟩ ∧ p.1.resume.length = 32 ∧
    p.1.faults.get 1 = ⟨true, 72⟩ ∧ p.1.issued = [] :=
  ⟨⟨[], _, _, rfl, ⟨by decide +kernel, fun h => absurd h (by decide +kernel)⟩, rfl, by decide +kernel, rfl⟩,
    by decide +kernel, by decide +kernel, by decide +kernel, by decide +kernel⟩

/-- 9.6: sheet 93 continues behind 90, which does not, and joins the reprint set; 97 stays blank. -/
theorem test_witness_plan_rules :
    Reprints plan96Unit (plan96Issued.take 3) ⟨93, { page 53 with
      stream := 0, set := 13, media := 0, dest := 7 }, false⟩ ∧
    (plan96Unit.entry 93).continues = true ∧ plan96Issued[3]?.map Issued.sheet = some 93 ∧
    (plan96Unit.entry 97).disposition = some .heldBlank ∧
    ¬ Reprints plan96Unit [] ⟨93, page 53, false⟩ := by
  refine ⟨⟨by decide +kernel, fun _ => ⟨(plan96Issued[0]?).getD ⟨0, page 0, false⟩, ?_, ?_, ?_⟩⟩, ?_, ?_,
    ?_, ?_⟩
  rotate_right
  · rintro ⟨-, h⟩
    obtain ⟨j, hj, -⟩ := h (by decide +kernel)
    cases hj
  all_goals decide +kernel

theorem test_witness_plan :
    let e := { entry 7 1 0 with loc := .held, disposition := some .heldBlank }
    let p := planPayload (.bind 7 (page 40))
    let s := hears (holding (node .plain .ready) [e]) .plan 1 0 p
    Front s .plan ⟨.plan, 1, 0, p⟩ [] ∧ planOk ⟨.plan, 1, 0, p⟩ ∧
    planOk ⟨.plan, 1, 0, planPayload (.purge 7)⟩ ∧ ¬ planOk ⟨.plan, 1, 0, [3, 7]⟩ ∧ sheetsUnique s ∧
    FirstIn (fun e : Entry => e.record.sheet = 7) s.track.table [] e [] ∧
    (after s .planBind).track.table.map (fun e => e.record.page1) = [some 40] := by
  refine ⟨⟨rfl, rfl, rfl⟩, ?_, ?_, ?_, ?_, ⟨rfl, rfl, by simp⟩, by decide +kernel⟩
  · unfold planOk; decide +kernel
  · unfold planOk; decide +kernel
  · unfold planOk; decide +kernel
  · unfold sheetsUnique; decide +kernel

theorem test_witness_go :
    let e := { entry 7 1 0 with loc := .held, disposition := some .heldPurge, passSent := true }
    let s := hears (holding (node .plain .ready) [e]) .go 1 0 []
    Front s .go ⟨.go, 1, 0, []⟩ [] ∧ s.supply.ok = true ∧ RunsClean s ∧
    (after s .goTaken).stop.path = .run ∧
    (after s .goTaken).track.table.map (fun e => (e.loc, e.record.purge)) = [(.handed, true)] ∧
    (after (hears jammed .go 1 5 []) .goTaken).stop.sites = [⟨2, .notready, 0, 0⟩] := by
  refine ⟨⟨rfl, rfl, rfl⟩, rfl, ⟨?_, ?_, fun k => by cases k <;> decide +kernel, ?_, ?_, ?_⟩, ?_, ?_, ?_⟩
    <;> decide +kernel

/-- A GO that a low supply turns away sets the FEED node's pace tracker all the same. -/
theorem test_witness_go_low :
    let s := { hears (node .feed .idle) .go 2 7 [] with
      supply := ⟨false, none⟩, feed := { FeedUnit.reset with pace := 5 } }
    s.supply.ok = false ∧ s.stop.own = none ∧ s.line.tx.length ≤ 14 ∧
    (after s .goTaken).feed.pace = 65535 ∧ (after s .goTaken).stop.epoch = 8 := by decide +kernel

theorem test_witness_rest :
    let s := hears { node .plain .run with
      zones := ⟨{ Zone.reset with state := .running, output := 3 }, .reset, .reset⟩ } .rest 1 0 []
    Front s .rest ⟨.rest, 1, 0, []⟩ [] ∧ s.track.table = [] ∧ s.track.orphan = none ∧
    (after s .restTaken).stop.path = .idle ∧ ((after s .restTaken).zone .z1).state = .falling :=
  ⟨⟨rfl, rfl, rfl⟩, rfl, rfl, by decide +kernel, by decide +kernel⟩

theorem test_witness_survey :
    let s := { holding (node .plain .halted) [entry 7 1 0, entry 8 1 0] with stations :=
      ⟨{ Station.reset with covered := true }, .reset, .reset, .reset⟩ }
    SurveyOpen s ∧ (∀ e ∈ s.track.table, Judged s e .heldBlank) ∧
    (after s .surveyStart).clear.reports.map (fun r => (r.sheet, r.disposition, r.position)) =
      [(7, .heldBlank, 0), (8, .heldBlank, 1)] ∧
    (after { s with tags := { s.tags with panelCycle := true } } .surveyStart).clear.residual = true := by
  refine ⟨⟨.inl rfl, rfl, rfl, by decide +kernel, rfl, by simp [holding, node, StopUnit.reset],
    by simp [holding, node, cfgOf]⟩, ?_, ?_, ?_⟩
  · intro e he
    have h : e = entry 7 1 0 ∨ e = entry 8 1 0 := by simpa [holding] using he
    rcases h with rfl | rfl <;>
      refine ⟨?_, fun _ => rfl⟩ <;> rintro ⟨k, h1, h2, h3, h4⟩ <;> revert h1 h2 h3 h4 <;>
      cases k <;> decide
  · decide +kernel
  · decide +kernel

/-- A running zone, with a profile that its fall region meets at entry 5. -/
def moving (p : PathState) : State :=
  let s := node .plain p
  { s with
    cfg := { s.cfg with profile := ((s.cfg.profile.set 4 900).set 5 400).set 6 100 }
    zones := ⟨{ Zone.reset with state := .running, position := 3, output := 500 }, .reset, .reset⟩
    chain := ⟨.on, 0⟩ }

/-- R63, R73, R74, R86: a cause in RUN has the zone fall from the first entry at or below its output, and
HALTING announced, then the JAMCALL; with the zone at rest HALTED alone. SUPPLY brakes it, also as the
first own cause in HALTING. -/
theorem test_witness_entry_to_halting :
    let s := moving .run
    let t := s.raise .late 1 7
    let notices (u : State) := u.line.tx.map fun f => (f.kind, byteAt f.payload 0)
    Falls s .z1 (t.zone .z1) ∧ ¬ callsBrake t.stop.own ∧ t.stop.path = .halting ∧
    t.restNotice = t.stanceNotice .halting ∧
    notices t = [(.stopstate, 2), (.jamcall, Cause.late.code)] ∧
    notices ((node .plain .run).raise .late 1 7) = [(.stopstate, 3), (.jamcall, Cause.late.code)] ∧
    notices ((moving .flush).raise .late 1 7) = [(.jamcall, Cause.late.code), (.stopstate, 2)] ∧
    (((moving .halting).raise .supply 0 0).zone .z1).state = .braked ∧
    ((moving .halting).raise .supply 0 0).stop.path = .halted := by
  refine ⟨.inl ⟨5, ?_, ?_, ?_, ?_, ?_, ?_, ?_, ?_⟩, ?_, ?_, ?_, ?_, ?_, ?_, ?_, ?_⟩
  · decide +kernel
  · decide +kernel
  · decide +kernel
  · intro j h1 h2
    obtain rfl : j = 4 := by
      have h3 : (4 : Nat) ≤ j := h1
      omega
    decide +kernel
  · decide +kernel
  · decide +kernel
  · decide +kernel
  · decide +kernel
  · rintro ⟨o, h, hc⟩
    have : o = ⟨.late, 1, 7, true⟩ := by
      have h' : ((moving .run).raise .late 1 7).stop.own = some ⟨.late, 1, 7, true⟩ := by decide +kernel
      exact (Option.some.inj (h'.symm.trans h)).symm
    subst this
    rcases hc with hc | hc <;> cases hc
  all_goals decide +kernel

/-- R63: a node that a JAMCALL finds drained announces FLUSHING, then the rest that it enters. -/
theorem test_witness_drained_announces :
    let t := after (hears (moving .run) .jamcall 5 9 [1, 1, 0]) .jamcallTaken
    t.stop.path = .halting ∧
    t.line.tx.map (fun f => (f.kind, byteAt f.payload 0)) = [(.stopstate, 1), (.stopstate, 2)] := by
  decide +kernel

/-- R38, R108, R129: a LATE that GO finds in READY begins a stop, and so does an open panel in IDLE. -/
theorem test_witness_entry_tests :
    let s := hears (holding (node .plain .ready) [{ entry 7 1 0 with loc := .held, leadTracker := 1861 }])
      .go 1 0 []
    let n := node .plain .idle
    let u := hears { n with
      cfg := { n.cfg with slots := n.cfg.slots.set 3 { slotOn 9 with panel := true } } } .go 1 7 []
    EntryTest s .late 2 7 ∧ (after s .goTaken).stop.sites = [⟨2, .late, 2, 7⟩] ∧
    (after s .goTaken).stop.epoch = 1 ∧
    EntryTest u .interlock 4 0 ∧ (after u .goTaken).stop.sites = [⟨2, .interlock, 4, 0⟩] ∧
    (after u .goTaken).stop.epoch = 8 := by
  refine ⟨.late { entry 7 1 0 with loc := .held, leadTracker := 1861 } .s2 (by decide +kernel)
      (.inr rfl) (by decide) (by decide +kernel) rfl (by decide +kernel), ?_, ?_,
    .panel 3 ?_ ?_ ?_, ?_, ?_⟩
  · decide +kernel
  · decide +kernel
  · intro m; unfold StopSlotOn; revert m; decide +kernel
  · unfold PanelSlotOpen; decide +kernel
  · intro m; unfold PanelSlotOpen; revert m; decide +kernel
  · decide +kernel
  · decide +kernel

/-- R139: the allocator steps on from an ID that an issued entry holds. -/
theorem test_witness_next_id :
    let s := { feeding with feed := { feeding.feed with
      lastSheet := 254, issued := [⟨255, page 9, false⟩, ⟨1, page 8, false⟩] } }
    (after s .issue).feed.lastSheet = 2 ∧ s.trayReady 1 = true ∧
    (after { s with tags := State.reset.tags } .issue).feed.lastSheet = 254 := by decide +kernel

/-- R172: FOP is high while a staple is in flight. -/
theorem test_fop :
    ((node .finish .run).startOp .staple).outputs.fop = true ∧
    (node .finish .run).outputs.fop = false := by decide +kernel

theorem test_witness_line :
    let s := { node .plain .run with line := { LineUnit.reset with
      tx := [⟨.go, 2, 0, []⟩, ⟨.stopstate, 2, 0, [3]⟩, ⟨.stopstate, 2, 0, [2]⟩] } }
    s.configured = true ∧ s.line.sending = none ∧
    (after s .frameTransmitStart).line.sending = some ⟨.stopstate, 2, 0, [3]⟩ ∧
    (after (after s .frameTransmitStart) .frameSent).line.rx = [⟨.stopstate, 2, 0, [3]⟩] ∧
    (after (after s .frameTransmitStart) .transmitError).line.errorRun = 1 ∧
    (after s (.frameReceived (⟨.go, 4, 9, []⟩ : Frame).lineBits)).line.rx = [⟨.go, 4, 9, []⟩] ∧
    32 ≤ (List.replicate 32 (⟨.go, 4, 9, []⟩ : Frame)).length := by decide +kernel

/-- Sixteen errors in a row are LINE before the next error and before a frame sent. -/
theorem test_witness_error_limit :
    let f : Frame := ⟨.go, 2, 0, []⟩
    let s := { node .plain .run with line := { LineUnit.reset with
      tx := [f], sending := some f, errorRun := 16 } }
    Clear s ∧ f ∈ s.line.tx ∧ (after s .transmitError).stop.sites = [⟨2, .line, 3, 0⟩] ∧
    (after s .transmitError).line.errorRun = 1 ∧ (after s .frameSent).line.rx = [f] ∧
    (after s .frameSent).line.limitFlag = true :=
  ⟨⟨rfl, rfl, by decide⟩, by decide, by decide +kernel, by decide +kernel, by decide +kernel,
    by decide +kernel⟩

/-- Eleven recessive bits that end with the last CRC bit of a frame with no payload. -/
theorem test_witness_idle_run :
    let bits := List.replicate 32 false ++ List.replicate 11 true ++ [false]
    let len := ofBits (((removeFill 10 bits).drop 19).take 5)
    len = 0 ∧ 32 + 11 = 40 + 8 * len + (39 + 8 * len) / 10 ∧
    (after (node .plain .run) (.frameReceived bits)).line.crcErrors = 1 := by decide +kernel

/-- Bits whose check does not agree, and bits of no kind. -/
theorem test_witness_bad_bits :
    let body := (⟨.go, 4, 9, []⟩ : Frame).body
    let odd := toBits 3 6 ++ toBits 4 4 ++ toBits 4 12 ++ toBits 8 9 ++ toBits 5 0
    24 ≤ body.length ∧ (0 : BitVec 16) ≠ crc body ∧
    body.length = 24 + 8 * ofBits ((body.drop 19).take 5) ∧
    odd.length = 24 + 8 * ofBits ((odd.drop 19).take 5) ∧
    (∀ k : FrameKind, k.code ≠ ofBits ((odd.drop 7).take 4)) ∧
    (after (node .plain .run) (.frameReceived
      (insertFill 10 (odd ++ toBits 16 (crc odd).toNat)))).line.stale = 1 :=
  ⟨by decide +kernel, by decide +kernel, by decide +kernel, by decide +kernel,
    fun k => by cases k <;> decide +kernel, by decide +kernel⟩

end Sys2Proof.Tests
end

section
/-! SUPPORT. Parts that a bounded change leaves, and what every operation of the stop controller keeps: the
sheets, pages and frames that the node holds. -/

namespace Sys2Proof.Machine

/-! ### The parts outside a bound, one by one -/

section
variable {l : List Part} {s t : State} (h : changesOnly l s t)
include h

theorem changesOnly.cfg (hn : .cfg ∉ l := by decide) : t.cfg = s.cfg := h .cfg hn
theorem changesOnly.stop (hn : .stop ∉ l := by decide) : t.stop = s.stop := h .stop hn
theorem changesOnly.stations (hn : .stations ∉ l := by decide) : t.stations = s.stations :=
  h .stations hn
theorem changesOnly.zones (hn : .zones ∉ l := by decide) : t.zones = s.zones := h .zones hn
theorem changesOnly.chain (hn : .chain ∉ l := by decide) : t.chain = s.chain := h .chain hn
theorem changesOnly.track (hn : .track ∉ l := by decide) : t.track = s.track := h .track hn
theorem changesOnly.gate (hn : .gate ∉ l := by decide) : t.gate = s.gate := h .gate hn
theorem changesOnly.pulses (hn : .pulses ∉ l := by decide) : t.pulses = s.pulses := h .pulses hn
theorem changesOnly.tags (hn : .tags ∉ l := by decide) : t.tags = s.tags := h .tags hn
theorem changesOnly.feed (hn : .feed ∉ l := by decide) : t.feed = s.feed := h .feed hn
theorem changesOnly.plan (hn : .plan ∉ l := by decide) : t.plan = s.plan := h .plan hn
theorem changesOnly.deliv (hn : .deliv ∉ l := by decide) : t.deliv = s.deliv := h .deliv hn
theorem changesOnly.line (hn : .line ∉ l := by decide) : t.line = s.line := h .line hn

end

/-! ### What the stop controller keeps -/

/-- Between `s` and `t` nothing but a stop's parts moved, and of these the sheets, the pages and the frames
stay: frames are only added to the transmit queue, where there is room, and sites only where there is
room. -/
structure KeepsHoldings (s t : State) : Prop where
  only : changesOnly stopParts s t
  table : t.track.table = s.track.table
  arrivals : t.track.arrivals = s.track.arrivals
  orphan : t.track.orphan = s.track.orphan
  stallHeld : t.track.stallHeld = s.track.stallHeld
  pages : t.feed.pages = s.feed.pages
  resume : t.feed.resume = s.feed.resume
  issued : t.feed.issued = s.feed.issued
  pace : t.feed.pace = s.feed.pace
  plan : t.plan = s.plan ∨ t.plan = .reset
  rx : t.line.rx = s.line.rx
  tx : ∃ more, t.line.tx = s.line.tx ++ more
  txRoom : s.line.tx.length ≤ txCap → t.line.tx.length ≤ txCap
  overflow : s.line.txOverflow = true → t.line.txOverflow = true
  few : s.stop.sites.length ≤ siteCap → t.stop.sites.length ≤ siteCap

namespace KeepsHoldings

theorem refl (s : State) : KeepsHoldings s s :=
  { only := .refl _ s, table := rfl, arrivals := rfl, orphan := rfl, stallHeld := rfl, pages := rfl
    resume := rfl, issued := rfl, pace := rfl, plan := .inl rfl, rx := rfl, tx := ⟨[], by simp⟩
    txRoom := id, overflow := id, few := id }

theorem trans {s t u : State} (h : KeepsHoldings s t) (k : KeepsHoldings t u) : KeepsHoldings s u :=
  { only := h.only.trans k.only
    table := k.table.trans h.table
    arrivals := k.arrivals.trans h.arrivals
    orphan := k.orphan.trans h.orphan
    stallHeld := k.stallHeld.trans h.stallHeld
    pages := k.pages.trans h.pages
    resume := k.resume.trans h.resume
    issued := k.issued.trans h.issued
    pace := k.pace.trans h.pace
    plan := k.plan.elim (fun e => e ▸ h.plan) .inr
    rx := k.rx.trans h.rx
    tx := by
      obtain ⟨m, hm⟩ := h.tx
      obtain ⟨n, hn⟩ := k.tx
      exact ⟨m ++ n, by rw [hn, hm, List.append_assoc]⟩
    txRoom := k.txRoom ∘ h.txRoom
    overflow := k.overflow ∘ h.overflow
    few := k.few ∘ h.few }

/-- A fold of operations that each keep the holdings. -/
theorem foldl {α : Type} (f : State → α → State) (h : ∀ s a, KeepsHoldings s (f s a)) (as : List α)
    (s : State) : KeepsHoldings s (as.foldl f s) := by
  induction as generalizing s with
  | nil => exact refl s
  | cons a as ih => exact (h s a).trans (ih (f s a))

/-- Parts that hold no sheet, no page, no frame and no site. -/
def bareParts : List Part := [.zones, .chain, .pulses, .tags, .clear, .notices]

theorem of_only {l : List Part} {s t : State} (h : changesOnly l s t) (hl : l ⊆ bareParts) :
    KeepsHoldings s t := by
  have hb := h.mono hl
  have ht : t.track = s.track := hb.track
  have hf : t.feed = s.feed := hb.feed
  have hs : t.stop = s.stop := hb.stop
  have hn : t.line = s.line := hb.line
  exact
    { only := hb.mono (by decide), table := by rw [ht], arrivals := by rw [ht], orphan := by rw [ht]
      stallHeld := by rw [ht], pages := by rw [hf], resume := by rw [hf], issued := by rw [hf]
      pace := by rw [hf], plan := .inl hb.plan, rx := by rw [hn], tx := ⟨[], by simp [hn]⟩
      txRoom := by rw [hn]; exact id, overflow := by rw [hn]; exact id
      few := by rw [hs]; exact id }

theorem withFeed (s : State) (f : FeedUnit) (hp : f.pages = s.feed.pages)
    (hr : f.resume = s.feed.resume) (hi : f.issued = s.feed.issued) (hc : f.pace = s.feed.pace) :
    KeepsHoldings s (s.withFeed f) :=
  { refl s with only := (s.withFeed_only f).mono (by decide), pages := hp, resume := hr, issued := hi
                pace := hc }

theorem withIdlePass (s : State) (b : Bool) :
    KeepsHoldings s (s.withTrack { s.track with idlePass := b }) :=
  { refl s with only := (s.withTrack_only _).mono (by decide) }

theorem withStop (s : State) (u : StopUnit)
    (h : s.stop.sites.length ≤ siteCap → u.sites.length ≤ siteCap) :
    KeepsHoldings s (s.withStop u) :=
  { refl s with only := (s.withStop_only u).mono (by decide), few := h }

theorem withPlanReset (s : State) : KeepsHoldings s (s.withPlan .reset) :=
  { refl s with only := (s.withPlan_only _).mono (by decide), plan := .inr rfl }

theorem push (s : State) (f : Frame) (h : s.line.tx.length < txCap) : KeepsHoldings s (s.push f) :=
  { refl s with
    only := (s.push_only f).mono (by decide), tx := ⟨[f], rfl⟩
    txRoom := fun _ => by
      have e : (s.push f).line.tx = s.line.tx ++ [f] := rfl
      rw [e, List.length_append]
      exact h }

/-- The transmit overflow flag is set. -/
theorem lose (s : State) : KeepsHoldings s (s.withLine { s.line with txOverflow := true }) :=
  { refl s with only := (s.withLine_only _).mono (by decide), overflow := fun _ => rfl }

end KeepsHoldings

theorem LineUnit.open_lt {l : LineUnit} {c : Nat} (h : l.open c = true) : l.tx.length < txCap := by
  unfold LineUnit.open at h
  have hlt := of_decide_eq_true h
  split at hlt
  · exact hlt
  · exact hlt.trans (by decide)

theorem StopUnit.addSite_few (u : StopUnit) (x : Site) (h : u.sites.length ≤ siteCap) :
    (u.addSite x).sites.length ≤ siteCap := by
  unfold StopUnit.addSite; split
  · exact h
  · split
    · simpa using ‹_›
    · exact h

@[simp] theorem StopUnit.setOwn_sites (u : StopUnit) (c : Cause) (place sheet : Nat) :
    (u.setOwn c place sheet).sites = u.sites := by
  unfold StopUnit.setOwn; split <;> rfl

@[simp] theorem StopUnit.count_sites (u : StopUnit) (c : Cause) : (u.count c).sites = u.sites := rfl

/-! ### The operations, one lemma each -/

theorem State.brakeAll_keeps (s : State) : KeepsHoldings s s.brakeAll :=
  .of_only s.brakeAll_only (by decide)

theorem State.fallAll_keeps (s : State) : KeepsHoldings s s.fallAll :=
  .of_only s.fallAll_only (by decide)

theorem State.riseAll_keeps (s : State) : KeepsHoldings s s.riseAll :=
  .of_only s.riseAll_only (by decide)

theorem State.releaseChain_keeps (s : State) : KeepsHoldings s s.releaseChain :=
  .of_only s.releaseChain_only (by decide)

theorem State.feedTest_keeps (s : State) : KeepsHoldings s s.feedTest :=
  .of_only s.feedTest_only (by decide)

theorem State.leaveRun_keeps (s : State) (p : PathState) : KeepsHoldings s (s.leaveRun p) := by
  unfold State.leaveRun; split
  · exact .withFeed s _ rfl rfl rfl rfl
  · exact .refl s

theorem State.leaveIdle_keeps (s : State) (p : PathState) : KeepsHoldings s (s.leaveIdle p) := by
  unfold State.leaveIdle; split
  · exact (KeepsHoldings.withFeed s { s.feed with startMark := false } rfl rfl rfl rfl).trans
      (.withIdlePass _ false)
  · exact .refl s

theorem State.setPath_keeps (s : State) (p : PathState) : KeepsHoldings s (s.setPath p) :=
  .withStop s _ id

theorem State.enter_keeps (s : State) (p : PathState) : KeepsHoldings s (s.enter p) :=
  (s.leaveRun_keeps p).trans <| (State.leaveIdle_keeps _ p).trans <|
    (KeepsHoldings.of_only (State.notePath_only _ p) (by decide)).trans <|
    (State.setPath_keeps _ p).trans (State.releaseChain_keeps _)

theorem State.ownCause_keeps (s : State) (c : Cause) (place sheet : Nat) :
    KeepsHoldings s (s.ownCause c place sheet) := .withStop s _ (by simp)

theorem State.place_keeps (s : State) (f : Frame) : KeepsHoldings s (s.place f) := by
  unfold State.place; split
  · exact .push s f (LineUnit.open_lt ‹_›)
  · exact .lose s

theorem State.jamcall_keeps (s : State) (x : Site) : KeepsHoldings s (s.jamcall x) := s.place_keeps _

theorem State.joinSite_keeps (s : State) (c : Cause) (place sheet : Nat) :
    KeepsHoldings s (s.joinSite c place sheet) :=
  (s.ownCause_keeps c place sheet).trans <|
    (KeepsHoldings.withStop _ _ (StopUnit.addSite_few _ _)).trans (State.jamcall_keeps _ _)

theorem State.announceStance_keeps (s : State) (st : Stance) :
    KeepsHoldings s (s.announceStance st) := by
  unfold State.announceStance; split
  · exact .push s _ (LineUnit.open_lt ‹_›)
  · dsimp only; split
    · exact (KeepsHoldings.lose s).trans (State.joinSite_keeps _ _ _ _)
    · exact .lose s

theorem State.dropDelays_keeps (s : State) : KeepsHoldings s s.dropDelays :=
  .of_only s.dropDelays_only (by decide)

theorem State.openedAtHalt_keeps (s : State) : KeepsHoldings s s.openedAtHalt := by
  unfold State.openedAtHalt; split
  · exact s.enter_keeps _
  · exact .refl s

theorem State.enterHalted_keeps (s : State) : KeepsHoldings s s.enterHalted :=
  (s.enter_keeps _).trans <| (State.dropDelays_keeps _).trans <|
    (State.announceStance_keeps _ _).trans (State.openedAtHalt_keeps _)

theorem State.restZones_keeps (s : State) : KeepsHoldings s s.restZones :=
  .of_only s.restZones_only (by decide)

theorem State.haltTest_keeps (s : State) : KeepsHoldings s s.haltTest := by
  unfold State.haltTest; split
  · exact s.enterHalted_keeps
  · exact s.announceStance_keeps _

theorem State.enterHalting_keeps (s : State) : KeepsHoldings s s.enterHalting :=
  (s.enter_keeps _).trans <| (State.restZones_keeps _).trans (State.haltTest_keeps _)

theorem State.zonesChanged_keeps (s : State) : KeepsHoldings s s.zonesChanged := by
  unfold State.zonesChanged; split
  · exact s.enterHalted_keeps
  · exact s.releaseChain_keeps

theorem State.haltAheadTest_keeps (s : State) : KeepsHoldings s s.haltAheadTest := by
  unfold State.haltAheadTest; split
  · exact s.enterHalting_keeps
  · exact .refl s

theorem State.drainTest_keeps (s : State) : KeepsHoldings s s.drainTest := by
  unfold State.drainTest; split
  · exact s.enterHalting_keeps
  · exact .refl s

theorem State.afterJoin_keeps (s : State) (before : Option OwnCause) :
    KeepsHoldings s (s.afterJoin before) := by
  unfold State.afterJoin; split
  · exact s.enterHalting_keeps
  · split
    · exact s.brakeAll_keeps.trans (State.zonesChanged_keeps _)
    · exact .refl s

theorem State.joinStop_keeps (s : State) (c : Cause) (place sheet : Nat) :
    KeepsHoldings s (s.joinStop c place sheet) :=
  (s.joinSite_keeps c place sheet).trans (State.afterJoin_keeps _ _)

theorem State.announceFlush_keeps (s : State) : KeepsHoldings s s.announceFlush := by
  unfold State.announceFlush; split
  · exact .push s _ (LineUnit.open_lt ‹_›)
  · exact (KeepsHoldings.lose s).trans (State.joinStop_keeps _ _ _ _)

theorem State.enterFlush_keeps (s : State) : KeepsHoldings s s.enterFlush :=
  (s.enter_keeps _).trans <| (State.announceFlush_keeps _).trans <|
    (State.haltAheadTest_keeps _).trans (State.drainTest_keeps _)

theorem State.newStop_keeps (s : State) (epoch : Nat) (x : Site) :
    KeepsHoldings s (s.newStop epoch x) :=
  (KeepsHoldings.withStop s _ fun _ => StopUnit.addSite_few _ _ (Nat.zero_le _)).trans <|
    (KeepsHoldings.of_only (State.withTags_only _ _) (by decide)).trans <|
    (KeepsHoldings.of_only (State.withClear_only _ _) (by decide)).trans (.withPlanReset _)

theorem State.takeStance_keeps (s : State) (p : PathState) : KeepsHoldings s (s.takeStance p) := by
  unfold State.takeStance; split
  · exact s.enterHalting_keeps
  · exact s.enterFlush_keeps

theorem State.stopStart_keeps (s : State) (epoch : Nat) (x : Site) :
    KeepsHoldings s (s.stopStart epoch x) :=
  (s.newStop_keeps epoch x).trans (State.takeStance_keeps _ _)

theorem State.startStop_keeps (s : State) (c : Cause) (place sheet : Nat) :
    KeepsHoldings s (s.startStop c place sheet) :=
  (s.ownCause_keeps c place sheet).trans <|
    (State.stopStart_keeps _ _ _).trans (State.jamcall_keeps _ _)

theorem State.raise_keeps (s : State) (c : Cause) (place sheet : Nat) :
    KeepsHoldings s (s.raise c place sheet) := by
  unfold State.raise; split
  · split
    · exact s.startStop_keeps c place sheet
    · exact s.startStop_keeps c place sheet
    · exact s.joinStop_keeps c place sheet
    · exact s.joinStop_keeps c place sheet
    all_goals exact .refl s
  · exact .refl s

theorem State.raiseFrom_keeps (s : State) (p : PathState) (c : Cause) (place sheet : Nat) :
    KeepsHoldings s (s.raiseFrom p c place sheet) := by
  unfold State.raiseFrom; split
  · exact s.joinSite_keeps c place sheet
  · exact s.raise_keeps c place sheet

theorem State.queueFrame_keeps (s : State) (p : PathState) (f : Frame) :
    KeepsHoldings s (s.queueFrame p f) := by
  unfold State.queueFrame; split
  · exact .push s f (LineUnit.open_lt ‹_›)
  · exact (KeepsHoldings.lose s).trans (State.raiseFrom_keeps _ _ _ _ _)

theorem State.idleFallTest_keeps (s : State) : KeepsHoldings s s.idleFallTest := by
  unfold State.idleFallTest; split
  · exact s.fallAll_keeps.trans <|
      (KeepsHoldings.withIdlePass s.fallAll false).trans (State.releaseChain_keeps _)
  · exact .refl s

theorem State.leftTests_keeps (s : State) : KeepsHoldings s s.leftTests :=
  s.drainTest_keeps.trans <| (State.idleFallTest_keeps _).trans (State.feedTest_keeps _)

theorem State.arrived_keeps (s : State) : KeepsHoldings s s.arrived := by
  unfold State.arrived; split
  · exact s.riseAll_keeps.trans (.withIdlePass s.riseAll true)
  · exact s.haltAheadTest_keeps.trans (State.drainTest_keeps _)

theorem State.silence_keeps (s : State) (p : PathState) (z : ZoneId) :
    KeepsHoldings s (s.silence p z) :=
  (KeepsHoldings.of_only (s.stopSilence_only z) (by decide)).trans (State.raiseFrom_keeps _ _ _ _ _)

theorem State.chainFails_keeps (s : State) : KeepsHoldings s s.chainFails :=
  (KeepsHoldings.of_only (s.withChain_only _) (by decide)).trans <|
    (State.raise_keeps _ _ _ _).trans (State.zonesChanged_keeps _)

end Sys2Proof.Machine
end

section
/-! SUPPORT. How a sheet's sides move (R19), how one list of entries descends from another, and what every
operation conserves: the capacities, and the sheets of the segment table with their sides. -/

namespace Sys2Proof.Machine

/-! ### Side moves and descent of entries -/

/-- The record is of the same sheet, and each of its sides stayed or moved as R19 to R21 say. -/
structure SidesMove (kind : Option NodeKind) (r r' : SheetRecord) : Prop where
  sheet : r'.sheet = r.sheet
  side1 : sideMoves kind r.side1 r'.side1
  present : r'.side2.isSome = r.side2.isSome
  side2 : ∀ x ∈ r.side2, ∀ y ∈ r'.side2, sideMoves kind x y

theorem sideMoves.refl (kind : Option NodeKind) (a : SideState) : sideMoves kind a a := .inl rfl

/-- A node has one kind, so two moves of one side there are one move at most. -/
theorem sideMoves.trans {kind : Option NodeKind} {a b c : SideState} (h : sideMoves kind a b)
    (k : sideMoves kind b c) : sideMoves kind a c := by
  obtain rfl | ⟨hk, rfl, rfl⟩ | ⟨hk, rfl, rfl⟩ := h
  · exact k
  · obtain rfl | ⟨_, hb, _⟩ | ⟨hf, _, _⟩ := k
    · exact .inr (.inl ⟨hk, rfl, rfl⟩)
    · cases hb
    · cases hk.symm.trans hf
  · obtain rfl | ⟨_, hb, _⟩ | ⟨_, hb, _⟩ := k
    · exact .inr (.inr ⟨hk, rfl, rfl⟩)
    · cases hb
    · cases hb

namespace SidesMove

/-- A record whose sides stay. -/
theorem of_eq {kind : Option NodeKind} {r r' : SheetRecord} (hs : r'.sheet = r.sheet)
    (h1 : r'.side1 = r.side1) (h2 : r'.side2 = r.side2) : SidesMove kind r r' :=
  { sheet := hs, side1 := .inl h1, present := by rw [h2]
    side2 := fun x hx y hy => .inl (by rw [h2] at hy; exact Option.mem_unique hy hx) }

theorem refl (kind : Option NodeKind) (r : SheetRecord) : SidesMove kind r r := of_eq rfl rfl rfl

theorem trans {kind : Option NodeKind} {r r' r'' : SheetRecord} (h : SidesMove kind r r')
    (k : SidesMove kind r' r'') : SidesMove kind r r'' :=
  { sheet := k.sheet.trans h.sheet
    side1 := h.side1.trans k.side1
    present := k.present.trans h.present
    side2 := fun x hx z hz => by
      have hy : r'.side2.isSome := by rw [← k.present]; exact Option.isSome_of_mem hz
      obtain ⟨y, hy⟩ := Option.isSome_iff_exists.mp hy
      exact (h.side2 x hx y hy).trans (k.side2 y hy z hz) }

/-- The image rule's move of the current side (R20). -/
theorem setCurrent_unfixed {r : SheetRecord} (hb : r.currentState = some .blank) :
    SidesMove (some .image) r (r.setCurrent .unfixed) := by
  unfold SheetRecord.currentState at hb
  unfold SheetRecord.setCurrent
  cases hc : r.current <;> rw [hc] at hb
  case one =>
    exact { of_eq rfl rfl rfl with side1 := .inr (.inl ⟨rfl, Option.some.inj hb, rfl⟩) }
  case two =>
    have hb : r.side2 = some .blank := hb
    refine { of_eq rfl rfl rfl with present := by simp [hb], side2 := fun x hx y hy => ?_ }
    rw [hb] at hx
    exact .inr (.inl ⟨rfl, (Option.some.inj hx).symm, (Option.some.inj hy).symm⟩)

theorem fuse_move (x : SideState) : sideMoves (some .fix) x x.fuse := by
  cases x
  · exact .inl rfl
  · exact .inr (.inr ⟨rfl, rfl, rfl⟩)
  · exact .inl rfl

/-- The fix rule's move of both sides (R21). -/
theorem fuse (r : SheetRecord) : SidesMove (some .fix) r
    { r with side1 := r.side1.fuse, side2 := r.side2.map SideState.fuse } :=
  { sheet := rfl, side1 := fuse_move _, present := by simp
    side2 := fun x hx y hy => by
      have hx : r.side2 = some x := hx
      have hy : r.side2.map SideState.fuse = some y := hy
      rw [hx] at hy
      exact Option.some.inj hy ▸ fuse_move x }

end SidesMove

/-- `l'` is what is left of `l`: some entries gone, and each that stays of the same sheet with its sides
moved as R19 says. -/
def Descends (kind : Option NodeKind) (l l' : List Entry) : Prop :=
  List.SublistForall₂ (fun f e : Entry => SidesMove kind e.record f.record) l' l

namespace Descends

theorem trans {kind : Option NodeKind} {l l' l'' : List Entry} (h : Descends kind l l')
    (k : Descends kind l' l'') : Descends kind l l'' := by
  have : IsTrans Entry fun f e => SidesMove kind e.record f.record := ⟨fun _ _ _ a b => b.trans a⟩
  exact List.SublistForall₂.is_trans.trans _ _ _ k h

theorem of_sublist {kind : Option NodeKind} {l l' : List Entry} (h : l'.Sublist l) :
    Descends kind l l' := by
  have : Std.Refl fun f e : Entry => SidesMove kind e.record f.record := ⟨fun _ => .refl _ _⟩
  exact h.sublistForall₂

theorem refl (kind : Option NodeKind) (l : List Entry) : Descends kind l l :=
  of_sublist (List.Sublist.refl l)

theorem map {kind : Option NodeKind} {φ : Entry → Entry} (l : List Entry)
    (h : ∀ e ∈ l, SidesMove kind e.record (φ e).record) : Descends kind l (l.map φ) := by
  induction l with
  | nil => exact .nil
  | cons e l ih => exact .cons (h e (by simp)) (ih fun x hx => h x (by simp [hx]))

theorem filterMap {kind : Option NodeKind} {φ : Entry → Option Entry}
    (h : ∀ e f, φ e = some f → SidesMove kind e.record f.record) (l : List Entry) :
    Descends kind l (l.filterMap φ) := by
  induction l with
  | nil => exact .nil
  | cons e l ih =>
    rw [List.filterMap_cons]; split
    · exact .cons_right ih
    · exact .cons (h _ _ ‹_›) ih

theorem sheets {kind : Option NodeKind} {l l' : List Entry} (h : Descends kind l l') :
    (l'.map fun e => e.record.sheet).Sublist (l.map fun e => e.record.sheet) := by
  induction h with
  | nil => exact List.nil_sublist _
  | cons hm _ ih => rw [List.map_cons, List.map_cons, hm.sheet]; exact ih.cons_cons _
  | cons_right _ ih => exact ih.cons _

theorem origin {kind : Option NodeKind} {l l' : List Entry} (h : Descends kind l l') :
    ∀ f ∈ l', ∃ e ∈ l, SidesMove kind e.record f.record := by
  induction h with
  | nil => simp
  | cons hm _ ih =>
    intro f hf
    obtain rfl | hf := List.mem_cons.mp hf
    · exact ⟨_, List.mem_cons_self, hm⟩
    · obtain ⟨e, he, h⟩ := ih f hf
      exact ⟨e, List.mem_cons_of_mem _ he, h⟩
  | cons_right _ ih =>
    intro f hf
    obtain ⟨e, he, h⟩ := ih f hf
    exact ⟨e, List.mem_cons_of_mem _ he, h⟩

end Descends

/-! ### What an operation conserves -/

/-- The sheet IDs of a table are distinct (R4). -/
def Unique (l : List Entry) : Prop := (l.map fun e => e.record.sheet).Nodup

/-- The configuration stays, the thirteen collections stay within their capacities, and no sheet enters the
segment table, where each sheet that stays has moved its sides as R19 says. -/
structure Conserves (s t : State) : Prop where
  cfg : t.cfg = s.cfg
  caps : WithinCaps s → WithinCaps t
  table : Unique s.track.table → Descends s.cfg.kind s.track.table t.track.table

/-- The lists of the feed unit are within their capacities (R132). -/
structure FeedUnit.Within (f : FeedUnit) : Prop where
  pages : f.pages.length ≤ pageCap
  resume : f.resume.length ≤ resumeCap
  issued : f.issued.length ≤ issuedCap

theorem WithinCaps.feed {s : State} (h : WithinCaps s) : s.feed.Within :=
  ⟨h.pages, h.resume, h.issued⟩

/-- The bound of the plan list: a PURGE for each issued entry and a command for each candidate (R159,
R162). -/
def planCap : Nat := 56

/-- The lists of the plan unit are within their capacities (R150, R152). -/
structure PlanUnit.Within (u : PlanUnit) : Prop where
  candidates : u.candidates.length ≤ candidateCap
  list : u.list.length ≤ planCap

theorem WithinCaps.planUnit {s : State} (h : WithinCaps s) : s.plan.Within := ⟨h.candidates, h.plan⟩

namespace Conserves

theorem refl (s : State) : Conserves s s := ⟨rfl, id, fun _ => .refl _ _⟩

theorem trans {s t u : State} (h : Conserves s t) (k : Conserves t u) : Conserves s u :=
  { cfg := k.cfg.trans h.cfg
    caps := k.caps ∘ h.caps
    table := fun hu =>
      have d := h.table hu
      d.trans (h.cfg ▸ k.table (hu.sublist d.sheets)) }

theorem foldl {α : Type} (f : State → α → State) (h : ∀ s a, Conserves s (f s a)) (as : List α)
    (s : State) : Conserves s (as.foldl f s) := by
  induction as generalizing s with
  | nil => exact refl s
  | cons a as ih => exact (h s a).trans (ih (f s a))

/-- The parts that hold a configuration item or one of the thirteen collections. -/
def heldParts : List Part := [.cfg, .track, .stop, .gate, .feed, .plan, .deliv, .line]

theorem of_only {l : List Part} {s t : State} (h : changesOnly l s t)
    (hl : ∀ p ∈ l, p ∉ heldParts := by decide) : Conserves s t := by
  have hn : ∀ p ∈ heldParts, p ∉ l := fun p hp hpl => hl p hpl hp
  have ht : t.track = s.track := h.track (hn _ (by decide))
  have hs : t.stop = s.stop := h.stop (hn _ (by decide))
  have hg : t.gate = s.gate := h.gate (hn _ (by decide))
  have hf : t.feed = s.feed := h.feed (hn _ (by decide))
  have hp : t.plan = s.plan := h.plan (hn _ (by decide))
  have hd : t.deliv = s.deliv := h.deliv (hn _ (by decide))
  have hi : t.line = s.line := h.line (hn _ (by decide))
  refine ⟨h.cfg (hn _ (by decide)), fun w => ?_, fun _ => ht ▸ .refl _ _⟩
  constructor
  · rw [ht]; exact w.table
  · rw [ht]; exact w.arrivals
  · rw [hs]; exact w.sites
  · rw [hg]; exact w.claims
  · rw [hf]; exact w.pages
  · rw [hf]; exact w.resume
  · rw [hf]; exact w.issued
  · rw [hp]; exact w.candidates
  · rw [hp]; exact w.plan
  · rw [hd]; exact w.compile
  · rw [hd]; exact w.announce
  · rw [hi]; exact w.tx
  · rw [hi]; exact w.rx

/-- What the stop controller keeps is conserved. -/
theorem of_keeps {s t : State} (h : KeepsHoldings s t) : Conserves s t := by
  refine ⟨h.only.cfg, fun w => ?_, fun _ => h.table ▸ .refl _ _⟩
  have hg : t.gate = s.gate := h.only.gate
  have hd : t.deliv = s.deliv := h.only.deliv
  have hp : t.plan.Within := by
    obtain hp | hp := h.plan
    · rw [hp]; exact w.planUnit
    · rw [hp]; exact ⟨by simp [PlanUnit.reset], by simp [PlanUnit.reset]⟩
  constructor
  · rw [h.table]; exact w.table
  · rw [h.arrivals]; exact w.arrivals
  · exact h.few w.sites
  · rw [hg]; exact w.claims
  · rw [h.pages]; exact w.pages
  · rw [h.resume]; exact w.resume
  · rw [h.issued]; exact w.issued
  · exact hp.candidates
  · exact hp.list
  · rw [hd]; exact w.compile
  · rw [hd]; exact w.announce
  · exact h.txRoom w.tx
  · rw [h.rx]; exact w.rx

section
variable (s : State)

theorem withTable (l : List Entry) (hl : l.length ≤ s.track.table.length)
    (h : Unique s.track.table → Descends s.cfg.kind s.track.table l) : Conserves s (s.withTable l) :=
  ⟨rfl, fun w => { w with table := hl.trans w.table }, h⟩

theorem withTrack (x : TrackUnit) (ht : x.table.length ≤ s.track.table.length)
    (ha : x.arrivals.length ≤ s.track.arrivals.length)
    (h : Unique s.track.table → Descends s.cfg.kind s.track.table x.table) :
    Conserves s (s.withTrack x) :=
  ⟨rfl, fun w => { w with table := ht.trans w.table, arrivals := ha.trans w.arrivals }, h⟩

theorem withArrivals (l : List Arrival)
    (h : s.track.arrivals.length ≤ arrivalCap → l.length ≤ arrivalCap) :
    Conserves s (s.withArrivals l) :=
  ⟨rfl, fun w => { w with arrivals := h w.arrivals }, fun _ => .refl _ _⟩

theorem withOrphan (o : Option Nat) : Conserves s (s.withOrphan o) :=
  ⟨rfl, fun w => { w with }, fun _ => .refl _ _⟩

theorem withStop (u : StopUnit) (h : s.stop.sites.length ≤ siteCap → u.sites.length ≤ siteCap) :
    Conserves s (s.withStop u) :=
  ⟨rfl, fun w => { w with sites := h w.sites }, fun _ => .refl _ _⟩

theorem withGate (g : GateUnit) (h : s.gate.claims.length ≤ claimCap → g.claims.length ≤ claimCap) :
    Conserves s (s.withGate g) :=
  ⟨rfl, fun w => { w with claims := h w.claims }, fun _ => .refl _ _⟩

theorem withFeed (f : FeedUnit) (h : s.feed.Within → f.Within) : Conserves s (s.withFeed f) :=
  ⟨rfl, fun w => have k := h w.feed
    { w with pages := k.pages, resume := k.resume, issued := k.issued }, fun _ => .refl _ _⟩

theorem withPlan (u : PlanUnit) (h : s.plan.Within → u.Within) : Conserves s (s.withPlan u) :=
  ⟨rfl, fun w => have k := h w.planUnit
    { w with candidates := k.candidates, plan := k.list }, fun _ => .refl _ _⟩

theorem withDeliv (d : DeliveryUnit)
    (hc : s.deliv.compile.length ≤ compileCap → d.compile.length ≤ compileCap)
    (ha : s.deliv.announce.length ≤ announceCap → d.announce.length ≤ announceCap) :
    Conserves s (s.withDeliv d) :=
  ⟨rfl, fun w => { w with compile := hc w.compile, announce := ha w.announce }, fun _ => .refl _ _⟩

theorem withLine (u : LineUnit) (ht : s.line.tx.length ≤ txCap → u.tx.length ≤ txCap)
    (hr : s.line.rx.length ≤ rxCap → u.rx.length ≤ rxCap) : Conserves s (s.withLine u) :=
  ⟨rfl, fun w => { w with tx := ht w.tx, rx := hr w.rx }, fun _ => .refl _ _⟩

end

end Conserves

/-! ### Entries by sheet -/

theorem State.mem_of_entryOf {s : State} {sheet : Nat} {e : Entry} (h : s.entryOf sheet = some e) :
    e ∈ s.track.table ∧ e.record.sheet = sheet :=
  ⟨List.mem_of_find?_eq_some h, by simpa using List.find?_some h⟩

/-- With distinct sheet IDs the entry of a sheet is the one that the table holds. -/
theorem State.entryOf_of_mem {s : State} {e : Entry} (hu : Unique s.track.table)
    (he : e ∈ s.track.table) : s.entryOf e.record.sheet = some e := by
  obtain ⟨x, hx⟩ : ∃ x, s.entryOf e.record.sheet = some x := by
    rw [← Option.isSome_iff_exists]
    exact List.find?_isSome.mpr ⟨e, he, by simp⟩
  obtain ⟨hm, hs⟩ := State.mem_of_entryOf hx
  rw [hx, List.inj_on_of_nodup_map hu hm he hs]

namespace Conserves

theorem mapTable (s : State) (φ : Entry → Entry)
    (h : ∀ e, SidesMove s.cfg.kind e.record (φ e).record) :
    Conserves s (s.withTable (s.track.table.map φ)) :=
  withTable s _ (by simp) fun _ => .map _ fun e _ => h e

/-- Rewriting the entry of a sheet, where its sides move as R19 says. -/
theorem mapEntry (s : State) (sheet : Nat) (f : Entry → Entry)
    (h : ∀ e, s.entryOf sheet = some e → SidesMove s.cfg.kind e.record (f e).record) :
    Conserves s (s.mapEntry sheet f) := by
  refine withTable s _ (by simp) fun hu => .map _ fun e he => ?_
  split
  · next hs => exact h e (by rw [← eq_of_beq hs]; exact s.entryOf_of_mem hu he)
  · exact .refl _ _

end Conserves

end Sys2Proof.Machine
end

section
/-! SUPPORT. What the operations of each unit conserve, in the order of the model. -/

namespace Sys2Proof.Machine

open Conserves (of_only of_keeps)

/-! ### Gate and pulses -/

theorem setFront_length (l : List Claim) : (setFront l).length = l.length := by
  cases l <;> simp [setFront]

theorem State.gateService_conserves (s : State) : Conserves s s.gateService := by
  unfold State.gateService; split
  · exact .refl s
  · next c rest hc =>
    split
    · exact .refl s
    · split
      · exact .withGate s _ fun h => by rw [setFront_length, ← hc]; exact h
      · exact .refl s

theorem State.leaveClaim_conserves (s : State) (sheet : Nat) : Conserves s (s.leaveClaim sheet) := by
  unfold State.leaveClaim; split
  · exact (Conserves.withGate s _ (List.length_filter_le _ _).trans).trans
      (State.gateService_conserves _)
  · exact .refl s

theorem State.makeClaim_conserves (s : State) (sheet : Nat) : Conserves s (s.makeClaim sheet) := by
  unfold State.makeClaim; split
  · exact .refl s
  · split
    · exact .refl s
    · split
      · split
        · exact .withGate s _ id
        · exact .refl s
      · split
        · exact of_keeps (s.raise_keeps _ _ _)
        · next hroom =>
          refine (Conserves.withGate s _ fun _ => ?_).trans
            ((Conserves.mapEntry _ _ _ fun _ _ => by exact .refl _ _).trans
              (State.gateService_conserves _))
          rw [List.length_append, List.length_singleton]
          exact Nat.lt_of_not_le hroom

theorem State.guardAtEdge_keeps (s : State) (sheet : Nat) :
    KeepsHoldings s (s.guardAtEdge sheet) := by
  unfold State.guardAtEdge; split
  · exact s.raise_keeps _ _ _
  · exact .refl s

theorem State.guardTests_keeps (s : State) : KeepsHoldings s s.guardTests := by
  refine KeepsHoldings.foldl _ (fun t c => ?_) _ _
  split
  · exact t.raise_keeps _ _ _
  · exact .refl t

theorem State.imageRule_conserves (s : State) (sheet : Nat) : Conserves s (s.imageRule sheet) := by
  unfold State.imageRule; split
  · exact .refl s
  · next e he =>
    split
    · next h =>
      simp only [Bool.and_eq_true, beq_iff_eq] at h
      obtain ⟨⟨⟨hk, -⟩, -⟩, hb⟩ := h
      have hk : s.cfg.kind = some .image := by simpa [State.isKind] using hk
      refine (Conserves.mapEntry s sheet _ fun x hx => ?_).trans
        (of_keeps (State.haltAheadTest_keeps _))
      obtain rfl : e = x := Option.some.inj (he.symm.trans hx)
      rw [hk]
      exact .setCurrent_unfixed hb
    · exact .refl s

theorem State.releaseSheet_conserves (s : State) (sheet : Nat) :
    Conserves s (s.releaseSheet sheet) :=
  (Conserves.mapEntry s sheet _ fun _ _ => by exact .of_eq rfl rfl rfl).trans
    (State.imageRule_conserves _ _)

theorem State.startPulse_conserves (s : State) (p : PulseId) (d : PulseDelay) :
    Conserves s (s.startPulse p d) := by
  unfold State.startPulse; dsimp only; split
  · exact (of_only (s.setPulse_only _ _)).trans (State.releaseSheet_conserves _ _)
  · exact of_only (s.setPulse_only _ _)

theorem State.completeDelay_conserves (s : State) (p : PulseId) :
    Conserves s (s.completeDelay p) := by
  unfold State.completeDelay; split
  · split
    · exact s.startPulse_conserves _ _
    · exact .refl s
  · exact .refl s

theorem State.takeTrigger_conserves (s : State) (p : PulseId) (a b sheet : Nat) :
    Conserves s (s.takeTrigger p a b sheet) := by
  unfold State.takeTrigger; split
  · exact of_keeps (s.raise_keeps _ _ _)
  · exact (of_only (s.setPulse_only _ _)).trans (State.completeDelay_conserves _ _)

theorem State.trigger_conserves (s : State) (p : PulseId) (a b sheet : Nat) :
    Conserves s (s.trigger p a b sheet) :=
  (s.completeDelay_conserves p).trans (State.takeTrigger_conserves _ _ _ _ _)

theorem State.stationTrigger_conserves (s : State) (p : PulseId) (k : StationId) (edge : TriggerEdge)
    (r : SheetRecord) : Conserves s (s.stationTrigger p k edge r) := by
  unfold State.stationTrigger; dsimp only; split
  · exact s.trigger_conserves _ _ _ _
  · exact .refl s

theorem State.edgeTriggers_conserves (s : State) (k : StationId) (edge : TriggerEdge) (sheet : Nat) :
    Conserves s (s.edgeTriggers k edge sheet) := by
  unfold State.edgeTriggers; split
  · exact .refl s
  · exact (s.stationTrigger_conserves _ _ _ _).trans (State.stationTrigger_conserves _ _ _ _ _)

theorem State.endWidth_conserves (s : State) (p : PulseId) : Conserves s (s.endWidth p) := by
  unfold State.endWidth; split
  · exact .refl s
  · exact (of_only (s.setPulse_only _ _)).trans (State.completeDelay_conserves _ _)

/-! ### Delivery -/

theorem State.reject_conserves (s : State) (r : SheetRecord) (why : RejectReason) :
    Conserves s (s.reject r why) := .withDeliv s _ id id

theorem State.announce_conserves (s : State) (p : PathState) (a : Announcement) :
    Conserves s (s.announce p a) := by
  unfold State.announce; split
  · next hroom =>
    exact .withDeliv s _ id fun _ => by rw [List.length_append]; exact hroom
  · exact of_keeps (s.raiseFrom_keeps _ _ _ _)

theorem State.startOp_conserves (s : State) (op : FinishOp) : Conserves s (s.startOp op) :=
  .withDeliv s _ id id

theorem State.stapleTest_conserves (s : State) : Conserves s s.stapleTest := by
  unfold State.stapleTest; split
  · split
    · exact (Conserves.withDeliv s _ (by exact id) (by exact id)).trans
        (State.startOp_conserves _ _)
    · exact .refl s
  · exact .refl s

theorem State.compileSheet_conserves (s : State) (p : PathState) (r : SheetRecord) :
    Conserves s (s.compileSheet p r) := by
  unfold State.compileSheet; split
  · exact of_keeps (s.raise_keeps _ _ _)
  · next hroom =>
    refine (Conserves.withDeliv s _ (fun _ => ?_) (by exact id)).trans
      ((State.announce_conserves _ _ _).trans (State.stapleTest_conserves _))
    rw [List.length_append]
    exact Nat.lt_of_not_le hroom

theorem State.takeRecord_conserves (s : State) (p : PathState) (r : SheetRecord) :
    Conserves s (s.takeRecord p r) := by
  unfold State.takeRecord; split
  · exact s.reject_conserves _ _
  · split
    · exact s.announce_conserves _ _
    · split
      · exact s.reject_conserves _ _
      · split
        · exact s.reject_conserves _ _
        · exact s.announce_conserves _ _
    · split
      · exact s.reject_conserves _ _
      · split
        · exact s.reject_conserves _ _
        · exact s.compileSheet_conserves _ _
    all_goals exact .refl s

theorem State.endOp_conserves (s : State) : Conserves s s.endOp := .withDeliv s _ id id

theorem State.stapleDone_conserves (s : State) : Conserves s s.stapleDone := by
  have h : Conserves s (s.endOp.withDeliv
      { s.endOp.deliv with compile := s.deliv.compile.drop s.deliv.stapleCount }) :=
    s.endOp_conserves.trans (.withDeliv _ _ (fun h => by
      rw [List.length_drop]; exact (Nat.sub_le _ _).trans h) (by exact id))
  unfold State.stapleDone; dsimp only; split
  · exact h.trans (State.stapleTest_conserves _)
  · exact h.trans ((State.announce_conserves _ _ _).trans (State.stapleTest_conserves _))

theorem State.opFailed_conserves (s : State) : Conserves s s.opFailed :=
  s.endOp_conserves.trans (.withDeliv _ _ id id)

/-! ### Edges -/

theorem State.leftTests_conserves (s : State) : Conserves s s.leftTests := of_keeps s.leftTests_keeps

theorem State.haltAheadTest_conserves (s : State) : Conserves s s.haltAheadTest :=
  of_keeps s.haltAheadTest_keeps

theorem State.removeEntry_conserves (s : State) (sheet : Nat) : Conserves s (s.removeEntry sheet) :=
  (Conserves.withTable s _ (List.length_eraseP_le) fun _ => .of_sublist List.eraseP_sublist).trans <|
    (State.leaveClaim_conserves _ _).trans (State.leftTests_conserves _)

theorem State.handOn_conserves (s : State) (sheet : Nat) : Conserves s (s.handOn sheet) := by
  unfold State.handOn; split
  · exact .refl s
  · split
    · exact .mapEntry s _ _ fun _ _ => .refl _ _
    · exact s.removeEntry_conserves _

theorem State.sendPass_conserves (s : State) (p : PathState) (e : Entry) :
    Conserves s (s.sendPass p e) :=
  (of_keeps (s.queueFrame_keeps _ _)).trans (State.handOn_conserves _ _)

theorem State.claimAt_conserves (s : State) (k : StationId) (sheet : Nat) :
    Conserves s (s.claimAt k sheet) := by
  unfold State.claimAt; split
  · exact s.makeClaim_conserves _
  · exact .refl s

theorem State.imageAt_conserves (s : State) (k : StationId) (sheet : Nat) :
    Conserves s (s.imageAt k sheet) := by
  unfold State.imageAt; split
  · exact s.imageRule_conserves _
  · exact .refl s

theorem State.afterLead_conserves (s : State) (k : StationId) (sheet : Nat) :
    Conserves s (s.afterLead k sheet) :=
  (s.claimAt_conserves k sheet).trans <| (of_keeps (State.guardAtEdge_keeps _ _)).trans <|
    (State.edgeTriggers_conserves _ _ _ _).trans <| (State.imageAt_conserves _ _ _).trans <|
    (State.haltAheadTest_conserves _).trans (State.leftTests_conserves _)

theorem State.leadBeyond_conserves (s : State) (k : StationId) : Conserves s (s.leadBeyond k) := by
  unfold State.leadBeyond; split
  · exact of_keeps (s.raise_keeps _ _ _)
  · exact (Conserves.mapEntry s _ _ fun _ _ => by exact .refl _ _).trans
      (State.afterLead_conserves _ _ _)

theorem State.gapTest_keeps (s : State) (k : StationId) (gap sheet : Nat) :
    KeepsHoldings s (s.gapTest k gap sheet) := by
  unfold State.gapTest; split
  · exact s.raise_keeps _ _ _
  · exact .refl s

theorem State.measure_conserves (s : State) (k : StationId) (still : Bool) (e : Entry) :
    Conserves s (s.measure k still e) := by
  have h (l : Nat) : Conserves s (s.storeLength e.record.sheet l) :=
    .mapEntry s _ _ fun _ _ => .of_eq rfl rfl rfl
  unfold State.measure; dsimp only; split
  · split
    · exact (h _).trans (of_keeps (State.raise_keeps _ _ _ _))
    · exact h _
  · exact .refl s

theorem State.fixRule_conserves (s : State) (k : StationId) (sheet : Nat) :
    Conserves s (s.fixRule k sheet) := by
  unfold State.fixRule; split
  · next h =>
    have hk : s.cfg.kind = some .fix := by
      simpa [State.isKind] using (Bool.and_eq_true_iff.mp h).1
    refine (Conserves.mapEntry s _ _ fun e _ => ?_).trans (State.haltAheadTest_conserves _)
    rw [hk]
    exact .fuse e.record
  · exact .refl s

theorem State.clearClaim_conserves (s : State) (k : StationId) (sheet : Nat) :
    Conserves s (s.clearClaim k sheet) := by
  unfold State.clearClaim; split
  · exact s.leaveClaim_conserves _
  · exact .refl s

theorem State.heldPass_conserves (s : State) (p : PathState) (sheet : Nat) :
    Conserves s (s.heldPass p sheet) := by
  unfold State.heldPass; split
  · exact .refl s
  · split
    · exact s.sendPass_conserves _ _
    · exact .refl s

theorem State.turnRule_conserves (s : State) (p : PathState) (k : StationId) (sheet : Nat) :
    Conserves s (s.turnRule p k sheet) := by
  unfold State.turnRule; split
  · split
    · exact .refl s
    · split
      · exact (Conserves.mapEntry s _ _ fun _ _ => by exact .of_eq rfl rfl rfl).trans
          (State.heldPass_conserves _ _ _)
      · exact .refl s
  · exact .refl s

theorem State.atLast_conserves (s : State) (p : PathState) (sheet : Nat) :
    Conserves s (s.atLast p sheet) := by
  unfold State.atLast; split
  · exact .refl s
  · split
    · exact (s.takeRecord_conserves _ _).trans (State.removeEntry_conserves _ _)
    · split
      · exact s.removeEntry_conserves _
      · exact .refl s
      · split
        · exact s.removeEntry_conserves _
        · exact .refl s

theorem State.endAt_conserves (s : State) (p : PathState) (k : StationId) (sheet : Nat) :
    Conserves s (s.endAt p k sheet) := by
  unfold State.endAt; split
  · exact s.atLast_conserves _ _
  · exact .refl s

theorem State.passTrail_conserves (s : State) (k : StationId) (sheet : Nat) :
    Conserves s (s.passTrail k sheet) := .mapEntry s _ _ fun _ _ => .refl _ _

theorem State.trailEffects_conserves (s : State) (k : StationId) (still : Bool) (e : Entry) :
    Conserves s (s.trailEffects k still e) :=
  (s.passTrail_conserves _ _).trans <| (State.measure_conserves _ _ _ _).trans <|
    (State.fixRule_conserves _ _ _).trans <| (State.clearClaim_conserves _ _ _).trans <|
    (State.edgeTriggers_conserves _ _ _ _).trans <| (State.turnRule_conserves _ _ _ _).trans
    (State.endAt_conserves _ _ _ _)

theorem State.holdStalls_conserves (s before : State) : Conserves s (s.holdStalls before) :=
  .withTrack s _ le_rfl le_rfl fun _ => .refl _ _

theorem State.restartPace_conserves (s : State) (k : StationId) : Conserves s (s.restartPace k) := by
  unfold State.restartPace; split
  · exact .withFeed s _ fun h => ⟨h.pages, h.resume, h.issued⟩
  · exact .refl s

theorem State.endOrphan_conserves (s : State) : Conserves s s.endOrphan :=
  (Conserves.withOrphan s none).trans <| (of_keeps (State.raise_keeps _ _ _ _)).trans
    (State.leftTests_conserves _)

theorem State.matchTrail_conserves (s : State) (k : StationId) (still : Bool) :
    Conserves s (s.matchTrail k still) := by
  unfold State.matchTrail; split
  · exact s.endOrphan_conserves
  · split
    · exact .refl s
    · exact (s.trailEffects_conserves _ _ _).trans (State.holdStalls_conserves _ _)

theorem State.gateClears_conserves (s : State) (k : StationId) : Conserves s (s.gateClears k) := by
  unfold State.gateClears; split
  · exact s.gateService_conserves
  · exact .refl s

theorem State.trailingEdge_conserves (s : State) (k : StationId) (still : Bool) :
    Conserves s (s.trailingEdge k still) :=
  (of_only (s.setStation_only _ _)).trans <| (State.restartPace_conserves _ _).trans <|
    (State.matchTrail_conserves _ _ _).trans <| (State.gateClears_conserves _ _).trans
    (of_keeps (State.feedTest_keeps _))

theorem State.edgeTrack_conserves (s t : State) (z : ZoneId) (w : Nat) (h : s.track = t.track) :
    Conserves s (s.withTrack (t.edgeTrack z w)) := by
  have ht : (t.edgeTrack z w).table = s.track.table.map (t.edgeEntry z w) := by rw [h]; rfl
  have ha : (t.edgeTrack z w).arrivals.length = s.track.arrivals.length := by
    rw [h, State.edgeTrack]; dsimp only; split
    · exact List.length_map _
    · rfl
  refine .withTrack s _ ?_ ha.le fun _ => ?_
  · rw [ht, List.length_map]
  · rw [ht]; exact .map _ fun _ _ => .refl _ _

theorem State.edgeFeed_within (s : State) (z : ZoneId) (w : Nat) (h : s.feed.Within) :
    (s.edgeFeed z w).Within := by
  unfold State.edgeFeed; split
  · exact ⟨h.pages, h.resume, h.issued⟩
  · exact h

theorem State.countEdge_conserves (s : State) (z : ZoneId) : Conserves s (s.countEdge z) :=
  (of_only (s.setZone_only _ _)).trans <| (of_only (State.withStations_only _ _)).trans <|
    (State.edgeTrack_conserves _ s z _ (by exact rfl)).trans <| (of_only (State.withPulses_only _ _)).trans
    (.withFeed _ _ fun h => s.edgeFeed_within z _ h)

/-! ### Drive -/

theorem State.silences_keeps (p : PathState) (l : List ZoneId) (s : State) :
    KeepsHoldings s (l.foldl (fun t y => t.silence p y) s) :=
  .foldl _ (fun t y => t.silence_keeps p y) l s

/-! ### Feeding -/

theorem FeedUnit.restTest_within {f : FeedUnit} (h : f.Within) : f.restTest.Within := by
  unfold FeedUnit.restTest; split
  · exact h
  · exact ⟨h.pages, h.resume, h.issued⟩

theorem FeedUnit.removeCandidate_within {f : FeedUnit} (h : f.Within) : f.removeCandidate.Within := by
  unfold FeedUnit.removeCandidate; split
  · exact { h with resume := List.length_eraseP_le.trans h.resume }
  · exact { h with pages := List.length_eraseP_le.trans h.pages }

theorem FeedUnit.removeCandidate_issued (f : FeedUnit) : f.removeCandidate.issued = f.issued := by
  unfold FeedUnit.removeCandidate; split <;> rfl

theorem State.addPick_conserves (s : State) (r : SheetRecord) : Conserves s (s.addPick r) := by
  unfold State.addPick; split
  · next hroom => exact .withArrivals s _ fun _ => by rw [List.length_append]; exact hroom
  · exact of_keeps (s.raise_keeps _ _ _)

theorem State.issuePage_conserves (s : State) (d : PageDesc)
    (hroom : s.feed.issued.length < issuedCap) : Conserves s (s.issuePage d) := by
  refine (Conserves.withFeed s _ fun h => FeedUnit.restTest_within ?_).trans
    ((State.addPick_conserves _ _).trans (State.trigger_conserves _ _ _ _ _))
  have hr := FeedUnit.removeCandidate_within h
  refine { pages := hr.pages, resume := hr.resume, issued := ?_ }
  rw [List.length_append, FeedUnit.removeCandidate_issued]
  exact hroom

theorem State.rest_conserves (s : State) : Conserves s s.rest :=
  (of_keeps s.fallAll_keeps).trans <| (Conserves.withStop _ _ fun _ => Nat.zero_le _).trans <|
    (of_keeps (State.enter_keeps _ _)).trans (of_keeps (State.dropDelays_keeps _))

theorem FeedUnit.removeMatched_within {u : FeedUnit} (f : Frame) (h : u.Within) :
    (u.removeMatched f).Within :=
  { h with issued := List.length_eraseP_le.trans h.issued }

theorem State.countStale_conserves (s : State) : Conserves s s.countStale := .withLine s _ id id

theorem State.feedTest_conserves (s : State) : Conserves s s.feedTest := of_keeps s.feedTest_keeps

theorem State.deliverFinal_conserves (s : State) (f : Frame) : Conserves s (s.deliverFinal f) := by
  unfold State.deliverFinal; split
  · exact .refl s
  · split
    · exact s.countStale_conserves
    · split
      · exact (Conserves.withFeed s _ (FeedUnit.removeMatched_within f)).trans
          (State.feedTest_conserves _)
      · exact .refl s

theorem compileMatched_length (f : Frame) (l : List Issued) :
    (compileMatched f l).length = l.length := by
  induction l with
  | nil => rfl
  | cons i l ih =>
    rw [compileMatched]; split
    · rfl
    · rw [List.length_cons, List.length_cons, ih]

theorem State.deliverCompiled_conserves (s : State) (f : Frame) :
    Conserves s (s.deliverCompiled f) := by
  unfold State.deliverCompiled; split
  · exact .withFeed s _ fun h => { h with issued := by rw [compileMatched_length]; exact h.issued }
  · exact .refl s

theorem FeedUnit.dropPage_within {u : FeedUnit} (d : PageDesc) (h : u.Within) :
    (u.dropPage d).Within := by
  unfold FeedUnit.dropPage; split
  · exact h
  · exact ⟨h.pages, h.resume, h.issued⟩

theorem FeedUnit.returnPage_within {u : FeedUnit} (d : PageDesc) (h : u.Within) :
    (u.returnPage d).Within := by
  unfold FeedUnit.returnPage; split
  · exact FeedUnit.dropPage_within d h
  · next hroom =>
    refine { h with resume := ?_ }
    rw [List.length_append]
    exact Nat.lt_of_not_le fun hfull => hroom (.inr hfull)

theorem State.deliverPurge_conserves (s : State) (f : Frame) : Conserves s (s.deliverPurge f) := by
  unfold State.deliverPurge; split
  · split
    · exact (Conserves.withFeed s _ fun h =>
        FeedUnit.returnPage_within _ (FeedUnit.removeMatched_within f h)).trans
        (State.feedTest_conserves _)
    · exact .refl s
  · exact .refl s

theorem State.setclose_conserves (s : State) (f : Frame) : Conserves s (s.setclose f) := by
  have h (g : FeedUnit) (p : Issued → Bool) (hg : g = { s.feed with
      issued := s.feed.issued.filter p, lastClose := g.lastClose }) : Conserves s (s.withFeed g) :=
    .withFeed s _ fun h => hg ▸ { h with issued := (List.length_filter_le _ _).trans h.issued }
  unfold State.setclose; dsimp only; split
  · exact .refl s
  · split
    · exact s.countStale_conserves
    · split
      · exact h _ _ rfl
      · exact (h _ _ rfl).trans (State.feedTest_conserves _)

end Sys2Proof.Machine
end

section
/-! SUPPORT. What planning, clearing, the tags, the line port and the frames of the stop controller
conserve. -/

namespace Sys2Proof.Machine

open Conserves (of_only of_keeps)

/-! ### Planning -/

/-- Each entry of a list has one key, so sorting by distinct keys lists none of them twice. -/
theorem length_flatMap_filter_le {α β : Type} [BEq β] [LawfulBEq β] (key : α → β) (l : List α)
    {ks : List β} (hk : ks.Nodup) :
    (ks.flatMap fun k => l.filter fun x => key x == k).length ≤
      (l.filter fun x => ks.contains (key x)).length := by
  induction ks with
  | nil => simp
  | cons k ks ih =>
    obtain ⟨hn, hk⟩ := List.nodup_cons.mp hk
    rw [List.flatMap_cons, List.length_append,
      List.length_eq_length_filter_add (l := l.filter fun x => (k :: ks).contains (key x))
        fun x => key x == k, List.filter_filter, List.filter_filter]
    refine Nat.add_le_add (le_of_eq ?_) ((ih hk).trans (le_of_eq ?_))
    all_goals
      refine congrArg _ (List.filter_congr fun x _ => ?_)
      by_cases h : key x = k <;> simp_all

theorem pathOrder_length (order : List Nat) (l : List Candidate) :
    (pathOrder order l).length ≤ l.length := by
  have hsplit : pathOrder order l =
      ((List.range order.length).product (List.range 8)).flatMap
        (fun k => l.filter fun c => (rankIn order c.segment, c.position) == k)
      ++ l.filter fun c => order.length ≤ rankIn order c.segment := by
    rw [pathOrder, List.product, List.flatMap_assoc]
    simp only [List.flatMap_map]
    rfl
  generalize hks : (List.range order.length).product (List.range 8) = ks at hsplit
  have hk : ks.Nodup := hks ▸ List.nodup_range.product List.nodup_range
  have hin := length_flatMap_filter_le
    (fun c : Candidate => (rankIn order c.segment, c.position)) l hk
  have hout : (l.filter fun c => order.length ≤ rankIn order c.segment).length ≤
      (l.filter fun c => !ks.contains (rankIn order c.segment, c.position)).length := by
    refine (List.monotone_filter_right l fun c hc => ?_).length_le
    have hc : order.length ≤ rankIn order c.segment := of_decide_eq_true hc
    simp [← hks, List.product, Nat.not_lt.mpr hc]
  rw [hsplit, List.length_append]
  exact (Nat.add_le_add hin hout).trans (List.length_eq_length_filter_add _).ge

theorem bindOne_pages (order : List Nat) (u : FeedUnit) (b : Binding) (c : Candidate) :
    (bindOne order u b c).pages.length + (bindOne order u b c).bound.length =
      b.pages.length + b.bound.length := by
  unfold bindOne; dsimp only; split
  · rfl
  · split
    · rfl
    · next d hd =>
      split
      · have hm := List.mem_of_find?_eq_some hd
        have hp := List.find?_some hd
        have := List.length_pos_of_mem hm
        rw [List.length_eraseP_of_mem hm hp, List.length_append]
        simp only [List.length_singleton]
        omega
      · rfl

theorem bindOne_cmds (order : List Nat) (u : FeedUnit) (b : Binding) (c : Candidate) :
    (bindOne order u b c).cmds.length = b.cmds.length + 1 := by
  unfold bindOne; dsimp only; split
  · simp
  · split
    · simp
    · split <;> simp

theorem bindFold_lengths (order : List Nat) (u : FeedUnit) (l : List Candidate) (b : Binding) :
    (l.foldl (bindOne order u) b).pages.length + (l.foldl (bindOne order u) b).bound.length =
      b.pages.length + b.bound.length ∧
    (l.foldl (bindOne order u) b).cmds.length = b.cmds.length + l.length := by
  induction l generalizing b with
  | nil => exact ⟨rfl, rfl⟩
  | cons c l ih =>
    obtain ⟨hp, hc⟩ := ih (bindOne order u b c)
    rw [List.foldl_cons, hp, hc, bindOne_pages, bindOne_cmds, List.length_cons]
    exact ⟨rfl, by omega⟩

/-- Each page bound was a returned page. -/
theorem bindAll_bound_le (order : List Nat) (u : FeedUnit) (q : List PageDesc) (l : List Candidate) :
    (bindAll order u q l).bound.length ≤ q.length := by
  obtain ⟨hp, -⟩ := bindFold_lengths order u (pathOrder order l) { pages := q, cmds := [], bound := [] }
  exact (Nat.le_add_left _ _).trans hp.le

/-- One command for each candidate at most. -/
theorem bindAll_cmds_le (order : List Nat) (u : FeedUnit) (q : List PageDesc) (l : List Candidate) :
    (bindAll order u q l).cmds.length ≤ l.length := by
  obtain ⟨-, hc⟩ := bindFold_lengths order u (pathOrder order l) { pages := q, cmds := [], bound := [] }
  rw [bindAll, hc]
  simpa using pathOrder_length order l

theorem orderRule_length (b : Quad Bool) (l : List Sorted) : (orderRule b l).length = l.length := by
  induction l generalizing b with
  | nil => rfl
  | cons x l ih => unfold orderRule; split <;> simp [ih]

theorem PlanUnit.sorted_length (u : PlanUnit) (issued : List Issued) :
    (u.sorted issued).length = issued.length := by
  rw [PlanUnit.sorted, orderRule_length, List.length_map]

theorem FeedUnit.dropPages_within {u : FeedUnit} (l : List PageDesc) (h : u.Within) :
    (u.dropPages l).Within := by
  induction l generalizing u with
  | nil => exact h
  | cons d l ih => exact ih (FeedUnit.dropPage_within d h)

/-- The entries that continue and the pages that come back are the issued list's, each once. -/
theorem PlanUnit.kept_add_returned_le (u : PlanUnit) (l : List Sorted) :
    ((l.filter fun x => !x.returned).map Sorted.entry).length + (u.returnedPages l).length ≤
      l.length := by
  have h : (u.returnedPages l).length ≤ (l.filter Sorted.returned).length := by
    rw [PlanUnit.returnedPages, List.length_map]
    refine (List.monotone_filter_right l fun x hx => ?_).length_le
    exact (Bool.and_eq_true_iff.mp hx).1
  rw [List.length_map, List.length_eq_length_filter_add (l := l) Sorted.returned]
  omega

theorem buildPlan_feed_within (order : List Nat) (u : PlanUnit) {f : FeedUnit} (h : f.Within) :
    (buildPlan order u f).1.Within := by
  have hf := FeedUnit.dropPages_within (u.dropped (u.sorted f.issued)) h
  refine FeedUnit.dropPages_within _ { pages := hf.pages, resume := ?_, issued := ?_ }
  · exact List.length_take_le _ _
  · have hl := PlanUnit.kept_add_returned_le u (u.sorted f.issued)
    rw [PlanUnit.sorted_length] at hl
    rw [List.length_append]
    exact (Nat.add_le_add_left (bindAll_bound_le _ _ _ _) _).trans (hl.trans h.issued)

theorem buildPlan_list_le (order : List Nat) {u : PlanUnit} {f : FeedUnit}
    (hc : u.candidates.length ≤ candidateCap) (hi : f.issued.length ≤ issuedCap) :
    (buildPlan order u f).2.length ≤ planCap := by
  have hp : (u.purges (u.sorted f.issued)).length ≤ f.issued.length := by
    rw [PlanUnit.purges, List.length_map, ← PlanUnit.sorted_length u]
    exact List.length_filter_le _ _
  have hb := bindAll_cmds_le order (f.dropPages (u.dropped (u.sorted f.issued)))
    (u.returnedPages (u.sorted f.issued)) u.candidates
  rw [buildPlan, List.length_append]
  exact Nat.add_le_add (hp.trans hi) (hb.trans hc)

theorem State.planTest_conserves (s : State) : Conserves s s.planTest := by
  unfold State.planTest; split
  · refine ⟨rfl, fun w => ?_, fun _ => .refl _ _⟩
    have hf := buildPlan_feed_within s.cfg.preImage s.plan w.feed
    exact { w with pages := hf.pages, resume := hf.resume, issued := hf.issued
                   plan := buildPlan_list_le _ w.candidates w.issued }
  · exact .refl s

theorem PlanUnit.gather_within {u : PlanUnit} (order : List Nat) (origin : Nat) (r : Report)
    (h : u.Within) : (u.gather order origin r).Within := by
  unfold PlanUnit.gather PlanUnit.offer; dsimp only; split
  · exact { h with candidates := (List.length_filter_le _ _).trans h.candidates }
  · split
    · exact { h with candidates := by rw [List.length_map]; exact h.candidates }
    · split
      · next hroom => exact { h with candidates := by rw [List.length_append]; exact hroom }
      · exact { h with }

theorem State.report_conserves (s : State) (f : Frame) : Conserves s (s.report f) := by
  unfold State.report; split
  · exact .refl s
  · split
    · exact .refl s
    · split
      · exact .refl s
      · split
        · exact .withPlan s _ fun h => { h with }
        · exact .withPlan s _ (PlanUnit.gather_within _ _ _)

theorem State.readyFrom_conserves (s : State) (f : Frame) : Conserves s (s.readyFrom f) := by
  unfold State.readyFrom; split
  · exact .refl s
  · split
    · exact .withPlan s _ fun h => { h with }
    · refine (Conserves.withPlan s _ fun h => ?_).trans (State.planTest_conserves _)
      unfold PlanUnit.joinReady; split
      · exact h
      · exact { h with }

/-! ### Clearing -/

theorem Conserves.withClear (s : State) (c : ClearUnit) : Conserves s (s.withClear c) :=
  of_only (s.withClear_only c)

theorem State.leaveClaims_conserves (s : State) (l : List Entry) : Conserves s (s.leaveClaims l) :=
  .foldl (fun (t : State) (e : Entry) => t.leaveClaim e.record.sheet)
    (fun t _ => t.leaveClaim_conserves _) l s

theorem keepEntry_record {judge : Entry → Disposition} {e f : Entry} (h : keepEntry judge e = some f) :
    f.record = e.record := by
  unfold keepEntry at h; split at h
  · rw [← Option.some.inj h]
  · cases h

theorem State.applySurvey_conserves (s : State) (judge : Entry → Disposition) (d : Disposition)
    (l : List Report) : Conserves s (s.applySurvey judge d l) := by
  refine (Conserves.withTrack s _ (List.length_filterMap_le (keepEntry judge) _) (Nat.zero_le _)
    fun _ => ?_).trans ((State.leaveClaims_conserves _ _).trans (.withClear _ _))
  exact .filterMap (fun e f h => by rw [keepEntry_record h]; exact .refl _ _) _

theorem State.emptyCompile_conserves (s : State) : Conserves s s.emptyCompile :=
  .withDeliv s _ (fun _ => Nat.zero_le _) (by exact id)

theorem State.fullForm_conserves (s : State) : Conserves s s.fullForm := by
  unfold State.fullForm; split
  · exact .withClear s _
  · exact (s.applySurvey_conserves _ _ _).trans (State.emptyCompile_conserves _)

theorem State.consistencyForm_conserves (s : State) : Conserves s s.consistencyForm := by
  unfold State.consistencyForm; split
  · exact .withClear s _
  · exact s.applySurvey_conserves _ _ _

theorem State.enterClearing_conserves (s : State) : Conserves s s.enterClearing := by
  unfold State.enterClearing; split
  · exact of_keeps (s.enter_keeps _)
  · exact .refl s

theorem State.surveyForm_conserves (s : State) : Conserves s s.surveyForm := by
  unfold State.surveyForm; split
  · exact s.fullForm_conserves
  · split
    · exact (s.startOp_conserves _).trans (.withClear _ _)
    · exact s.consistencyForm_conserves

theorem State.survey_conserves (s : State) : Conserves s s.survey :=
  s.enterClearing_conserves.trans <| (Conserves.withOrphan _ none).trans <|
    (Conserves.withClear _ _).trans (State.surveyForm_conserves _)

theorem State.voidDone_conserves (s : State) : Conserves s s.voidDone :=
  s.endOp_conserves.trans <| (Conserves.withClear _ _).trans <|
    (State.emptyCompile_conserves _).trans (State.consistencyForm_conserves _)

theorem State.opDone_conserves (s : State) : Conserves s s.opDone := by
  unfold State.opDone; split
  · exact .refl s
  · exact s.stapleDone_conserves
  · split
    · exact s.voidDone_conserves
    · exact s.opFailed_conserves

theorem Conserves.push (s : State) (f : Frame) (h : s.line.tx.length < txCap) :
    Conserves s (s.push f) := of_keeps (.push s f h)

theorem State.announceReady_conserves (s : State) (h : s.line.tx.length < txCap) :
    Conserves s s.announceReady :=
  (Conserves.push s _ h).trans <| (Conserves.withClear _ _).trans <|
    (Conserves.withStop _ _ (by exact id)).trans <| (of_keeps (State.enter_keeps _ _)).trans
    (State.planTest_conserves _)

theorem State.planPurge_conserves (s : State) (sheet : Nat) : Conserves s (s.planPurge sheet) := by
  refine (Conserves.withTrack s _ (List.length_map _).le (List.length_map _).le
    fun _ => .map _ fun e _ => ?_).trans (.withClear _ _)
  unfold Entry.mapRecord; dsimp only; split
  · exact .of_eq rfl rfl rfl
  · exact .refl _ _

theorem State.repeatPasses_keeps (s : State) (l : List Entry) : KeepsHoldings s (s.repeatPasses l) :=
  .foldl _ (fun t _ => t.queueFrame_keeps _ _) l s

theorem State.openPace_conserves (s : State) : Conserves s s.openPace := by
  unfold State.openPace; split
  · exact .withFeed s _ fun h => ⟨h.pages, h.resume, h.issued⟩
  · exact .refl s

theorem State.planGo_conserves (s : State) : Conserves s s.planGo := by
  unfold State.planGo; split
  · exact .withPlan s _ fun h => ⟨Nat.zero_le _, h.list⟩
  · exact .refl s

theorem State.arrivalTests_keeps (s : State) : KeepsHoldings s s.arrivalTests := by
  refine KeepsHoldings.foldl _ (fun t a => ?_) _ _
  split
  · exact t.raise_keeps _ _ _
  · exact .refl t

theorem State.entryTests_keeps (s : State) : KeepsHoldings s s.entryTests := by
  refine KeepsHoldings.foldl _ (fun t e => ?_) _ _
  split
  · exact t.raise_keeps _ _ _
  · exact .refl t

theorem State.stallTests_keeps (s : State) : KeepsHoldings s s.stallTests := by
  refine KeepsHoldings.foldl _ (fun t k => ?_) _ _
  split
  · exact t.raise_keeps _ _ _
  · exact .refl t

theorem State.interlockTest_keeps (s : State) : KeepsHoldings s s.interlockTest := by
  unfold State.interlockTest; split
  · exact s.raiseFrom_keeps _ _ _ _
  · split
    · exact s.raiseFrom_keeps _ _ _ _
    · exact .refl s

theorem State.runTests_conserves (s : State) : Conserves s s.runTests :=
  (of_keeps s.arrivalTests_keeps).trans <| (of_keeps (State.entryTests_keeps _)).trans <|
    (of_keeps (State.stallTests_keeps _)).trans <| (of_keeps (State.interlockTest_keeps _)).trans <|
    (of_keeps (State.guardTests_keeps _)).trans <| (State.gateService_conserves _).trans
    (State.feedTest_conserves _)

theorem State.resolveArrivals_conserves (s : State) : Conserves s s.resolveArrivals :=
  .withArrivals s _ fun h => by rw [List.length_map]; exact h

theorem State.enterRun_conserves (s : State) : Conserves s s.enterRun :=
  (Conserves.withClear s _).trans <| (Conserves.withStop _ _ fun _ => Nat.zero_le _).trans <|
    (of_only (State.restartGaps_only _)).trans <| (State.planGo_conserves _).trans <|
    (of_keeps (State.riseAll_keeps _)).trans <| (of_keeps (State.enter_keeps _ _)).trans <|
    (State.resolveArrivals_conserves _).trans (State.runTests_conserves _)

theorem State.resume_record (s : State) (e : Entry) : SidesMove s.cfg.kind e.record (s.resume e).record := by
  unfold State.resume; split
  · exact .of_eq rfl rfl rfl
  · exact .refl _ _

theorem State.returnHeld_conserves (s : State) : Conserves s s.returnHeld :=
  (Conserves.mapTable s _ s.resume_record).trans (of_keeps (State.repeatPasses_keeps _ _))

theorem State.goReady_conserves (s : State) : Conserves s s.goReady := by
  unfold State.goReady; split
  · exact s.returnHeld_conserves.trans (State.enterRun_conserves _)
  · exact of_keeps (s.startStop_keeps _ _ _)

theorem State.go_conserves (s : State) : Conserves s s.go := by
  unfold State.go; split
  · exact s.enterRun_conserves
  · exact of_keeps (s.startStop_keeps _ _ _)

theorem State.goCurrent_conserves (s : State) : Conserves s s.goCurrent := by
  unfold State.goCurrent; split
  · exact s.openPace_conserves.trans (State.goReady_conserves _)
  · exact of_keeps (s.startStop_keeps _ _ _)
  · exact of_keeps (s.startStop_keeps _ _ _)
  · exact s.countStale_conserves
  · exact s.countStale_conserves
  all_goals exact .refl s

theorem State.goFrom_conserves (s : State) (f : Frame) : Conserves s (s.goFrom f) := by
  unfold State.goFrom; split
  · exact (Conserves.withStop s _ (by exact id)).trans <| (State.openPace_conserves _).trans
      (State.go_conserves _)
  · split
    · exact s.goCurrent_conserves
    · exact s.countStale_conserves

/-! ### Tags and supply -/

theorem State.resendInputs_keeps (s : State) : KeepsHoldings s s.resendInputs := by
  refine KeepsHoldings.foldl _ (fun t i => ?_) _ _
  split
  · exact t.queueFrame_keeps _ _
  · exact .refl t

theorem State.interlocks_keeps (s : State) (p : PathState) (l : List Nat) :
    KeepsHoldings s (s.interlocks p l) :=
  .foldl _ (fun t _ => t.raiseFrom_keeps _ _ _ _) l s

theorem State.voidOpened_conserves (s : State) : Conserves s s.voidOpened := by
  unfold State.voidOpened; split
  · exact s.opFailed_conserves
  · exact .refl s

theorem State.surveyOpened_conserves (s : State) : Conserves s s.surveyOpened :=
  s.voidOpened_conserves.trans (.withClear _ _)

theorem State.withdrawReady_conserves (s : State) : Conserves s s.withdrawReady := by
  unfold State.withdrawReady; split
  · exact .push s _ (LineUnit.open_lt ‹_›)
  · exact .withClear s _

theorem State.groupOpens_conserves (s : State) : Conserves s s.groupOpens := by
  have h := s.surveyOpened_conserves
  unfold State.groupOpens; split
  · exact h.trans (of_keeps (State.enter_keeps _ _))
  · exact h.trans ((State.withdrawReady_conserves _).trans (of_keeps (State.enter_keeps _ _)))
  · exact h.trans (.withClear _ _)
  all_goals exact h

theorem State.openIf_conserves (s : State) (c : Bool) : Conserves s (s.openIf c) := by
  unfold State.openIf; split
  · exact s.groupOpens_conserves
  · exact .refl s

theorem State.tagChange_conserves (s : State) (tag : Nat) (asserted : Bool) :
    Conserves s (s.tagChange tag asserted) :=
  (of_only (s.hearTag_only _ _)).trans <| (of_only (State.markCycle_only _)).trans <|
    (of_only (State.brakeIf_only _ _)).trans <| (of_keeps (State.interlocks_keeps _ _ _)).trans <|
    (of_keeps (State.interlocks_keeps _ _ _)).trans <| (of_keeps (State.zonesChanged_keeps _)).trans <|
    (State.openIf_conserves _ _).trans (State.feedTest_conserves _)

theorem State.tagFrom_conserves (s : State) (f : Frame) : Conserves s (s.tagFrom f) := by
  unfold State.tagFrom; dsimp only; split
  · exact s.countStale_conserves
  · split
    · split
      · exact .refl s
      · exact of_keeps s.resendInputs_keeps
    · split
      · exact .refl s
      · exact s.tagChange_conserves _ _

theorem State.supplyTurns_conserves (s : State) : Conserves s s.supplyTurns := by
  have h : Conserves s (s.withSupply { ok := s.comparatorOk, hold := none }) :=
    of_only (s.withSupply_only _)
  unfold State.supplyTurns; dsimp only; split
  · exact h
  · exact h.trans <| (of_keeps (State.brakeAll_keeps _)).trans <|
      (of_keeps (State.raise_keeps _ _ _ _)).trans (of_keeps (State.zonesChanged_keeps _))

/-! ### Frames of the stop controller, and the line port -/

theorem State.jamcallFrom_conserves (s : State) (f : Frame) : Conserves s (s.jamcallFrom f) := by
  unfold State.jamcallFrom; split
  · exact s.countStale_conserves
  · split
    · exact (Conserves.withStop s _ (StopUnit.addSite_few _ _)).trans
        (State.haltAheadTest_conserves _)
    · exact of_keeps (s.stopStart_keeps _ _)

theorem State.unresolve_conserves (s : State) (seg : Nat) (st : Stance) :
    Conserves s (s.unresolve seg st) := by
  unfold State.unresolve; split
  · exact .withArrivals s _ fun h => by rw [List.length_map]; exact h
  · exact .refl s

theorem StopUnit.setStance_sites (u : StopUnit) (seg : Nat) (st : Stance) :
    (u.setStance seg st).sites = u.sites := by
  unfold StopUnit.setStance; split <;> rfl

theorem State.stance_conserves (s : State) (seg : Nat) (st : Stance) :
    Conserves s (s.stance seg st) :=
  (Conserves.withStop s _ fun h => by rw [StopUnit.setStance_sites]; exact h).trans <|
    (State.unresolve_conserves _ _ _).trans <| (State.haltAheadTest_conserves _).trans
    (of_keeps (State.drainTest_keeps _))

theorem State.stopstateFrom_conserves (s : State) (f : Frame) : Conserves s (s.stopstateFrom f) := by
  unfold State.stopstateFrom; split
  · exact s.countStale_conserves
  · split
    · exact s.countStale_conserves
    · exact s.stance_conserves _ _

theorem State.limitTest_conserves (s : State) : Conserves s s.limitTest := by
  unfold State.limitTest; split
  · exact (Conserves.withLine s _ (by exact id) (by exact id)).trans
      (of_keeps (State.raise_keeps _ _ _ _))
  · exact .refl s

theorem State.rxOverflows_conserves (s : State) (p : PathState) : Conserves s (s.rxOverflows p) :=
  (Conserves.withLine s _ (by exact id) (by exact id)).trans (of_keeps (State.raiseFrom_keeps _ _ _ _ _))

theorem State.receive_conserves (s : State) (p : PathState) (f : Frame) :
    Conserves s (s.receive p f) := by
  unfold State.receive; split
  · next hroom =>
    exact .withLine s _ (by exact id) fun _ => by rw [List.length_append]; exact hroom
  · exact s.rxOverflows_conserves _

theorem State.goDropped_conserves (s : State) : Conserves s s.goDropped := by
  unfold State.goDropped; split
  · exact .refl s
  · split
    · exact .withFeed s _ fun h => ⟨h.pages, h.resume, h.issued⟩
    · split
      · exact .withPlan s _ fun h => { h with }
      · exact .refl s

theorem State.sent_conserves (s : State) (p : PathState) (f : Frame) : Conserves s (s.sent p f) := by
  have h : Conserves s (s.withLine
      { s.line.release with tx := s.line.tx.erase f, errorRun := 0 }) :=
    .withLine s _ (List.length_erase_le.trans) (by exact id)
  unfold State.sent; dsimp only; split
  · exact h.trans (State.receive_conserves _ _ _)
  · split
    · exact h.trans ((State.rxOverflows_conserves _ _).trans (State.goDropped_conserves _))
    · exact h.trans (State.rxOverflows_conserves _ _)

end Sys2Proof.Machine
end

section
/-! SUPPORT. What a command conserves: the answer of each, and the two ways in which a sheet enters the
segment table, from the arrival queue (R14) and by a PASS that adopts the orphan (R13). -/

namespace Sys2Proof.Machine

open Conserves (of_only of_keeps)

/-! ### Answers -/

/-- An outcome whose next state meets `P`. -/
def Answers (P : State → Prop) (o : Host.Outcome State Fault Refusal) : Prop := ∀ t, o = .next t → P t

theorem Answers.next {P : State → Prop} {t : State} (h : P t) : Answers P (.next t) := by
  intro u hu; cases hu; exact h

theorem Answers.mono {P Q : State → Prop} {o : Host.Outcome State Fault Refusal} (h : Answers P o)
    (hPQ : ∀ t, P t → Q t) : Answers Q o := fun t ht => hPQ t (h t ht)

theorem Answers.ite {P : State → Prop} {c : Prop} [Decidable c]
    {a b : Host.Outcome State Fault Refusal} (ha : c → Answers P a) (hb : ¬ c → Answers P b) :
    Answers P (if c then a else b) := by
  split
  · exact ha ‹_›
  · exact hb ‹_›

theorem latchNew_conserves (s t : State) : Conserves t (latchNew s t) :=
  of_only (latchNew_only s t)

theorem Answers.conserves {s u t : State} (h : Conserves s u) : Answers (Conserves s) (done t u) :=
  .next (h.trans (latchNew_conserves t u))

theorem Answers.stays (s : State) : Answers (Conserves s) (.next s) := .next (.refl s)

theorem State.answer_conserves (s : State) (r : Reply) : Conserves s (s.answer r) :=
  of_only (s.answer_only r)

theorem State.decline_conserves (s : State) (why : Status) :
    Answers (Conserves s) (s.decline why) := .next (s.answer_conserves _)

theorem State.command_conserves (s : State) (n : Nat) {act : Host.Outcome State Fault Refusal}
    (h : Answers (Conserves s) act) : Answers (Conserves s) (s.command n act) :=
  .ite (fun _ => .stays s) fun _ => .ite (fun _ => s.decline_conserves _) fun _ => h

/-- The front frame is taken from the receive queue and nothing else changes (R182). -/
theorem State.takeFrame_front {s t : State} {k : FrameKind} {f : Frame}
    (h : s.takeFrame k = some (f, t)) : ∃ rest, Front s k f rest ∧ t = s.took rest := by
  unfold State.takeFrame at h; split at h
  · cases h
  · next g rest hq =>
    split at h
    · next hc =>
      cases h
      rw [Bool.and_eq_true, beq_iff_eq] at hc
      exact ⟨rest, ⟨hc.1, hq, hc.2⟩, rfl⟩
    · cases h

theorem State.takeFrame_conserves {s t : State} {k : FrameKind} {f : Frame}
    (h : s.takeFrame k = some (f, t)) : Conserves s t := by
  obtain ⟨rest, hf, rfl⟩ := State.takeFrame_front h
  exact .withLine s { s.line with rx := rest } (by exact id) fun hr => by
    rw [hf.queue] at hr
    exact (Nat.le_succ _).trans hr

/-- A command that takes a frame and acts on it. -/
theorem State.frameTaken_conserves (s : State) (k : FrameKind) (act : Frame → State → State)
    (h : ∀ f t, Conserves t (act f t)) :
    Answers (Conserves s) (match s.takeFrame k with
      | some (f, s1) => done s (act f s1)
      | none => .next s) := by
  split
  · exact .conserves ((State.takeFrame_conserves ‹_›).trans (h _ _))
  · exact .stays s

theorem State.takeDeliver_conserves {s t : State} {p : Nat → Bool} {f : Frame}
    (h : s.takeDeliver p = some (f, t)) : Conserves s t := by
  unfold State.takeDeliver at h; split at h
  · split at h
    · cases h; exact State.takeFrame_conserves ‹_›
    · cases h
  · cases h

/-! ### Commands of drive, line and feeding -/

theorem execDrdyPresent_conserves (s : State) : Answers (Conserves s) (execDrdyPresent s) := by
  have h : Conserves s (s.setDrdy true) := of_only (s.withPins_only _)
  exact .ite (fun _ => .conserves <| h.trans <| (of_only (State.withChain_only _ _)).trans <|
    (of_only (State.beginRises_only _)).trans (State.feedTest_conserves _)) fun _ => .next h

theorem execReadyTimerExpiry_conserves (s : State) :
    Answers (Conserves s) (execReadyTimerExpiry s) :=
  .ite (fun _ => .conserves <| (of_only s.withdrawRises_only).trans <|
    (of_only (State.withChain_only _ _)).trans (of_keeps (State.chainFails_keeps _))) fun _ => .stays s

theorem execDrdyLost_conserves (s : State) : Answers (Conserves s) (execDrdyLost s) := by
  have h : Conserves s (s.setDrdy false) := of_only (s.withPins_only _)
  exact .ite
    (fun _ => .ite
      (fun _ => .conserves <| h.trans <| (of_only (State.brakeMoving_only _)).trans
        (of_keeps (State.chainFails_keeps _)))
      fun _ => .conserves (h.trans (of_only (State.withChain_only _ _))))
    fun _ => .next h

theorem execZoneStep_conserves (z : ZoneId) (s : State) :
    Answers (Conserves s) (execZoneStep z s) := by
  have h : Conserves s (s.setZone z (s.stepZone z (s.zone z))).zonesChanged :=
    (of_only (s.setZone_only _ _)).trans (of_keeps (State.zonesChanged_keeps _))
  refine .ite (fun _ => ?_) fun _ => .stays s
  dsimp only; split
  · exact .conserves (h.trans (State.feedTest_conserves _))
  · exact .conserves h

theorem execSilenceTimeout_conserves (z : ZoneId) (s : State) :
    Answers (Conserves s) (execSilenceTimeout z s) :=
  .ite (fun _ => .conserves (of_keeps (State.silences_keeps _ _ _))) fun _ => .stays s

theorem execFrameTransmitStart_conserves (s : State) :
    Answers (Conserves s) (execFrameTransmitStart s) :=
  .ite (fun _ => .next (.withLine s _ (by exact id) (by exact id))) fun _ => .stays s

theorem execTransmitError_conserves (s : State) : Answers (Conserves s) (execTransmitError s) := by
  unfold execTransmitError; split
  · exact .stays s
  · exact .conserves (s.limitTest_conserves.trans (.withLine _ _ (by exact id) (by exact id)))

theorem execFrameSent_conserves (s : State) : Answers (Conserves s) (execFrameSent s) := by
  unfold execFrameSent; split
  · exact .stays s
  · exact .conserves (s.limitTest_conserves.trans (State.sent_conserves _ _ _))

theorem State.countCrc_conserves (s : State) : Conserves s s.countCrc :=
  .withLine s _ (by exact id) (by exact id)

theorem execFrameReceived_conserves (bits : List Bool) (s : State) :
    Answers (Conserves s) (execFrameReceived bits s) := by
  refine .ite (fun _ => ?_) fun _ => .stays s
  split
  · exact .next s.countCrc_conserves
  · exact .next s.countStale_conserves
  · exact .conserves (s.receive_conserves _ _)

theorem State.issuable_room {s : State} {d : PageDesc} (h : s.issuable = some d) :
    s.feed.issued.length < issuedCap := by
  unfold State.issuable at h; split at h
  · split at h
    · next hl => simp_all [State.laneOpen]
    · cases h
  · cases h

theorem execIssue_conserves (s : State) : Answers (Conserves s) (execIssue s) := by
  unfold execIssue; split
  · exact .conserves (s.issuePage_conserves _ (State.issuable_room ‹_›))
  · exact .stays s

theorem execPaceGapReached_conserves (s : State) : Answers (Conserves s) (execPaceGapReached s) :=
  .ite (fun _ => .conserves s.feedTest_conserves) fun _ => .stays s

theorem execStartGo_conserves (s : State) : Answers (Conserves s) (execStartGo s) :=
  .ite (fun _ => .ite
      (fun h => .conserves <| (Conserves.push s _ (LineUnit.open_lt h)).trans
        (.withFeed _ _ fun w => by exact ⟨w.pages, w.resume, w.issued⟩))
      fun _ => .conserves <| (of_keeps (.lose s)).trans (of_keeps (State.raise_keeps _ _ _ _)))
    fun _ => .stays s

theorem execRestTimerExpiry_conserves (s : State) : Answers (Conserves s) (execRestTimerExpiry s) :=
  .ite (fun _ => .conserves <|
    (Conserves.withFeed s _ fun w => by exact ⟨w.pages, w.resume, w.issued⟩).trans
      (of_keeps (State.queueFrame_keeps _ _ _))) fun _ => .stays s

theorem execRestTaken_conserves (s : State) : Answers (Conserves s) (execRestTaken s) := by
  unfold execRestTaken; split
  · have h := State.takeFrame_conserves ‹_›
    exact .ite (fun _ => .conserves (h.trans (State.rest_conserves _))) fun _ => .conserves h
  · exact .stays s

theorem execDeliverFinal_conserves (s : State) : Answers (Conserves s) (execDeliverFinal s) := by
  unfold execDeliverFinal; split
  · exact .conserves ((State.takeDeliver_conserves ‹_›).trans (State.deliverFinal_conserves _ _))
  · exact .stays s

theorem execDeliverCompiled_conserves (s : State) :
    Answers (Conserves s) (execDeliverCompiled s) := by
  unfold execDeliverCompiled; split
  · exact .conserves ((State.takeDeliver_conserves ‹_›).trans (State.deliverCompiled_conserves _ _))
  · exact .stays s

theorem execDeliverPurge_conserves (s : State) : Answers (Conserves s) (execDeliverPurge s) := by
  unfold execDeliverPurge; split
  · exact .conserves ((State.takeDeliver_conserves ‹_›).trans (State.deliverPurge_conserves _ _))
  · exact .stays s

theorem execReportTaken_conserves (s : State) : Answers (Conserves s) (execReportTaken s) :=
  s.frameTaken_conserves .report (fun f t => if s.isKind .feed then t.report f else t) fun f t => by
    split
    · exact t.report_conserves f
    · exact .refl t

theorem execReadyTaken_conserves (s : State) : Answers (Conserves s) (execReadyTaken s) :=
  s.frameTaken_conserves .ready (fun f t => if s.isKind .feed then t.readyFrom f else t) fun f t => by
    split
    · exact t.readyFrom_conserves f
    · exact .refl t

theorem execPlanFrameQueued_conserves (s : State) :
    Answers (Conserves s) (execPlanFrameQueued s) := by
  unfold execPlanFrameQueued; split
  · exact .stays s
  · next c rest hl =>
    refine .ite (fun h => .conserves <| (Conserves.push s _ (LineUnit.open_lt h.2)).trans
      (.withPlan _ _ fun w => { w with list := ?_ })) fun _ => .stays s
    have w : s.plan.list.length ≤ planCap := w.list
    rw [hl] at w
    exact (Nat.le_succ _).trans w

theorem execPlanGoQueued_conserves (s : State) : Answers (Conserves s) (execPlanGoQueued s) :=
  .ite (fun h => .conserves <|
    (Conserves.push s _ (LineUnit.open_lt (Bool.and_eq_true_iff.mp h).2)).trans
      (.withPlan _ _ fun w => by exact { w with })) fun _ => .stays s

theorem execAnnouncementQueued_conserves (s : State) :
    Answers (Conserves s) (execAnnouncementQueued s) := by
  unfold execAnnouncementQueued; split
  · exact .stays s
  · next a rest hl =>
    refine .ite (fun h => .conserves <| (Conserves.push s _ (LineUnit.open_lt h)).trans
      (.withDeliv _ _ (by exact id) fun w => ?_)) fun _ => .stays s
    have w : s.deliv.announce.length ≤ announceCap := w
    rw [hl] at w
    exact (Nat.le_succ _).trans w

/-! ### Commands of tracking and clearing that take no PASS -/

theorem execEncoderCountedEdge_conserves (z : ZoneId) (rising : Bool) (s : State) :
    Answers (Conserves s) (execEncoderCountedEdge z rising s) := by
  have h : Conserves s (s.setEnc z rising) := of_only (s.withPins_only _)
  exact .ite (fun _ => .conserves (h.trans (State.countEdge_conserves _ _))) fun _ => .next h

theorem State.passPoint_conserves (s : State) (e : Entry) : Conserves s (s.passPoint e) := by
  unfold State.passPoint; split
  · exact .mapEntry s _ _ fun _ _ => .refl _ _
  · exact s.sendPass_conserves _ _

theorem execPassPointReached_conserves (i : Nat) (s : State) :
    Answers (Conserves s) (execPassPointReached i s) := by
  unfold execPassPointReached; split
  · exact .ite (fun _ => .conserves (s.passPoint_conserves _)) fun _ => .stays s
  · exact .stays s

theorem execDeferredPass_conserves (i : Nat) (s : State) :
    Answers (Conserves s) (execDeferredPass i s) := by
  unfold execDeferredPass; split
  · exact .ite (fun _ => .conserves (s.sendPass_conserves _ _)) fun _ => .stays s
  · exact .stays s

theorem State.raise_conserves (s : State) (c : Cause) (place sheet : Nat) :
    Conserves s (s.raise c place sheet) := of_keeps (s.raise_keeps c place sheet)

theorem execLateAtStation_conserves (i : Nat) (s : State) :
    Answers (Conserves s) (execLateAtStation i s) := by
  unfold execLateAtStation; split
  · exact .ite (fun _ => .conserves (s.raise_conserves _ _ _)) fun _ => .stays s
  · exact .stays s

theorem execLateAtS1_conserves (i : Nat) (s : State) : Answers (Conserves s) (execLateAtS1 i s) := by
  unfold execLateAtS1; split
  · exact .ite (fun _ => .conserves (s.raise_conserves _ _ _)) fun _ => .stays s
  · exact .stays s

theorem execGateGuardFail_conserves (i : Nat) (s : State) :
    Answers (Conserves s) (execGateGuardFail i s) := by
  unfold execGateGuardFail; split
  · exact .ite (fun _ => .conserves (s.raise_conserves _ _ _)) fun _ => .stays s
  · exact .stays s

theorem execFdone_conserves (high : Bool) (s : State) : Answers (Conserves s) (execFdone high s) := by
  have h : Conserves s (s.setFdone high) := of_only (s.withPins_only _)
  exact .ite (fun _ => .conserves (h.trans (State.opDone_conserves _))) fun _ => .next h

theorem execOperationTimeout_conserves (s : State) :
    Answers (Conserves s) (execOperationTimeout s) := by
  have h : Conserves s (s.withDeliv { s.deliv with opTimer := operationMs }).opFailed :=
    (Conserves.withDeliv s _ (by exact id) (by exact id)).trans (State.opFailed_conserves _)
  exact .ite (fun _ => .stays s) fun _ => .ite (fun _ => .conserves (h.trans (.withClear _ _)))
    fun _ => .conserves h

theorem execReportQueued_conserves (s : State) : Answers (Conserves s) (execReportQueued s) := by
  unfold execReportQueued; split
  · exact .stays s
  · exact .ite (fun h => .conserves <| (Conserves.push s _ (LineUnit.open_lt h.2.2)).trans
      (.withClear _ _)) fun _ => .stays s

theorem execReadyQueued_conserves (s : State) : Answers (Conserves s) (execReadyQueued s) :=
  .ite (fun h => .ite
      (fun _ => .conserves ((Conserves.push s _ (LineUnit.open_lt h)).trans (.withClear _ _)))
      fun _ => .ite (fun _ => .conserves (s.announceReady_conserves (LineUnit.open_lt h)))
        fun _ => .stays s)
    fun _ => .stays s

theorem State.planFrom_conserves (s : State) (f : Frame) (act : State → State)
    (h : ∀ t, Conserves t (act t)) : Conserves s (s.planFrom f act) := by
  unfold State.planFrom; split
  · exact s.countStale_conserves
  · split
    · exact .refl s
    · split
      · exact s.countStale_conserves
      · split
        · exact h s
        · exact .refl s

theorem execPlanPurge_conserves (s : State) : Answers (Conserves s) (execPlanPurge s) := by
  unfold execPlanPurge; split
  · exact .ite (fun _ => .stays s) fun _ => .conserves <|
      (State.takeFrame_conserves ‹_›).trans
        (State.planFrom_conserves _ _ _ fun t => t.planPurge_conserves _)
  · exact .stays s

/-! ### Commands of the tags and the supply -/

theorem State.superviseSupply_conserves (s : State) : Conserves s s.superviseSupply :=
  of_only s.superviseSupply_only

theorem execInputPinChange_conserves (i : InputId) (high : Bool) (s : State) :
    Answers (Conserves s) (execInputPinChange i high s) := by
  have h : Conserves s (s.setInp i high) := of_only (s.withPins_only _)
  exact .ite (fun _ => .next (h.trans (of_only (State.setInput_only _ _ _)))) fun _ => .next h

theorem execTagHoldExpiry_conserves (i : InputId) (s : State) :
    Answers (Conserves s) (execTagHoldExpiry i s) :=
  .ite (fun _ => .conserves <| (of_only (s.setInput_only _ _)).trans
    (of_keeps (State.queueFrame_keeps _ _ _))) fun _ => .stays s

theorem execVsenseChange_conserves (v : Nat) (s : State) :
    Answers (Conserves s) (execVsenseChange v s) := by
  have h : Conserves s (s.withPins { s.pins with vsense := v }) := of_only (s.withPins_only _)
  exact .ite (fun _ => .next (h.trans (State.superviseSupply_conserves _))) fun _ => .next h

/-! ### Commands of the local port, but for those that reset or configure -/

theorem execConfigRead_conserves (item : ConfigItem) (n : Nat) (s : State) :
    Answers (Conserves s) (execConfigRead item n s) := by
  refine s.command_conserves n ?_
  split
  · exact s.decline_conserves _
  · exact .next (s.answer_conserves _)

theorem State.addPage_conserves (s : State) (d : PageDesc) (h : s.feed.pages.length < pageCap) :
    Conserves s (s.addPage d) := by
  refine (Conserves.withFeed s _ fun w => ?_).trans
    ((State.answer_conserves _ _).trans (State.feedTest_conserves _))
  refine FeedUnit.restTest_within { w with pages := ?_ }
  rw [List.length_append]
  exact h

theorem State.pageRefusal_none {s : State} {d : PageDesc} (h : s.pageRefusal d = none) :
    s.feed.pages.length < pageCap := by
  unfold State.pageRefusal at h
  split_ifs at h with h1 h2 h3 h4 h5 h6
  exact Nat.lt_of_not_le h6

theorem execPageSubmit_conserves (data : List Byte) (s : State) :
    Answers (Conserves s) (execPageSubmit data s) := by
  refine .ite (fun _ => .stays s) fun _ => .ite (fun _ => s.decline_conserves _) fun _ => ?_
  split
  · exact s.decline_conserves _
  · exact .conserves (s.addPage_conserves _ (State.pageRefusal_none ‹_›))

theorem execStreamCancel_conserves (stream n : Nat) (s : State) :
    Answers (Conserves s) (execStreamCancel stream n s) := by
  refine s.command_conserves n ?_
  split
  · exact s.decline_conserves _
  · refine .conserves <| (Conserves.withFeed s _ fun w => ?_).trans <|
      (State.answer_conserves _ _).trans (State.feedTest_conserves _)
    exact ⟨(List.length_filter_le _ _).trans w.pages, (List.length_filter_le _ _).trans w.resume,
      w.issued⟩

theorem execStreamRelease_conserves (stream n : Nat) (s : State) :
    Answers (Conserves s) (execStreamRelease stream n s) := by
  refine s.command_conserves n ?_
  split
  · exact s.decline_conserves _
  · exact .ite (fun _ => .conserves <|
      (Conserves.withFeed s _ fun w => by exact ⟨w.pages, w.resume, w.issued⟩).trans <|
        (State.answer_conserves _ _).trans (State.feedTest_conserves _))
      fun _ => s.decline_conserves _

theorem execRead_conserves (c : Collection) (i n : Nat) (s : State) :
    Answers (Conserves s) (execRead c i n s) :=
  s.command_conserves n <| .ite (fun _ => s.decline_conserves _) fun _ =>
    .ite (fun _ => s.decline_conserves _) fun _ => .next (s.answer_conserves _)

theorem execReadCounters_conserves (n : Nat) (s : State) :
    Answers (Conserves s) (execReadCounters n s) :=
  s.command_conserves n <| .next <| (Conserves.withStop s _ (by exact id)).trans <|
    (Conserves.withLine _ _ (by exact id) (by exact id)).trans (State.answer_conserves _ _)

theorem execNoticeClear_conserves (names : List Notice) (fits : Bool) (s : State) :
    Answers (Conserves s) (execNoticeClear names fits s) :=
  s.command_conserves _ <| .next <|
    (of_only (s.mapNotices_only _)).trans (State.answer_conserves _ _)

theorem execNoticeSetup_conserves (enable level : List Notice) (fits : Bool) (s : State) :
    Answers (Conserves s) (execNoticeSetup enable level fits s) :=
  s.command_conserves _ <| .next <|
    (of_only (s.mapNotices_only _)).trans (State.answer_conserves _ _)

end Sys2Proof.Machine
end

section
/-! SUPPORT and the proofs of StepKeepsTheTables and SideStatesMoveForwardOnly: the two ways in which a sheet
enters the segment table, what a PLAN BIND rewrites, and what each command does to the table. -/

namespace Sys2Proof.Machine

open Conserves (of_only of_keeps)

/-! ### A sheet enters the segment table -/

/-- What an operation leaves of the table `l`: what descends from it, or from it with one new entry at its
back, whose record meets `src` and whose sheet the table lacked. -/
inductive Admitted (src : SheetRecord → Prop) (kind : Option NodeKind) (l l' : List Entry) : Prop
  | kept (h : Descends kind l l')
  | entered (n : Entry) (source : src n.record) (fresh : ∀ e ∈ l, e.record.sheet ≠ n.record.sheet)
      (h : Descends kind (l ++ [n]) l')

/-- The capacities are kept, and the table is `Admitted`. -/
structure Admits (src : SheetRecord → Prop) (s t : State) : Prop where
  caps : WithinCaps s → WithinCaps t
  table : Unique s.track.table → Admitted src s.cfg.kind s.track.table t.track.table

theorem Unique.concat {l : List Entry} {n : Entry} (h : Unique l)
    (fresh : ∀ e ∈ l, e.record.sheet ≠ n.record.sheet) : Unique (l ++ [n]) := by
  unfold Unique
  rw [List.map_append, List.nodup_append]
  refine ⟨h, List.nodup_singleton _, fun a ha b hb => ?_⟩
  obtain ⟨e, he, rfl⟩ := List.mem_map.mp ha
  rw [List.map_singleton, List.mem_singleton] at hb
  exact hb ▸ fresh e he

namespace Admits

variable {src : SheetRecord → Prop} {s t u : State}

theorem of_conserves (h : Conserves s t) : Admits src s t := ⟨h.caps, fun hu => .kept (h.table hu)⟩

/-- What keeps the table ahead of an operation changes nothing of what it admits. -/
theorem after (h : KeepsHoldings s t) (k : Admits src t u) : Admits src s u :=
  { caps := k.caps ∘ (of_keeps h).caps
    table := fun hu => by
      rw [← h.only.cfg, ← h.table]
      rw [← h.table] at hu
      exact k.table hu }

/-- The entry `n` joins the table at its back in `t`, and what follows is conserved. -/
theorem entered (n : Entry) (caps : WithinCaps s → WithinCaps t)
    (ht : t.track.table = s.track.table ++ [n]) (hc : t.cfg = s.cfg) (source : src n.record)
    (fresh : ∀ e ∈ s.track.table, e.record.sheet ≠ n.record.sheet) (k : Conserves t u) :
    Admits src s u :=
  { caps := k.caps ∘ caps
    table := fun hu => .entered n source fresh <| by
      have d := k.table (ht ▸ hu.concat fresh)
      rwa [ht, hc] at d }

end Admits

/-- What a leading edge at S1 finds (R14): the entry matched is of the queue, its sheet is not in the table,
and what is left of the queue is no longer than it was. -/
theorem s1Match_matched {table : List Entry} {l rest : List Arrival} {a : Arrival}
    (h : s1Match table l = .matched a rest) :
    a ∈ l ∧ rest.length ≤ l.length ∧ table.length < tableCap ∧
      ∀ e ∈ table, e.record.sheet ≠ a.record.sheet := by
  induction l with
  | nil => cases h
  | cons b l ih =>
    rw [s1Match] at h
    split_ifs at h with hfull hdup
    · obtain ⟨hm, hlen, hroom, hfresh⟩ := ih h
      exact ⟨List.mem_cons_of_mem _ hm, hlen.trans (Nat.le_succ _), hroom, hfresh⟩
    · cases h
      refine ⟨List.mem_cons_self, Nat.le_succ _, Nat.lt_of_not_le hfull, fun e he heq => hdup ?_⟩
      exact List.any_eq_true.mpr ⟨e, he, beq_iff_eq.mpr heq⟩

theorem s1Match_full {table : List Entry} {l queue : List Arrival} {a : Arrival}
    (h : s1Match table l = .full a queue) : queue.length ≤ l.length := by
  induction l with
  | nil => cases h
  | cons b l ih =>
    rw [s1Match] at h
    split_ifs at h
    · cases h; exact le_rfl
    · exact (ih h).trans (Nat.le_succ _)

theorem State.discardTests_keeps (s : State) (l : List Arrival) :
    KeepsHoldings s (s.discardTests l) := by
  unfold State.discardTests; split
  · exact .refl s
  · exact s.leftTests_keeps

theorem State.leadS1_admits (s : State) (p : PathState) :
    Admits (fun r => ∃ a ∈ s.track.arrivals, a.record = r) s (s.leadS1 p) := by
  unfold State.leadS1; split
  · next a rest hm =>
    obtain ⟨ha, hlen, hroom, hfresh⟩ := s1Match_matched hm
    have hcaps : WithinCaps s → WithinCaps (s.withTrack { s.track with
        table := s.track.table ++ [s.newEntry a.record a.sender 0], arrivals := rest }) := fun w =>
      { w with table := by rw [State.withTrack_track, List.length_append]; exact hroom
               arrivals := hlen.trans w.arrivals }
    exact .entered _ hcaps rfl rfl ⟨a, ha, rfl⟩ hfresh (State.afterLead_conserves _ _ _)
  · next a queue hm =>
    exact .of_conserves <| (Conserves.withArrivals s queue fun h => (s1Match_full hm).trans h).trans
      (of_keeps (State.raiseFrom_keeps _ _ _ _ _))
  · split
    · exact .of_conserves <| (Conserves.withArrivals s [] fun _ => Nat.zero_le _).trans
        (State.raise_conserves _ _ _ _)
    · exact .of_conserves <|
        (Conserves.withTrack s _ (by exact le_rfl) (by exact Nat.zero_le _)
          fun _ => by exact .refl _ _).trans (of_keeps (State.discardTests_keeps _ _))

theorem State.setStation_keeps (s : State) (k : StationId) (x : Station) :
    Conserves s (s.setStation k x) := of_only (s.setStation_only k x)

theorem State.leadingEdge_admits (s : State) (k : StationId) (still : Bool) :
    Admits (fun r => ∃ a ∈ s.track.arrivals, a.record = r) s (s.leadingEdge k still) := by
  generalize hu : s.setStation k ((s.station k).cover still) = u
  have htrack : u.track = s.track := hu ▸ rfl
  have hg := u.gapTest_keeps k (s.station k).gapTracker (s.leadSheet k)
  have hm : Admits (fun r => ∃ a ∈ s.track.arrivals, a.record = r) u
      ((u.gapTest k (s.station k).gapTracker (s.leadSheet k)).matchLead s.stop.path k) := by
    refine .after hg ?_
    cases k
    case s1 =>
      rw [← htrack, ← hg.arrivals]
      exact State.leadS1_admits _ _
    all_goals exact .of_conserves (State.leadBeyond_conserves _ _)
  subst hu
  exact ⟨fun w => hm.caps { w with }, hm.table⟩

theorem State.takeEdge_admits (s : State) (k : StationId) (still : Bool) :
    Admits (fun r => ∃ a ∈ s.track.arrivals, a.record = r) s (s.takeEdge k still) := by
  unfold State.takeEdge; split
  · exact s.leadingEdge_admits k still
  · exact .of_conserves (s.trailingEdge_conserves k still)

theorem State.adopt_admits (s : State) (r : SheetRecord) (origin hold : Nat)
    (hroom : s.track.table.length < tableCap) (hfresh : s.entryOf r.sheet = none) :
    Admits (· = r) s (s.adopt r origin hold) := by
  have hcaps : WithinCaps s → WithinCaps (s.withTrack { s.track with
      table := s.track.table ++ [s.newEntry r origin hold], orphan := none }) := fun w =>
    { w with table := by rw [State.withTrack_track, List.length_append]; exact hroom }
  refine .entered _ hcaps rfl rfl rfl (fun e he => ?_) <|
    (State.claimAt_conserves _ _ _).trans <| (State.imageAt_conserves _ _ _).trans <|
      (State.haltAheadTest_conserves _).trans (State.leftTests_conserves _)
  exact fun heq => List.find?_eq_none.mp hfresh e he (beq_iff_eq.mpr heq)

theorem replaceArrival_length (a : Arrival) (l : List Arrival) :
    (replaceArrival a l).length = l.length := by
  induction l with
  | nil => rfl
  | cons b l ih => rw [replaceArrival]; split <;> simp [ih]

theorem State.announceArrival_conserves (s : State) (p : PathState) (r : SheetRecord) (origin : Nat) :
    Conserves s (s.announceArrival p r origin) := by
  unfold State.announceArrival; dsimp only; split
  · refine (Conserves.withArrivals s _ fun h => ?_).trans (of_keeps (State.arrived_keeps _))
    rw [replaceArrival_length]; exact h
  · split
    · exact of_keeps (s.raiseFrom_keeps _ _ _ _)
    · next hroom =>
      refine (Conserves.withArrivals s _ fun _ => ?_).trans (of_keeps (State.arrived_keeps _))
      rw [List.length_append]; exact Nat.lt_of_not_le hroom

theorem State.takePass_admits (s : State) (r : SheetRecord) (origin : Nat) :
    Admits (· = r) s (s.takePass r origin) := by
  unfold State.takePass; split
  · exact .of_conserves (.refl s)
  · next hfresh =>
    split
    · split
      · exact .of_conserves (s.endOrphan_conserves.trans (State.announceArrival_conserves _ _ _ _))
      · split
        · next hroom =>
          exact s.adopt_admits _ _ _ hroom (by simpa using hfresh)
        · exact .of_conserves <| (Conserves.withOrphan s none).trans <|
            (State.raise_conserves _ _ _ _).trans <| (State.leftTests_conserves _).trans
            (State.announceArrival_conserves _ _ _ _)
    · exact .of_conserves (s.announceArrival_conserves _ _ _)

theorem State.passFrom_admits (s : State) (f : Frame) :
    Admits (fun r => passRecord f.payload = some r) s (s.passFrom f) := by
  unfold State.passFrom; split
  · exact .of_conserves (.refl s)
  · split
    · exact .of_conserves (.refl s)
    · split
      · exact .of_conserves s.countStale_conserves
      · next r hr =>
        split
        · have h := s.takePass_admits r f.origin
          rw [hr]
          simpa only [Option.some.injEq, eq_comm] using h
        · exact .of_conserves s.countStale_conserves

/-! ### What a step does to the table -/

/-- The record of an arrival entry, or of the PASS in front of the receive queue (R13, R14). -/
def Enters (s : State) (r : SheetRecord) : Prop :=
  (∃ a ∈ s.track.arrivals, a.record = r) ∨
  ∃ g rest, Front s .pass g rest ∧ passRecord g.payload = some r

/-- What PLAN BIND leaves of a record (R128): the sheet and a blank side 1; a side 2 that it had is blank,
and so is one that it has. -/
structure Rebinds (r r' : SheetRecord) : Prop where
  sheet : r'.sheet = r.sheet
  side1 : r'.side1 = r.side1
  side2 : ∀ x ∈ r.side2, ∀ y ∈ r'.side2, y = x
  present : r' = r ∨ ∀ y ∈ r'.side2, y = .blank

/-- What a step leaves of the capacities and of the table: a sheet enters as R13 and R14 say, or PLAN BIND
rewrites records in place, and otherwise the table is conserved. -/
structure Advances (s t : State) : Prop where
  caps : WithinCaps s → WithinCaps t
  table : Unique s.track.table → Admitted (Enters s) s.cfg.kind s.track.table t.track.table ∨
    List.Forall₂ (fun e f : Entry => Rebinds e.record f.record) s.track.table t.track.table

namespace Advances

theorem of_conserves {s t : State} (h : Conserves s t) : Advances s t :=
  ⟨h.caps, fun hu => .inl (.kept (h.table hu))⟩

theorem of_admits {src : SheetRecord → Prop} {s t : State} (h : Admits src s t)
    (hsrc : ∀ r, src r → Enters s r) : Advances s t :=
  ⟨h.caps, fun hu => .inl <| match h.table hu with
    | .kept d => .kept d
    | .entered n hs hf d => .entered n (hsrc _ hs) hf d⟩

/-- The table ends up empty. -/
theorem of_empty {s t : State} (ht : t.track.table = []) (hc : WithinCaps t) : Advances s t :=
  ⟨fun _ => hc, fun _ => .inl (.kept (ht ▸ .nil))⟩

end Advances

/-- Latching notices at a command's end changes neither. -/
theorem Advances.done {s u : State} (r : State) (h : Advances s u) :
    Answers (Advances s) (done r u) := by
  have ht : (latchNew r u).track = u.track := (latchNew_only r u).track
  exact .next ⟨fun w => (latchNew_conserves r u).caps (h.caps w), fun hu => ht ▸ h.table hu⟩

theorem Answers.advances {s : State} {o : Host.Outcome State Fault Refusal}
    (h : Answers (Conserves s) o) : Answers (Advances s) o := h.mono fun _ => .of_conserves

theorem State.takeEdge_advances (s : State) (k : StationId) (still : Bool) :
    Advances s (s.takeEdge k still) := .of_admits (s.takeEdge_admits k still) fun _ h => .inl h

theorem execSensorRawChange_advances (k : StationId) (high : Bool) (s : State) :
    Answers (Advances s) (execSensorRawChange k high s) := by
  have h : Conserves s (s.setSns k high) := of_only (s.withPins_only _)
  refine .ite (fun _ => .ite (fun _ => .done s ?_) fun _ => ?_) fun _ => .advances (.next h)
  · have hk := (s.setSns k high).takeEdge_admits k false
    exact .of_admits ⟨fun w => hk.caps (h.caps w), hk.table⟩ fun _ hr => .inl hr
  · exact .advances (.conserves (h.trans (State.setStation_keeps _ _ _)))

theorem execFilterCountComplete_advances (k : StationId) (s : State) :
    Answers (Advances s) (execFilterCountComplete k s) :=
  .ite (fun _ => .done s (s.takeEdge_advances k false)) fun _ => .advances (.stays s)

theorem execStillEdge_advances (k : StationId) (s : State) :
    Answers (Advances s) (execStillEdge k s) :=
  .ite (fun _ => .done s (s.takeEdge_advances k true)) fun _ => .advances (.stays s)

theorem execPassTaken_advances (s : State) : Answers (Advances s) (execPassTaken s) := by
  unfold execPassTaken; split
  · next f t ht =>
    have hc := State.takeFrame_conserves ht
    obtain ⟨rest, hf, rfl⟩ := State.takeFrame_front ht
    have h := (s.took rest).passFrom_admits f
    refine .done s (.of_admits ⟨fun w => h.caps (hc.caps w), h.table⟩ fun r hr => ?_)
    exact .inr ⟨f, rest, hf, hr⟩
  · exact .advances (.stays s)

theorem Rebinds.refl (r : SheetRecord) : Rebinds r r :=
  ⟨rfl, rfl, fun _ hx _ hy => Option.mem_unique hy hx, .inl rfl⟩

theorem Entry.bindable_rebinds {e : Entry} (h : e.bindable = true) (d : PageDesc) :
    Rebinds e.record (e.record.bind d) := by
  simp only [Entry.bindable, Bool.and_eq_true, Bool.or_eq_true, beq_iff_eq] at h
  obtain ⟨-, hb⟩ := h
  have hnew : ∀ y ∈ (e.record.bind d).side2, y = .blank := by
    simp [SheetRecord.bind]
  refine ⟨rfl, rfl, fun x hx y hy => ?_, .inr hnew⟩
  rw [hnew y hy]
  obtain hb | hb := hb
  · exact (Option.some.inj (hb.symm.trans hx))
  · cases hb.symm.trans hx

/-- PLAN BIND rewrites the one entry of its sheet where it stands (R128). -/
theorem State.planBind_rebinds (s : State) (sheet : Nat) (d : PageDesc) (hu : Unique s.track.table) :
    List.Forall₂ (fun e f : Entry => Rebinds e.record f.record) s.track.table
      (s.planBind sheet d).track.table := by
  have hsame : List.Forall₂ (fun e f : Entry => Rebinds e.record f.record) s.track.table
      s.track.table := List.forall₂_same.mpr fun _ _ => .refl _
  unfold State.planBind; split
  · exact hsame
  · next e he =>
    split
    · next hb =>
      refine List.forall₂_map_right_iff.mpr (List.forall₂_same.mpr fun x hx => ?_)
      split
      · next hs =>
        have hxe := s.entryOf_of_mem hu hx
        rw [eq_of_beq hs, he] at hxe
        exact Option.some.inj hxe ▸ Entry.bindable_rebinds hb d
      · exact .refl _
    · exact hsame

theorem State.planBind_caps (s : State) (sheet : Nat) (d : PageDesc) (w : WithinCaps s) :
    WithinCaps (s.planBind sheet d) := by
  unfold State.planBind; split
  · exact w
  · split
    · exact { w with table := (List.length_map _).trans_le w.table }
    · exact w

theorem State.planFrom_cases (s : State) (f : Frame) (act : State → State) :
    s.planFrom f act = act s ∨ Conserves s (s.planFrom f act) := by
  unfold State.planFrom; split
  · exact .inr s.countStale_conserves
  · split
    · exact .inr (.refl s)
    · split
      · exact .inr s.countStale_conserves
      · split
        · exact .inl rfl
        · exact .inr (.refl s)

theorem execPlanBind_advances (s : State) : Answers (Advances s) (execPlanBind s) := by
  unfold execPlanBind; split
  · next f t ht =>
    have hc := State.takeFrame_conserves ht
    obtain ⟨rest, -, rfl⟩ := State.takeFrame_front ht
    refine .ite (fun _ => .done s ?_) fun _ => .advances (.stays s)
    obtain h | h := (s.took rest).planFrom_cases f fun s => s.planBind (byteAt f.payload 1)
      (planPage f.payload)
    · rw [h]
      exact ⟨fun w => State.planBind_caps _ _ _ (hc.caps w),
        fun hu => .inr ((s.took rest).planBind_rebinds _ _ hu)⟩
    · exact .of_conserves (hc.trans h)
  · exact .advances (.stays s)

/-! ### Commands that reset or configure -/

theorem State.reset_withinCaps : WithinCaps State.reset := by
  constructor <;> exact Nat.zero_le _

theorem execPowerOnReset_advances (s : State) : Answers (Advances s) (execPowerOnReset s) :=
  .next (.of_empty rfl { State.reset_withinCaps with })

theorem execResetnLow_advances (s : State) : Answers (Advances s) (execResetnLow s) :=
  .next (.of_empty rfl { State.reset_withinCaps with })

theorem execConfigWrite_advances (item : ConfigItem) (v : ConfigValue) (s : State) :
    Answers (Advances s) (execConfigWrite item v s) := by
  refine .ite (fun _ => .advances (.stays s)) fun _ =>
    .ite (fun _ => .advances (s.decline_conserves _)) fun _ =>
    .ite (fun _ => .advances (s.decline_conserves _)) fun _ => ?_
  split
  · exact .advances (s.decline_conserves _)
  · dsimp only; split <;> exact .next ⟨fun w => { w with }, fun _ => .inl (.kept (.refl _ _))⟩

theorem State.enterIdle_table (s : State) (brake : Bool) : (s.enterIdle brake).track.table = [] := by
  rw [State.enterIdle, (State.resendInputs_keeps _).table, State.startAnnouncement,
    (State.push_only _ _).track, (State.brakeIf_only _ _).track, (State.markCycle_only _).track]
  rfl

theorem State.enterIdle_withinCaps (s : State) (brake : Bool) : WithinCaps (s.enterIdle brake) := by
  have h : Conserves s.startValues (s.enterIdle brake) :=
    (of_only (State.markCycle_only _)).trans <| (of_only (State.brakeIf_only _ _)).trans <|
      (Conserves.push _ _ <| by
        rw [(State.brakeIf_only _ _).line, (State.markCycle_only _).line]
        exact Nat.zero_lt_succ _).trans
      (of_keeps (State.resendInputs_keeps _))
  refine h.caps { State.reset_withinCaps with sites := Nat.zero_le _ }

theorem State.enterIdle_advances (s : State) (brake : Bool) {t : State}
    (h : Conserves (s.enterIdle brake) t) : Advances s t := by
  refine .of_empty ?_ (h.caps (s.enterIdle_withinCaps brake))
  have d := h.table (by rw [s.enterIdle_table]; exact List.nodup_nil)
  rw [s.enterIdle_table] at d
  simpa using d.sheets

theorem State.command_advances (s : State) (n : Nat) {act : Host.Outcome State Fault Refusal}
    (h : Answers (Advances s) act) : Answers (Advances s) (s.command n act) :=
  .ite (fun _ => .advances (.stays s)) fun _ => .ite (fun _ => .advances (s.decline_conserves _))
    fun _ => h

theorem execStart_advances (n : Nat) (s : State) : Answers (Advances s) (execStart n s) := by
  refine s.command_advances n (.ite (fun _ => .advances (s.decline_conserves _)) fun _ => ?_)
  split
  · exact .advances (.next (s.answer_conserves _))
  · exact .done s (s.enterIdle_advances _ (State.answer_conserves _ _))

theorem execRestart_advances (n : Nat) (s : State) : Answers (Advances s) (execRestart n s) :=
  s.command_advances n <| .ite
    (fun _ => .next <| s.enterIdle_advances _ <|
      (of_only (State.withNotices_only _ _)).trans (State.answer_conserves _ _))
    fun _ => .advances (s.decline_conserves _)

/-! ### Every command and every step -/

theorem exec_advances (c : Instr) (s : State) : Answers (Advances s) (exec c s) := by
  cases c with
  | powerOnReset => exact execPowerOnReset_advances s
  | configWrite item v => exact execConfigWrite_advances item v s
  | configRead item n => exact .advances (execConfigRead_conserves item n s)
  | start n => exact execStart_advances n s
  | restart n => exact execRestart_advances n s
  | pageSubmit data => exact .advances (execPageSubmit_conserves data s)
  | streamCancel st n => exact .advances (execStreamCancel_conserves st n s)
  | streamRelease st n => exact .advances (execStreamRelease_conserves st n s)
  | read c i n => exact .advances (execRead_conserves c i n s)
  | readCounters n => exact .advances (execReadCounters_conserves n s)
  | noticeRead n => exact .advances (s.command_conserves n (.next (s.answer_conserves _)))
  | noticeClear names fits => exact .advances (execNoticeClear_conserves names fits s)
  | noticeSetup enable level fits => exact .advances (execNoticeSetup_conserves enable level fits s)
  | encoderCountedEdge z rising => exact .advances (execEncoderCountedEdge_conserves z rising s)
  | sensorRawChange k high => exact execSensorRawChange_advances k high s
  | filterCountComplete k => exact execFilterCountComplete_advances k s
  | stillEdge k => exact execStillEdge_advances k s
  | passPointReached i => exact .advances (execPassPointReached_conserves i s)
  | deferredPass i => exact .advances (execDeferredPass_conserves i s)
  | lateAtStation i => exact .advances (execLateAtStation_conserves i s)
  | lateAtS1 i => exact .advances (execLateAtS1_conserves i s)
  | stall k => exact .advances (.ite (fun _ => .conserves (s.raise_conserves _ _ _)) fun _ => .stays s)
  | orphanHoldExpiry =>
    exact .advances (.ite (fun _ => .conserves s.endOrphan_conserves) fun _ => .stays s)
  | gateGuardFail i => exact .advances (execGateGuardFail_conserves i s)
  | pulseDelayComplete p => exact .advances (.conserves (s.completeDelay_conserves p))
  | pulseWidthEnd p => exact .advances (.conserves (s.endWidth_conserves p))
  | paceGapReached => exact .advances (execPaceGapReached_conserves s)
  | issue => exact .advances (execIssue_conserves s)
  | startGo => exact .advances (execStartGo_conserves s)
  | restTimerExpiry => exact .advances (execRestTimerExpiry_conserves s)
  | drdyPresent => exact .advances (execDrdyPresent_conserves s)
  | readyTimerExpiry => exact .advances (execReadyTimerExpiry_conserves s)
  | drdyLost => exact .advances (execDrdyLost_conserves s)
  | zoneStep z => exact .advances (execZoneStep_conserves z s)
  | silenceTimeout z => exact .advances (execSilenceTimeout_conserves z s)
  | inputPinChange i high => exact .advances (execInputPinChange_conserves i high s)
  | tagHoldExpiry i => exact .advances (execTagHoldExpiry_conserves i s)
  | vsenseChange v => exact .advances (execVsenseChange_conserves v s)
  | supplyHoldExpiry =>
    exact .advances (.ite (fun _ => .conserves s.supplyTurns_conserves) fun _ => .stays s)
  | fdone high => exact .advances (execFdone_conserves high s)
  | operationTimeout => exact .advances (execOperationTimeout_conserves s)
  | announcementQueued => exact .advances (execAnnouncementQueued_conserves s)
  | jamcallTaken =>
    exact .advances (s.frameTaken_conserves .jamcall (fun f t => t.jamcallFrom f) fun f t =>
      t.jamcallFrom_conserves f)
  | stopstateTaken =>
    exact .advances (s.frameTaken_conserves .stopstate (fun f t => t.stopstateFrom f) fun f t =>
      t.stopstateFrom_conserves f)
  | tagstateTaken =>
    exact .advances (s.frameTaken_conserves .tagstate (fun f t => t.tagFrom f) fun f t =>
      t.tagFrom_conserves f)
  | passTaken => exact execPassTaken_advances s
  | deliverFinal => exact .advances (execDeliverFinal_conserves s)
  | deliverCompiled => exact .advances (execDeliverCompiled_conserves s)
  | deliverPurge => exact .advances (execDeliverPurge_conserves s)
  | setcloseTaken =>
    exact .advances (s.frameTaken_conserves .setclose (fun f t => t.setclose f) fun f t =>
      t.setclose_conserves f)
  | reportTaken => exact .advances (execReportTaken_conserves s)
  | readyTaken => exact .advances (execReadyTaken_conserves s)
  | planFrameQueued => exact .advances (execPlanFrameQueued_conserves s)
  | planGoQueued => exact .advances (execPlanGoQueued_conserves s)
  | planPurge => exact .advances (execPlanPurge_conserves s)
  | planBind => exact execPlanBind_advances s
  | goTaken =>
    exact .advances (s.frameTaken_conserves .go (fun f t => t.goFrom f) fun f t =>
      t.goFrom_conserves f)
  | restTaken => exact .advances (execRestTaken_conserves s)
  | surveyStart =>
    exact .advances (.ite (fun _ => .conserves s.survey_conserves) fun _ => .stays s)
  | reportQueued => exact .advances (execReportQueued_conserves s)
  | readyQueued => exact .advances (execReadyQueued_conserves s)
  | frameTransmitStart => exact .advances (execFrameTransmitStart_conserves s)
  | arbitrationLost => exact .advances (.next (.withLine s _ (by exact id) (by exact id)))
  | transmitError => exact .advances (execTransmitError_conserves s)
  | errorLimitReached =>
    exact .advances (.ite (fun _ => .conserves s.limitTest_conserves) fun _ => .stays s)
  | frameSent => exact .advances (execFrameSent_conserves s)
  | frameReceived bits => exact .advances (execFrameReceived_conserves bits s)
  | resetnLow => exact execResetnLow_advances s
  | frameCutShort =>
    exact .advances (.ite (fun _ => .next s.countCrc_conserves) fun _ => .stays s)

theorem DeliveryUnit.tick_lists (d : DeliveryUnit) :
    d.tick.compile = d.compile ∧ d.tick.announce = d.announce := by
  unfold DeliveryUnit.tick; split <;> exact ⟨rfl, rfl⟩

theorem State.tickFeed_within (s : State) (h : s.feed.Within) : s.tickFeed.Within := by
  unfold State.tickFeed; split
  · exact ⟨h.pages, h.resume, h.issued⟩
  · exact h

theorem State.tick_conserves (s : State) : Conserves s s.tick := by
  unfold State.tick; split
  · exact .refl s
  · obtain ⟨hc, ha⟩ := s.deliv.tick_lists
    exact (of_only (s.withStations_only _)).trans <| (of_only (State.withZones_only _ _)).trans <|
      (of_only (State.withChain_only _ _)).trans <| (of_only (State.withPulses_only _ _)).trans <|
      (of_only (State.withTags_only _ _)).trans <| (of_only (State.withSupply_only _ _)).trans <|
      (Conserves.withDeliv _ _ (fun h => by rw [hc]; exact h) (fun h => by rw [ha]; exact h)).trans
        (.withFeed _ _ s.tickFeed_within)

/-- The waiting commands have no part in what enters. -/
theorem Advances.of_withPending {s t : State} {l : List Instr} (h : Advances (s.withPending l) t) :
    Advances s t := by
  refine ⟨fun w => h.caps { w with }, fun hu => (h.table hu).imp_left fun k => ?_⟩
  have hsrc (r : SheetRecord) : Enters (s.withPending l) r → Enters s r := by
    rintro (ha | ⟨g, rest, hf, hr⟩)
    · exact .inl ha
    · exact .inr ⟨g, rest, ⟨hf.configured, hf.queue, hf.kind⟩, hr⟩
  cases k with
  | kept d => exact .kept d
  | entered n hs hf d => exact .entered n (hsrc _ hs) hf d

theorem step_advances (s : State) : Answers (Advances s) (step s) := by
  unfold step; split
  · exact (exec_advances _ _).mono fun _ h => h.of_withPending
  · split
    · exact exec_advances _ s
    · exact .advances (.next s.tick_conserves)

/-! ### The table after a step -/

theorem Admitted.unique {src : SheetRecord → Prop} {kind : Option NodeKind} {l l' : List Entry}
    (h : Admitted src kind l l') (hu : Unique l) : Unique l' := by
  cases h with
  | kept d => exact hu.sublist d.sheets
  | entered n _ fresh d => exact (hu.concat fresh).sublist d.sheets

theorem rebound_sheets {l l' : List Entry}
    (h : List.Forall₂ (fun e f : Entry => Rebinds e.record f.record) l l') :
    (l'.map fun e => e.record.sheet) = l.map fun e => e.record.sheet := by
  induction h with
  | nil => rfl
  | cons hr _ ih => rw [List.map_cons, List.map_cons, hr.sheet, ih]

theorem Advances.unique {s t : State} (h : Advances s t) (hu : Unique s.track.table) :
    Unique t.track.table := by
  obtain h | h := h.table hu
  · exact h.unique hu
  · unfold Unique; rw [rebound_sheets h]; exact hu

/-- With distinct sheet IDs an entry of the table is told by its sheet. -/
theorem Unique.eq_of_sheet {l : List Entry} (hu : Unique l) {e f : Entry} (he : e ∈ l) (hf : f ∈ l)
    (h : e.record.sheet = f.record.sheet) : e = f := List.inj_on_of_nodup_map hu he hf h

/-- Two sides of one sheet that stays in the table (R19). -/
theorem Admitted.stays {src : SheetRecord → Prop} {kind : Option NodeKind} {l l' : List Entry}
    (h : Admitted src kind l l') (hu : Unique l) {e f : Entry} (he : e ∈ l) (hf : f ∈ l')
    (hs : f.record.sheet = e.record.sheet) : SidesMove kind e.record f.record := by
  have key {m : List Entry} (d : Descends kind m l') (hm : Unique m) (he : e ∈ m) :
      SidesMove kind e.record f.record := by
    obtain ⟨x, hx, hmove⟩ := d.origin f hf
    rwa [hm.eq_of_sheet he hx (hs.symm.trans hmove.sheet)]
  cases h with
  | kept d => exact key d hu he
  | entered n _ fresh d => exact key d (hu.concat fresh) (List.mem_append_left _ he)

/-- A sheet that the table lacked has entered with the record of its source. -/
theorem Admitted.enters {src : SheetRecord → Prop} {kind : Option NodeKind} {l l' : List Entry}
    (h : Admitted src kind l l') {f : Entry} (hf : f ∈ l')
    (hnew : ∀ e ∈ l, e.record.sheet ≠ f.record.sheet) :
    ∃ r, src r ∧ SidesMove kind r f.record := by
  cases h with
  | kept d =>
    obtain ⟨x, hx, hmove⟩ := d.origin f hf
    exact absurd hmove.sheet.symm (hnew x hx)
  | entered n hsrc _ d =>
    obtain ⟨x, hx, hmove⟩ := d.origin f hf
    obtain hx | hx := List.mem_append.mp hx
    · exact absurd hmove.sheet.symm (hnew x hx)
    · exact ⟨n.record, hsrc, List.mem_singleton.mp hx ▸ hmove⟩

/-- A rebound record, found by its sheet. -/
theorem rebound_stays {l l' : List Entry}
    (h : List.Forall₂ (fun e f : Entry => Rebinds e.record f.record) l l') {f : Entry} (hf : f ∈ l') :
    ∃ e ∈ l, Rebinds e.record f.record := by
  induction h with
  | nil => cases hf
  | cons hr _ ih =>
    obtain rfl | hf := List.mem_cons.mp hf
    · exact ⟨_, List.mem_cons_self, hr⟩
    · obtain ⟨e, he, h⟩ := ih hf
      exact ⟨e, List.mem_cons_of_mem _ he, h⟩

/-- Settles O5: every command conserves the collections, or admits one sheet to a table with room that lacks
it. -/
theorem stepKeepsTheTables : Obligations.StepKeepsTheTables :=
  ⟨fun s t hw ht => (step_advances s t ht).caps hw, fun s t hu ht => (step_advances s t ht).unique hu⟩

/-- Settles O11: what a step leaves of the table descends from it and from the one sheet that enters, and
PLAN BIND rewrites blank sides alone. -/
theorem sideStatesMoveForwardOnly : Obligations.SideStatesMoveForwardOnly := by
  intro s t hu ht
  obtain h | h := (step_advances s t ht).table hu
  · refine ⟨fun e he f hf hs => ?_, fun f hf hnew => ?_⟩
    · have hmove := h.stays hu he hf hs
      exact ⟨hmove.side1, hmove.side2⟩
    · obtain ⟨r, hr, hmove⟩ := h.enters hf hnew
      exact ⟨r, hmove.sheet.symm, hr, hmove.side1, hmove.present, hmove.side2⟩
  · refine ⟨fun e he f hf hs => ?_, fun f hf hnew => ?_⟩
    · obtain ⟨x, hx, hr⟩ := rebound_stays h hf
      obtain rfl := Unique.eq_of_sheet hu he hx (hs.symm.trans hr.sheet)
      exact ⟨.inl hr.side1, fun x hx y hy => .inl (hr.side2 x hx y hy)⟩
    · obtain ⟨x, hx, hr⟩ := rebound_stays h hf
      exact absurd hr.sheet.symm (hnew x hx)

end Sys2Proof.Machine
end

section
/-! SUPPORT. What the beginning of a stop leaves: the end of a command, the entry to HALTING, and a cause that
begins a stop in RUN or IDLE or joins one in FLUSH. -/

namespace Sys2Proof.Machine

/-! ### The end of a command -/

/-- The end of a command changes the notices alone. -/
theorem latchNew_eq (before after : State) : ∃ n, latchNew before after = after.withNotices n := by
  unfold latchNew
  generalize Notice.all = l
  generalize after.condition = c
  induction l generalizing after with
  | nil => exact ⟨after.notices, rfl⟩
  | cons x l ih =>
    rw [List.foldl_cons]
    split
    · unfold State.latch; dsimp only; split
      · obtain ⟨n, hn⟩ := ih (after.withNotices _)
        exact ⟨n, hn⟩
      · exact ih after
    · exact ih after

theorem done_eq (s u : State) : ∃ n, done s u = .next (u.withNotices n) := by
  obtain ⟨n, hn⟩ := latchNew_eq s u
  exact ⟨n, congrArg Host.Outcome.next hn⟩

/-- A filtered edge that is due is taken (R28, R29). -/
theorem exec_edgeCommand {k : StationId} {still : Bool} {s : State} (h : s.edgeDue k still) :
    ∃ n, exec (edgeCommand k still) s = .next ((s.takeEdge k still).withNotices n) := by
  obtain ⟨hconf, hpres, hraw, hfilter⟩ := h
  have hne : (s.rawCovered k != (s.station k).covered) = true := bne_iff_ne.mpr hraw
  cases still with
  | true =>
    have hruns : s.stillRuns k = true := by
      simp [State.stillRuns, State.active, hconf, hpres, hne]
      simpa using hfilter
    have : exec (edgeCommand k true) s = done s (s.takeEdge k true) := by
      show execStillEdge k s = _
      rw [execStillEdge, if_pos hruns]
    rw [this]; exact done_eq _ _
  | false =>
    have hdone : s.filterDone k = true := by
      simp [State.filterDone, State.active, hconf, hpres, hne]
      simpa using hfilter
    have : exec (edgeCommand k false) s = done s (s.takeEdge k false) := by
      show execFilterCountComplete k s = _
      rw [execFilterCountComplete, if_pos hdone]
    rw [this]; exact done_eq _ _

/-! ### The parts a stop is seen by -/

/-- Two states in which a stop reads the same: the stop controller, the zones, the configuration, the slots
and the transmit queue. -/
structure StandsAs (s t : State) : Prop where
  cfg : t.cfg = s.cfg
  stop : t.stop = s.stop
  zones : t.zones = s.zones
  slots : t.tags.slots = s.tags.slots
  tx : t.line.tx = s.line.tx

namespace StandsAs

theorem refl (s : State) : StandsAs s s := ⟨rfl, rfl, rfl, rfl, rfl⟩

theorem trans {s t u : State} (h : StandsAs s t) (k : StandsAs t u) : StandsAs s u :=
  ⟨k.cfg.trans h.cfg, k.stop.trans h.stop, k.zones.trans h.zones, k.slots.trans h.slots,
    k.tx.trans h.tx⟩

theorem of_only {l : List Part} {s t : State} (h : changesOnly l s t)
    (hl : ∀ p ∈ l, p ∉ [Part.cfg, .stop, .zones, .tags, .line] := by decide) : StandsAs s t := by
  have hn : ∀ p ∈ [Part.cfg, .stop, .zones, .tags, .line], p ∉ l := fun p hp hpl => hl p hpl hp
  have ht : t.tags = s.tags := h.tags (hn _ (by decide))
  have hi : t.line = s.line := h.line (hn _ (by decide))
  exact ⟨h.cfg (hn _ (by decide)), h.stop (hn _ (by decide)), h.zones (hn _ (by decide)), by rw [ht],
    by rw [hi]⟩

end StandsAs

/-- A begun stop is seen from a state that stands as its own source. -/
theorem StopBegun.of_source {s s' t : State} {c : Cause} {place sheet : Nat}
    (h : StopBegun s' c place sheet t) (k : StandsAs s s') : StopBegun s c place sheet t := by
  obtain ⟨hcfg, hstop, hzones, hslots, htx⟩ := k
  obtain ⟨scfg, _, sstop, _, szones, _, _, _, _, stags, _, _, _, _, _, sline, _, _, _⟩ := s
  obtain ⟨_, _, _, _, _, _, _, _, _, tags, _, _, _, _, _, line, _, _, _⟩ := s'
  obtain ⟨_⟩ := stags
  obtain ⟨_⟩ := tags
  obtain ⟨_⟩ := sline
  obtain ⟨_⟩ := line
  dsimp only at hcfg hstop hzones hslots htx
  subst hcfg hstop hzones hslots htx
  exact { h with }

/-- What stands as a begun stop is one. -/
theorem StopBegun.stands {s t t' : State} {c : Cause} {place sheet : Nat}
    (h : StopBegun s c place sheet t) (k : StandsAs t t') : StopBegun s c place sheet t' := by
  obtain ⟨hcfg, hstop, hzones, hslots, htx⟩ := k
  obtain ⟨scfg, _, sstop, _, szones, _, _, _, _, stags, _, _, _, _, _, sline, _, _, _⟩ := t
  obtain ⟨_, _, _, _, _, _, _, _, _, tags, _, _, _, _, _, line, _, _, _⟩ := t'
  obtain ⟨_⟩ := stags
  obtain ⟨_⟩ := tags
  obtain ⟨_⟩ := sline
  obtain ⟨_⟩ := line
  dsimp only at hcfg hstop hzones hslots htx
  subst hcfg hstop hzones hslots htx
  exact { h with }

theorem StopJoined.stands {s t t' : State} {c : Cause} {place sheet : Nat}
    (h : StopJoined s c place sheet t) (hstop : t'.stop = t.stop) (htx : t'.line.tx = t.line.tx) :
    StopJoined s c place sheet t' := by
  obtain ⟨_, _, sstop, _, _, _, _, _, _, _, _, _, _, _, _, sline, _, _, _⟩ := t
  obtain ⟨_, _, _, _, _, _, _, _, _, _, _, _, _, _, _, line, _, _, _⟩ := t'
  obtain ⟨_⟩ := sline
  obtain ⟨_⟩ := line
  dsimp only at hstop htx
  subst hstop htx
  exact { h with }

theorem StopJoined.of_source {s s' t : State} {c : Cause} {place sheet : Nat}
    (h : StopJoined s' c place sheet t) (hcfg : s'.cfg = s.cfg) (hstop : s'.stop = s.stop) :
    StopJoined s c place sheet t := by
  obtain ⟨_, _, _, _, _, _, _, _, _, _, _, _, _, _, _, _, _, _, _⟩ := s
  obtain ⟨_, _, _, _, _, _, _, _, _, _, _, _, _, _, _, _, _, _, _⟩ := s'
  dsimp only at hcfg hstop
  subst hcfg hstop
  exact { h with }

end Sys2Proof.Machine
end

section
/-! SUPPORT. The entry to HALTING in full, and the stop that a cause begins or joins. -/

namespace Sys2Proof.Machine

/-! ### Zones -/

@[simp] theorem State.mapZones_zone (s : State) (f : ZoneId → Zone → Zone) (z : ZoneId) :
    (s.mapZones f).zone z = f z (s.zone z) := by cases z <;> rfl

theorem State.findEntry_some {s : State} {lo hi i : Nat} {p : Nat → Bool}
    (h : s.findEntry lo hi p = some i) : lo ≤ i ∧ i ≤ hi ∧ p (s.profileAt i) = true ∧
      ∀ j, lo ≤ j → j < i → p (s.profileAt j) = false := by
  obtain ⟨hp, hi, hf⟩ := List.find?_range'_eq_some.mp h
  obtain ⟨hlo, hhi⟩ := List.mem_range'_1.mp hi
  exact ⟨hlo, by omega, hp, fun j hj hji => by simpa using hf j hj hji⟩

theorem State.findEntry_none {s : State} {lo hi : Nat} {p : Nat → Bool}
    (h : s.findEntry lo hi p = none) : ∀ i, lo ≤ i → i ≤ hi → p (s.profileAt i) = false :=
  fun i hl hh => by simpa using List.find?_range'_eq_none.mp h i hl (by omega)

theorem Zone.atRest_iff (x : Zone) : x.atRest = true ↔ x.state = .idle ∨ x.state = .braked := by
  simp [Zone.atRest]

/-- A fall request of a zone that rises or runs (R86). -/
theorem State.fallZone_falls {s : State} {z : ZoneId}
    (h : (s.zone z).state = .rising ∨ (s.zone z).state = .running) :
    Falls s z (s.fallZone z (s.zone z)) := by
  cases he : s.findEntry (s.zoneCfg z).fallStart (s.zoneCfg z).fallEnd
      fun v => v ≤ (s.zone z).output with
  | some i =>
    have hf : s.fallZone z (s.zone z) = { s.zone z with
        state := .falling, position := i, output := s.profileAt i, stepTimer := 0 } := by
      obtain h | h := h <;> simp only [State.fallZone, h, he]
    obtain ⟨hlo, hhi, hp, hfirst⟩ := State.findEntry_some he
    rw [hf]
    exact .inl ⟨i, hlo, hhi, by simpa using hp, fun j hj hji => by simpa using hfirst j hj hji,
      rfl, rfl, rfl, rfl⟩
  | none =>
    have hf : s.fallZone z (s.zone z) = { s.zone z with state := .idle, output := 0 } := by
      obtain h | h := h <;> simp only [State.fallZone, h, he]
    rw [hf]
    exact .inr ⟨fun i hl hh => by simpa using State.findEntry_none he i hl hh, rfl, rfl⟩

theorem State.fallZone_rest {s : State} {z : ZoneId} {x : Zone} (h : x.atRest = true) :
    s.fallZone z x = { x with risePending := false } := by
  obtain h | h := x.atRest_iff.mp h <;> simp only [State.fallZone, h]

/-- A fall request leaves no zone rising, running or newly braked. -/
theorem State.fallZone_state (s : State) (z : ZoneId) (x : Zone) :
    (s.fallZone z x).state ≠ .rising ∧ (s.fallZone z x).state ≠ .running := by
  unfold State.fallZone; dsimp only
  split
  · simp [*]
  · simp [*]
  · simp [*]
  · split <;> simp
  · split <;> simp

theorem State.restZones_zone {s : State} {z : ZoneId} (h : s.inUse z = true) :
    s.restZones.zone z =
      if s.ownBrakes = true then (s.zone z).brake else s.fallZone z (s.zone z) := by
  unfold State.restZones
  split
  · rw [State.brakeAll, State.mapZones_zone, if_pos h]
  · rw [State.fallAll, State.mapZones_zone, if_pos h]

/-! ### Entry to HALTING -/

theorem State.configured_of_ne {s : State} (h : s.stop.path ≠ .unconfigured) : s.configured = true :=
  bne_iff_ne.mpr h

theorem State.inUse_congr {s t : State} (hcfg : t.cfg = s.cfg) (hc : t.configured = s.configured) :
    t.inUse = s.inUse := by
  funext z
  simp only [State.inUse, State.present, State.stationCfg, hcfg, hc]

theorem State.groupOpen_congr {s t : State} (hcfg : t.cfg = s.cfg) (hc : t.configured = s.configured)
    (hslots : t.tags.slots = s.tags.slots) : t.groupOpen = s.groupOpen := by
  simp only [State.groupOpen, State.slotsInUse, hcfg, hc, hslots]

theorem State.allRest_iff (s : State) :
    s.allRest = true ↔ ∀ z, s.inUse z = true → (s.zone z).atRest = true := by
  unfold State.allRest
  rw [List.all_eq_true]
  constructor
  · intro h z hz
    simpa [hz] using h z (by cases z <;> decide)
  · intro h z _
    cases hz : s.inUse z
    · rfl
    · simpa using h z hz

/-- What entering a path state changes of the stop controller is the path state. -/
theorem State.enter_stop (s : State) (p : PathState) : (s.enter p).stop = { s.stop with path := p } := by
  have h : ((s.leaveRun p).leaveIdle p).stop = s.stop :=
    (State.leaveIdle_only _ p).stop.trans (s.leaveRun_only p).stop
  have h' := (State.notePath_only ((s.leaveRun p).leaveIdle p) p).stop.trans h
  rw [State.enter, (State.releaseChain_only _).stop]
  show { State.stop _ with path := p } = _
  rw [h']

theorem LineUnit.open_of_lt {l : LineUnit} {c : Nat} (hc : c ≤ 1) (h : l.tx.length < 16) :
    l.open c = true := by
  simp [LineUnit.open, hc, txCap, h]

/-- Entry to HALTING with a place for the stance's frame (R63, R73, R74, R116). -/
structure HaltEntered (s t : State) : Prop where
  stop : t.stop = { s.stop with path := t.stop.path }
  stopped : t.stop.path = .halting ∨ t.stop.path = .halted ∨ t.stop.path = .clearing
  path : RestPath s t
  zones : t.zones = s.restZones.zones
  tx : t.line.tx = s.line.tx ++ [t.restNotice]

theorem State.announceStance_open {s : State} {st : Stance} (h : s.line.tx.length < 16) :
    s.announceStance st = s.push (s.stanceFrame st) := by
  rw [State.announceStance, if_pos (LineUnit.open_of_lt (by decide) h)]

theorem State.openedAtHalt_stop (s : State) : s.openedAtHalt.stop =
    { s.stop with path := if s.groupOpen = true then .clearing else s.stop.path } := by
  unfold State.openedAtHalt; split
  · exact s.enter_stop _
  · rfl

/-- Entry to HALTED with a place for the stance's frame (R74, R116). -/
theorem State.enterHalted_open {s : State} (h : s.line.tx.length < 16)
    (hc : s.configured = true) :
    s.enterHalted.stop = { s.stop with path := if s.groupOpen = true then .clearing else .halted } ∧
    s.enterHalted.line.tx = s.line.tx ++ [s.stanceNotice .halted] := by
  obtain ⟨u, hu⟩ : ∃ u, u = (s.enter .halted).dropDelays := ⟨_, rfl⟩
  have hline : u.line = s.line := hu ▸ (s.enter_only .halted).line
  have hstop : u.stop = { s.stop with path := .halted } := hu ▸ s.enter_stop _
  have hcfg : u.cfg = s.cfg := hu ▸ (s.enter_only .halted).cfg
  have htags : u.tags = s.tags := hu ▸ (s.enter_only .halted).tags
  have hframe : u.stanceFrame .halted = s.stanceNotice .halted := by
    simp only [State.stanceFrame, State.frame, State.stanceNotice, hcfg, hstop]
  have hconf : u.configured = s.configured :=
    (State.configured_of_ne (by rw [hstop]; exact nofun)).trans hc.symm
  have hgroup : (u.push (s.stanceNotice .halted)).groupOpen = s.groupOpen :=
    State.groupOpen_congr hcfg hconf (by exact congrArg TagUnit.slots htags)
  rw [State.enterHalted, ← hu, State.announceStance_open (by rw [hline]; exact h), hframe]
  constructor
  · rw [State.openedAtHalt_stop, hgroup]
    show { u.stop with path := if s.groupOpen = true then .clearing else u.stop.path } = _
    rw [hstop]
  · rw [(State.openedAtHalt_only _).line]
    show u.line.tx ++ _ = _
    rw [hline]

theorem State.enterHalted_zones (s : State) : s.enterHalted.zones = s.zones :=
  (State.openedAtHalt_only _).zones.trans <|
    (State.announceStance_only _ _).zones.trans (s.enter_only .halted).zones

theorem State.fallZone_congr {s t : State} (h : t.cfg = s.cfg) : t.fallZone = s.fallZone := by
  cases s; cases t; cases h; rfl

/-- What a rest request does to the zones is told by the configuration, the own-cause record and the zones
in use. -/
theorem State.restZones_congr {s t : State} (hcfg : t.cfg = s.cfg) (hown : t.stop.own = s.stop.own)
    (huse : t.inUse = s.inUse) (hz : t.zones = s.zones) : t.restZones.zones = s.restZones.zones := by
  have hb : t.ownBrakes = s.ownBrakes := by simp only [State.ownBrakes, hown]
  rw [State.restZones, State.restZones, hb]
  split
  · simp only [State.brakeAll, State.mapZones, State.withZones_zones, hz, huse]
  · simp only [State.fallAll, State.mapZones, State.withZones_zones, hz, huse,
      State.fallZone_congr hcfg]

/-- The frame of a node's rest, told of the state that it is sent from. -/
theorem State.restNotice_eq {s t : State} {st : Stance} (hcfg : t.cfg = s.cfg)
    (he : t.stop.epoch = s.stop.epoch)
    (hst : (if t.stop.path = .halting then Stance.halting else .halted) = st) :
    t.restNotice = s.stanceNotice st := by
  simp only [State.restNotice, State.stanceNotice, hcfg, he, hst]

theorem State.enterHalting_open {s : State} (h : s.line.tx.length < 16) (hc : s.configured = true) :
    HaltEntered s s.enterHalting := by
  obtain ⟨u, hu⟩ : ∃ u, u = (s.enter .halting).restZones := ⟨_, rfl⟩
  have he := s.enter_only .halting
  have hr := State.restZones_only (s.enter .halting)
  have hline : u.line = s.line := hu ▸ hr.line.trans he.line
  have hstop : u.stop = { s.stop with path := .halting } := hu ▸ hr.stop.trans (s.enter_stop _)
  have hcfg : u.cfg = s.cfg := hu ▸ hr.cfg.trans he.cfg
  have htags : u.tags = s.tags := hu ▸ hr.tags.trans he.tags
  have hconf : u.configured = s.configured :=
    (State.configured_of_ne (by rw [hstop]; exact nofun)).trans hc.symm
  have huse : u.inUse = s.inUse := State.inUse_congr hcfg hconf
  have hzones : u.zones = s.restZones.zones := by
    have huse' : (s.enter .halting).inUse = s.inUse := State.inUse_congr he.cfg <|
      (State.configured_of_ne (by rw [s.enter_stop]; exact nofun)).trans hc.symm
    rw [hu]
    exact State.restZones_congr he.cfg (by rw [s.enter_stop]) huse' he.zones
  have hzone : ∀ t : State, t.zones = u.zones → t.zone = u.zone := fun t ht => by
    funext z; simp only [State.zone, ht]
  rw [State.enterHalting, ← hu, State.haltTest]
  split
  · next hrest =>
    obtain ⟨hs, htx⟩ := u.enterHalted_open (by rw [hline]; exact h) (hconf.trans hc)
    have hg : u.groupOpen = s.groupOpen := State.groupOpen_congr hcfg hconf (by rw [htags])
    have hz : u.enterHalted.zones = u.zones := u.enterHalted_zones
    have hall : ∀ z, s.inUse z = true → (u.enterHalted.zone z).atRest = true := by
      rw [hzone _ hz, ← huse]; exact u.allRest_iff.mp hrest
    have hp : u.enterHalted.stop.path = if s.groupOpen = true then .clearing else .halted := by
      rw [hs, hg]
    have hne : u.enterHalted.stop.path ≠ .halting := by rw [hp]; split <;> decide
    constructor
    · rw [hs, hstop]
    · rw [hp]; split
      · exact .inr (.inr rfl)
      · exact .inr (.inl rfl)
    · exact ⟨fun ⟨z, hu, hz⟩ => (by simp [hall z hu] at hz), fun _ => hp⟩
    · rw [hz, hzones]
    · rw [htx, hline]
      congr 2
      exact ((State.restNotice_eq (u.enterHalted_only.cfg) (by rw [hs]) (if_neg hne))).symm
  · next hrest =>
    rw [State.announceStance_open (by rw [hline]; exact h)]
    have hp : u.stop.path = .halting := by rw [hstop]
    have hsome : ∃ z, s.inUse z = true ∧ (u.zone z).atRest = false := by
      by_contra hcon
      refine hrest (u.allRest_iff.mpr fun z hz => ?_)
      by_contra hz'
      exact hcon ⟨z, huse ▸ hz, by simpa using hz'⟩
    constructor
    · show u.stop = { s.stop with path := u.stop.path }
      rw [hstop]
    · exact .inl hp
    · refine ⟨fun _ => hp, fun hall => ?_⟩
      obtain ⟨z, hz, hr⟩ := hsome
      exact absurd (hall z hz) (by rw [show (u.push _).zone z = u.zone z from rfl, hr]; decide)
    · exact hzones
    · show u.line.tx ++ _ = _
      rw [hline]
      congr 2
      exact (State.restNotice_eq (s := u) rfl rfl (if_pos hp)).symm

end Sys2Proof.Machine
end

section
/-! SUPPORT. The stop that a cause begins in RUN or IDLE, and the stop that it joins in FLUSH. -/

namespace Sys2Proof.Machine

/-! ### Cause and site -/

theorem Cause.code_lt (c : Cause) : c.code - 1 < 14 := by cases c <;> decide

/-- A cause that is counted has one more to its count. -/
theorem State.causeCount_count {s t : State} {c : Cause} {u : StopUnit} (ht : t.stop.counters = (u.count c).counters)
    (hu : u.counters = s.stop.counters) : t.causeCount c = satAdd counterTop (s.causeCount c) 1 := by
  have hlt := c.code_lt
  simp only [State.causeCount, ht, StopUnit.count, hu]
  rw [Vector.getElem?_setIfInBounds_self_of_lt hlt]
  rfl

theorem State.place_open {s : State} {f : Frame} (hc : f.kind.cls ≤ 1) (h : s.line.tx.length < 16) :
    s.place f = s.push f := by
  rw [State.place, if_pos (LineUnit.open_of_lt hc h)]

/-- The frame of a JAMCALL. -/
theorem State.jamcall_open {s : State} {x : Site} (h : s.line.tx.length < 16) :
    s.jamcall x = s.push
      ⟨.jamcall, s.cfg.segment, s.stop.epoch, jamcallPayload x⟩ :=
  State.place_open (by exact Nat.zero_le _) h

/-! ### A stop begun -/

/-- The stop controller at the start of a stop of this node's own (R50, R51). -/
def StopUnit.started (u : StopUnit) (c : Cause) (place sheet : Nat) (x : Site) : StopUnit :=
  { (u.count c) with
    epoch := nextEpoch u.epoch, sites := [x], overflow := false
    own := some ⟨c, place, sheet, c.needsCycle⟩, stances := Vector.replicate 15 .unknown }

theorem StopUnit.setOwn_keeps (u : StopUnit) (c : Cause) (place sheet : Nat) :
    u.setOwn c place sheet = { u with own := (u.setOwn c place sheet).own } := by
  unfold StopUnit.setOwn; split <;> rfl

theorem StopUnit.begin_started {u : StopUnit} (c : Cause) (place sheet : Nat) (x : Site)
    (h : u.own = none) :
    ((u.setOwn c place sheet).count c).begin (nextEpoch u.epoch) x = u.started c place sheet x := by
  simp [StopUnit.setOwn, h, StopUnit.begin, StopUnit.addSite, StopUnit.started, StopUnit.count, siteCap]

theorem StopUnit.begin_path (u : StopUnit) (c : Cause) (place sheet epoch : Nat) (x : Site) :
    (((u.setOwn c place sheet).count c).begin epoch x).path = u.path := by
  have h : (((u.setOwn c place sheet).count c).begin epoch x).path = (u.setOwn c place sheet).path := by
    simp [StopUnit.begin, StopUnit.addSite, StopUnit.count, siteCap]
  rw [h, StopUnit.setOwn_keeps]

/-- A cause of this node's own makes it halt at a stop start (row 1 of R66): the stop controller begins the
stop, the node enters HALTING, and the JAMCALL goes out. -/
theorem State.startStop_eq (s : State) (c : Cause) (place sheet : Nat) :
    ∃ v : State, s.startStop c place sheet = v.enterHalting.jamcall (s.siteOf c place sheet) ∧
      v.stop = ((s.stop.setOwn c place sheet).count c).begin (nextEpoch s.stop.epoch)
        (s.siteOf c place sheet) ∧ v.zones = s.zones ∧ v.cfg = s.cfg ∧
      v.tags.slots = s.tags.slots ∧ v.line = s.line ∧ v.pulses = s.pulses := by
  let x := s.siteOf c place sheet
  refine ⟨(s.ownCause c place sheet).newStop (nextEpoch s.stop.epoch) x, ?_, rfl, rfl, rfl, rfl, rfl,
    rfl⟩
  have hsite : ((s.ownCause c place sheet).newStop (nextEpoch s.stop.epoch) x).mustHalt
      (s.ownCause c place sheet).stop.path = true := by
    have : ((s.ownCause c place sheet).newStop (nextEpoch s.stop.epoch) x).stop.own.isSome := by
      have : ((s.ownCause c place sheet).newStop (nextEpoch s.stop.epoch) x).stop.own =
          (s.stop.setOwn c place sheet).own := by
        simp [State.newStop, StopUnit.begin, StopUnit.addSite, siteCap, State.ownCause, StopUnit.count]
      rw [this]
      unfold StopUnit.setOwn; split <;> rfl
    simp [State.mustHalt, State.isSite, this]
  rw [State.startStop, State.stopStart, State.takeStance, if_pos hsite]

theorem stopstate_ne {s : State} {a b : Stance} (h : a ≠ b) : s.stanceNotice a ≠ s.stanceNotice b := by
  intro he
  have hp := congrArg Frame.payload he
  revert hp h
  cases a <;> cases b <;> simp [State.stanceNotice, stopstatePayload, Stance.code, byte]

/-- A cause in RUN or IDLE, with two places open to its frames, begins a stop (R51). -/
theorem State.startStop_begins {s : State} (c : Cause) (place sheet : Nat)
    (hp : s.stop.path = .run ∨ s.stop.path = .idle) (hown : s.stop.own = none)
    (hroom : s.line.tx.length ≤ 14) :
    StopBegun s c place sheet (s.startStop c place sheet) := by
  obtain ⟨v, ht, hstop, hzones, hcfg, hslots, hline, -⟩ := s.startStop_eq c place sheet
  rw [StopUnit.begin_started _ _ _ _ hown] at hstop
  have hc : s.configured = true := State.configured_of_ne (by obtain hp | hp := hp <;> simp [hp])
  have hcv : v.configured = s.configured := by
    simp only [State.configured, hstop, StopUnit.started, StopUnit.count]
  have huse : v.inUse = s.inUse := State.inUse_congr hcfg hcv
  have hzone : v.zone = s.zone := by funext z; simp only [State.zone, hzones]
  have hgroup : v.groupOpen = s.groupOpen := State.groupOpen_congr hcfg hcv hslots
  have H := State.enterHalting_open (s := v) (by rw [hline]; omega) (hcv.trans hc)
  have hcfg' : v.enterHalting.cfg = s.cfg := v.enterHalting_only.cfg.trans hcfg
  generalize v.enterHalting = w at ht H hcfg'
  obtain ⟨hwstop, hwpath, hwrest, hwzones, hwtx⟩ := H
  have hepoch : w.stop.epoch = nextEpoch s.stop.epoch := by rw [hwstop, hstop]; rfl
  rw [State.jamcall_open (by rw [hwtx, hline]; simp; omega)] at ht
  rw [ht]
  have hz : ∀ z, s.inUse z = true → w.zone z =
      if v.ownBrakes = true then (s.zone z).brake else s.fallZone z (s.zone z) := fun z hz => by
    have := State.restZones_zone (s := v) (z := z) (huse ▸ hz)
    rw [hzone, State.fallZone_congr hcfg] at this
    rw [← this]; simp only [State.zone, hwzones]
  have hbrakes : v.ownBrakes = (c == .supply || c == .interlock) := by
    rw [State.ownBrakes, hstop]; rfl
  refine
    { epoch := hepoch, sites := ?_, overflow := ?_, own := ?_, stances := ?_, path := hwpath
      rest := ⟨fun h => hwrest.1 (huse ▸ h), fun h => hgroup ▸ hwrest.2 (huse ▸ h)⟩
      still := fun z hu => ?_, falls := fun z hu hm hne => ?_, braked := fun hb z hu => ?_
      announced := ?_, onlyHalted := fun hne hmem => ?_, counted := ?_, jamcall := ?_ }
  · show w.stop.sites = _; rw [hwstop, hstop]; rfl
  · show w.stop.overflow = _; rw [hwstop, hstop]; rfl
  · show w.stop.own = _; rw [hwstop, hstop]; rfl
  · show w.stop.stances = _; rw [hwstop, hstop]; rfl
  · show (w.zone z).state ≠ _ ∧ (w.zone z).state ≠ _ ∧ (_ → (w.zone z).atRest = true ∧ (w.zone z).risePending = false)
    rw [hz z hu]
    split
    · exact ⟨nofun, nofun, fun _ => ⟨rfl, rfl⟩⟩
    · obtain ⟨h1, h2⟩ := s.fallZone_state z (s.zone z)
      exact ⟨h1, h2, fun hr => by rw [State.fallZone_rest hr]; exact ⟨hr, rfl⟩⟩
  · show Falls s z (w.zone z)
    replace hne : (w.zone z).state ≠ .braked := hne
    rw [hz z hu] at hne ⊢
    split at hne
    · exact absurd rfl hne
    · next hb => rw [if_neg hb]; exact State.fallZone_falls hm
  · show (w.zone z).state = .braked
    rw [hz z hu, hbrakes]
    obtain rfl | rfl := hb <;> rfl
  · show _ ∈ w.line.tx ++ _
    rw [hwtx]; simp only [List.mem_append, List.mem_singleton]; exact .inl (.inr rfl)
  · replace hne : w.stop.path ≠ .halting := hne
    replace hmem : w.stanceNotice .halting ∈ w.line.tx ++ _ := hmem
    rw [hwtx, hline] at hmem
    simp only [List.mem_append, List.mem_singleton, or_assoc] at hmem
    obtain hmem | hmem | hmem := hmem
    · exact hmem
    · have : w.restNotice = w.stanceNotice .halted := by rw [State.restNotice, if_neg hne]
      rw [this] at hmem
      exact absurd hmem (stopstate_ne (by decide))
    · exact absurd (congrArg Frame.kind hmem) (by exact nofun)
  · refine State.causeCount_count (u := s.stop) ?_ rfl
    show w.stop.counters = _
    rw [hwstop, hstop]; rfl
  · show _ ∈ w.line.tx ++ _
    rw [List.mem_append, List.mem_singleton, hepoch, hcfg']
    exact .inr rfl

/-- In RUN or IDLE a cause that takes effect there begins a stop (R45, R51). -/
theorem State.raise_begins {s : State} {c : Cause} (place sheet : Nat)
    (hc : c.takesEffect s.stop.path = true)
    (hp : s.stop.path = .run ∨ s.stop.path = .idle) (hown : s.stop.own = none)
    (hroom : s.line.tx.length ≤ 14) : StopBegun s c place sheet (s.raise c place sheet) := by
  have : s.raise c place sheet = s.startStop c place sheet := by
    rw [State.raise, if_pos hc]
    obtain hp | hp := hp <;> simp only [hp]
  rw [this]
  exact State.startStop_begins c place sheet hp hown hroom

/-! ### A stop joined -/

theorem StopUnit.addSite_present {u : StopUnit} {x : Site} (h : ∃ y ∈ u.sites, y.segment = x.segment) :
    u.addSite x = u := by
  obtain ⟨y, hy, hs⟩ := h
  have hany : (u.sites.any fun z => z.segment == x.segment) = true :=
    List.any_eq_true.mpr ⟨y, hy, by simpa using hs⟩
  exact if_pos hany

theorem StopUnit.addSite_absent {u : StopUnit} {x : Site} (h : ∀ y ∈ u.sites, y.segment ≠ x.segment) :
    u.addSite x = if u.sites.length < siteCap then { u with sites := u.sites ++ [x] }
      else { u with overflow := true } := by
  rw [StopUnit.addSite, if_neg]
  rw [List.any_eq_true]
  rintro ⟨y, hy, hs⟩
  exact h y hy (beq_iff_eq.mp hs)

/-- A joining cause leaves the path state, the epoch and the stances. -/
theorem State.joinSite_stop (s : State) (c : Cause) (place sheet : Nat) :
    (s.joinSite c place sheet).stop =
      ((s.stop.setOwn c place sheet).count c).addSite (s.siteOf c place sheet) := by
  rw [State.joinSite]
  exact (State.place_only _ _).stop

theorem StopUnit.addSite_keeps (u : StopUnit) (x : Site) :
    u.addSite x = { u with sites := (u.addSite x).sites, overflow := (u.addSite x).overflow } := by
  unfold StopUnit.addSite; split
  · rfl
  · split <;> rfl

/-- A joining cause with a place for its JAMCALL, seen where the path state has moved on (R52). -/
theorem State.joinSite_joins {s t : State} {c : Cause} {place sheet : Nat}
    (hroom : s.line.tx.length < 16)
    (hstop : t.stop = { (s.joinSite c place sheet).stop with path := t.stop.path })
    (htx : ∃ more, t.line.tx = (s.joinSite c place sheet).line.tx ++ more) :
    StopJoined s c place sheet t := by
  have hadd := StopUnit.addSite_keeps ((s.stop.setOwn c place sheet).count c) (s.siteOf c place sheet)
  have hown := StopUnit.setOwn_keeps s.stop c place sheet
  rw [s.joinSite_stop] at hstop
  have hline : (s.joinSite c place sheet).line.tx = s.line.tx ++
      [⟨.jamcall, s.cfg.segment, s.stop.epoch, jamcallPayload (s.siteOf c place sheet)⟩] := by
    rw [State.joinSite, State.jamcall_open (by exact hroom)]
    have he : (((s.stop.setOwn c place sheet).count c).addSite (s.siteOf c place sheet)).epoch
        = s.stop.epoch := by rw [hadd]; show (s.stop.setOwn c place sheet).epoch = _; rw [hown]
    show s.line.tx ++ [⟨_, _, _, _⟩] = _
    rw [← he]; rfl
  obtain ⟨more, htx⟩ := htx
  have hsites : ((s.stop.setOwn c place sheet).count c).sites = s.stop.sites := by
    show (s.stop.setOwn c place sheet).sites = _; rw [hown]
  have hover : ((s.stop.setOwn c place sheet).count c).overflow = s.stop.overflow := by
    show (s.stop.setOwn c place sheet).overflow = _; rw [hown]
  have howner : t.stop.own = (s.stop.setOwn c place sheet).own := by rw [hstop, hadd]; rfl
  constructor
  · rw [hstop, hadd]; show (s.stop.setOwn c place sheet).epoch = _; rw [hown]
  · rw [hstop, hadd]; show (s.stop.setOwn c place sheet).stances = _; rw [hown]
  · intro hn; rw [howner, StopUnit.setOwn, hn]
  · intro o ho; rw [howner, StopUnit.setOwn, ho]
  · intro hl
    rw [hstop, StopUnit.addSite_present (by rw [hsites]; exact hl)]
    exact ⟨hsites, hover⟩
  · intro ha hl
    rw [hstop, StopUnit.addSite_absent (by rw [hsites]; exact ha), if_pos (by rw [hsites]; exact hl)]
    exact ⟨by rw [← hsites], hover⟩
  · intro ha hl
    rw [hstop, StopUnit.addSite_absent (by rw [hsites]; exact ha),
      if_neg (by rw [hsites]; exact Nat.not_lt.mpr hl)]
    exact ⟨hsites, rfl⟩
  · refine State.causeCount_count (u := s.stop.setOwn c place sheet) ?_ (by rw [hown])
    rw [hstop, hadd]
  · rw [htx, hline]; simp

/-- In FLUSH a cause that takes effect joins the stop, and the node turns to HALTING (R52). -/
theorem State.raise_joins {s : State} {c : Cause} (place sheet : Nat)
    (hc : c.takesEffect s.stop.path = true) (hp : s.stop.path = .flush)
    (hroom : s.line.tx.length ≤ 14) :
    StopJoined s c place sheet (s.raise c place sheet) ∧
      (s.raise c place sheet).stop.path ∈ [PathState.halting, .halted, .clearing] := by
  have hr : s.raise c place sheet = (s.joinSite c place sheet).enterHalting := by
    have hj : (s.joinSite c place sheet).stop.path = .flush := by
      rw [s.joinSite_stop, StopUnit.addSite_keeps]
      show (s.stop.setOwn c place sheet).path = _
      rw [StopUnit.setOwn_keeps]; exact hp
    rw [State.raise, if_pos hc]
    simp only [hp]
    rw [State.joinStop, State.afterJoin, if_pos hj]
  have hlen : (s.joinSite c place sheet).line.tx.length < 16 := by
    rw [State.joinSite, State.jamcall_open (by show s.line.tx.length < 16; omega)]
    show (s.line.tx ++ [_]).length < 16
    rw [List.length_append, List.length_singleton]; omega
  have hconf : (s.joinSite c place sheet).configured = true := by
    refine State.configured_of_ne ?_
    rw [s.joinSite_stop, StopUnit.addSite_keeps]
    show (s.stop.setOwn c place sheet).path ≠ _
    rw [StopUnit.setOwn_keeps]
    show s.stop.path ≠ _
    rw [hp]; decide
  have H := State.enterHalting_open hlen hconf
  rw [hr]
  refine ⟨State.joinSite_joins (by omega) H.stop ⟨_, H.tx⟩, ?_⟩
  obtain h | h | h := H.stopped <;> simp [h]

/-- A further cause that needs no panel cycle joins a stop that another cause has just begun, and leaves it
what it is (R47, R48). -/
theorem StopBegun.joined {s t : State} {c d : Cause} {place sheet : Nat} (h : StopBegun s c place sheet t)
    (hcfg : t.cfg = s.cfg) (hd : d.needsCycle = false) (hne : d.code ≠ c.code) (dplace dsheet : Nat) :
    StopBegun s c place sheet (t.joinSite d dplace dsheet) := by
  have hown : (t.stop.setOwn d dplace dsheet) = t.stop := by
    rw [StopUnit.setOwn, h.own]
    dsimp only
    rw [hd, Bool.or_false, ← h.own]
  have hstop : (t.joinSite d dplace dsheet).stop = t.stop.count d := by
    rw [t.joinSite_stop, hown]
    refine StopUnit.addSite_present ⟨s.siteOf c place sheet, ?_, ?_⟩
    · show _ ∈ t.stop.sites; rw [h.sites]; exact List.mem_singleton.mpr rfl
    · show s.cfg.segment = t.cfg.segment; rw [hcfg]
  have hcount : ∀ e : Cause, d.code ≠ e.code →
      (t.joinSite d dplace dsheet).causeCount e = t.causeCount e := fun e he => by
    have hde : d.code - 1 ≠ e.code - 1 := by revert he; cases d <;> cases e <;> decide
    simp only [State.causeCount, hstop, StopUnit.count]
    rw [Vector.getElem?_setIfInBounds_ne hde]
  have hzone : (t.joinSite d dplace dsheet).zone = t.zone := by
    funext z; simp only [State.zone, (t.joinSite_only d dplace dsheet).zones]
  have hcfg' : (t.joinSite d dplace dsheet).cfg = t.cfg := (t.joinSite_only d dplace dsheet).cfg
  have htx : (t.joinSite d dplace dsheet).line.tx = t.line.tx ∨
      ∃ f, f.kind = .jamcall ∧ (t.joinSite d dplace dsheet).line.tx = t.line.tx ++ [f] := by
    rw [State.joinSite, State.jamcall, State.place]; split
    · exact .inr ⟨State.frame _ .jamcall _, rfl, rfl⟩
    · exact .inl rfl
  have hnotice : ∀ st, (t.joinSite d dplace dsheet).stanceNotice st = t.stanceNotice st := fun st => by
    simp only [State.stanceNotice, hcfg', hstop, StopUnit.count]
  have hrest : (t.joinSite d dplace dsheet).restNotice = t.restNotice := by
    have : (t.joinSite d dplace dsheet).stop.path = t.stop.path := by rw [hstop]; rfl
    rw [State.restNotice, hnotice, this]; rfl
  have hmem : ∀ f ∈ t.line.tx, f ∈ (t.joinSite d dplace dsheet).line.tx := fun f hf => by
    obtain h | ⟨g, -, h⟩ := htx
    · rwa [h]
    · rw [h]; exact List.mem_append_left _ hf
  constructor
  · rw [hstop]; exact h.epoch
  · rw [hstop]; exact h.sites
  · rw [hstop]; exact h.overflow
  · rw [hstop]; exact h.own
  · rw [hstop]; exact h.stances
  · rw [hstop]; exact h.path
  · obtain ⟨h1, h2⟩ := h.rest
    exact ⟨by rw [hzone, hstop]; exact h1, by rw [hzone, hstop]; exact h2⟩
  · rw [hzone]; exact h.still
  · rw [hzone]; exact h.falls
  · rw [hzone]; exact h.braked
  · rw [hrest]; exact hmem _ h.announced
  · rw [hnotice, hstop]
    intro hp hf
    refine h.onlyHalted hp ?_
    obtain h | ⟨g, hg, h⟩ := htx
    · rwa [h] at hf
    · rw [h, List.mem_append, List.mem_singleton] at hf
      refine hf.resolve_right fun e => ?_
      rw [← e] at hg
      exact absurd hg (by exact nofun)
  · rw [hcount c hne]; exact h.counted
  · exact hmem _ h.jamcall

end Sys2Proof.Machine
end

section
/-! SUPPORT. A node goes only forward on its way to rest, and once there the effects of an edge leave the stop
as it stands. -/

namespace Sys2Proof.Machine

/-! ### On the way to rest -/

/-- How far a node is from moving sheets: RUN, FLUSH, HALTING, and the path states in which none moves. -/
def PathState.stage : PathState → Nat
  | .run => 0
  | .flush => 1
  | .halting => 2
  | .unconfigured | .idle | .halted | .clearing | .ready => 3

theorem PathState.moves_iff (p : PathState) : p.moves = true ↔ p.stage < 3 := by cases p <;> decide

theorem PathState.moves_iff_mem (p : PathState) :
    p.moves = true ↔ p ∈ [PathState.run, .flush, .halting] := by cases p <;> decide

/-- The path state stays, or the node is nearer to its rest. -/
def Later (s t : State) : Prop :=
  t.stop.path = s.stop.path ∨ s.stop.path.stage < t.stop.path.stage

theorem Later.of_stop {s t : State} (h : t.stop = s.stop) : Later s t := .inl (by rw [h])

theorem Later.le {s t : State} (h : Later s t) : s.stop.path.stage ≤ t.stop.path.stage := by
  obtain h | h := h
  · rw [h]
  · exact h.le

theorem Later.trans {s t u : State} (h : Later s t) (k : Later t u) : Later s u := by
  obtain h' | h' := h
  · obtain k | k := k
    · exact .inl (k.trans h')
    · exact .inr (h' ▸ k)
  · exact .inr (h'.trans_le k.le)

/-- A path state that stands at the end stood all the way. -/
theorem Later.mid {s t u : State} (h : Later s t) (k : Later t u) (e : u.stop.path = s.stop.path) :
    t.stop.path = s.stop.path ∧ u.stop.path = t.stop.path := by
  obtain h' | h' := h
  · exact ⟨h', e.trans h'.symm⟩
  · have := k.le
    rw [e] at this
    omega

/-- The node goes forward, and its pulse outputs stand until it is at rest (R97). -/
structure Onward (s t : State) : Prop where
  later : Later s t
  pulses : t.stop.path = s.stop.path ∨ t.stop.path.stage < 3 → t.pulses = s.pulses

namespace Onward

theorem refl (s : State) : Onward s s := ⟨.inl rfl, fun _ => rfl⟩

theorem of_eq {s t : State} (hs : t.stop.path = s.stop.path) (hp : t.pulses = s.pulses) :
    Onward s t := ⟨.inl hs, fun _ => hp⟩

theorem of_only {l : List Part} {s t : State} (h : changesOnly l s t)
    (hs : .stop ∉ l := by decide) (hp : .pulses ∉ l := by decide) : Onward s t :=
  .of_eq (by rw [h.stop hs]) (h.pulses hp)

theorem trans {s t u : State} (h : Onward s t) (k : Onward t u) : Onward s u := by
  refine ⟨h.later.trans k.later, fun hu => ?_⟩
  have hle := k.later.le
  obtain e | hlt := hu
  · obtain ⟨h1, h2⟩ := h.later.mid k.later e
    exact (k.pulses (.inl h2)).trans (h.pulses (.inl h1))
  · exact (k.pulses (.inr hlt)).trans (h.pulses (.inr (by omega)))

theorem pulse {s t : State} (h : Onward s t) (hp : t.stop.path = s.stop.path ∨ t.stop.path.stage < 3)
    (p : PulseId) : t.pulse p = s.pulse p := by
  simp only [State.pulse, h.pulses hp]

end Onward

/-! ### The stop controller goes forward -/

theorem State.joinSite_path (s : State) (c : Cause) (place sheet : Nat) :
    (s.joinSite c place sheet).stop.path = s.stop.path := by
  rw [s.joinSite_stop, StopUnit.addSite_keeps]
  show (s.stop.setOwn c place sheet).path = _
  rw [StopUnit.setOwn_keeps]

theorem State.announceStance_path (s : State) (st : Stance) :
    (s.announceStance st).stop.path = s.stop.path := by
  unfold State.announceStance; split
  · rfl
  · dsimp only; split
    · exact State.joinSite_path _ _ _ _
    · rfl

theorem State.enter_path (s : State) (p : PathState) : (s.enter p).stop.path = p := by
  rw [s.enter_stop]

theorem State.enterHalted_path (s : State) :
    s.enterHalted.stop.path = .halted ∨ s.enterHalted.stop.path = .clearing := by
  rw [State.enterHalted, State.openedAtHalt_stop]
  dsimp only
  split
  · exact .inr rfl
  · exact .inl ((State.announceStance_path _ _).trans (s.enter_path _))

theorem State.enterHalting_path (s : State) :
    (s.enterHalting.stop.path = .halting ∧ s.enterHalting.pulses = s.pulses) ∨
      s.enterHalting.stop.path = .halted ∨ s.enterHalting.stop.path = .clearing := by
  rw [State.enterHalting, State.haltTest]
  split
  · exact .inr (State.enterHalted_path _)
  · left
    have hr := State.restZones_only (s.enter .halting)
    rw [State.announceStance_path, hr.stop, s.enter_path, (State.announceStance_only _ _).pulses,
      hr.pulses, (s.enter_only _).pulses]
    exact ⟨rfl, rfl⟩

theorem State.enterHalted_onward {s : State} (h : s.stop.path.stage < 3) : Onward s s.enterHalted := by
  have h3 : s.enterHalted.stop.path.stage = 3 := by
    obtain e | e := s.enterHalted_path <;> rw [e] <;> rfl
  refine ⟨.inr (by rw [h3]; exact h), ?_⟩
  rintro (e | e)
  · rw [e] at h3; omega
  · omega

theorem State.enterHalting_onward {s : State} (h : s.stop.path.stage < 2) :
    Onward s s.enterHalting := by
  obtain ⟨e, hp⟩ | e := s.enterHalting_path
  · exact ⟨.inr (by rw [e]; exact h), fun _ => hp⟩
  · have h3 : s.enterHalting.stop.path.stage = 3 := by obtain e | e := e <;> rw [e] <;> rfl
    refine ⟨.inr (by omega), ?_⟩
    rintro (e | e)
    · rw [e] at h3; omega
    · omega

theorem State.joinSite_onward (s : State) (c : Cause) (place sheet : Nat) :
    Onward s (s.joinSite c place sheet) :=
  .of_eq (s.joinSite_path c place sheet) (s.joinSite_only c place sheet).pulses

theorem State.zonesChanged_onward (s : State) : Onward s s.zonesChanged := by
  unfold State.zonesChanged; split
  · next h => exact State.enterHalted_onward (by rw [h.1]; decide)
  · exact .of_only s.releaseChain_only

theorem State.haltAheadTest_onward (s : State) : Onward s s.haltAheadTest := by
  unfold State.haltAheadTest; split
  · next h => exact State.enterHalting_onward (by rw [h.1]; decide)
  · exact .refl s

theorem State.drainTest_onward (s : State) : Onward s s.drainTest := by
  unfold State.drainTest; split
  · next h => exact State.enterHalting_onward (by rw [h.1]; decide)
  · exact .refl s

theorem State.afterJoin_onward (s : State) (before : Option OwnCause) :
    Onward s (s.afterJoin before) := by
  unfold State.afterJoin; split
  · next h => exact State.enterHalting_onward (by rw [h]; decide)
  · split
    · exact (Onward.of_only s.brakeAll_only).trans (State.zonesChanged_onward _)
    · exact .refl s

theorem State.joinStop_onward (s : State) (c : Cause) (place sheet : Nat) :
    Onward s (s.joinStop c place sheet) :=
  (s.joinSite_onward c place sheet).trans (State.afterJoin_onward _ _)

theorem State.startStop_onward {s : State} (h : s.stop.path = .run) (c : Cause) (place sheet : Nat) :
    Onward s (s.startStop c place sheet) := by
  obtain ⟨v, ht, hstop, -, -, -, -, hpulses⟩ := s.startStop_eq c place sheet
  have hp : v.stop.path = s.stop.path := by rw [hstop, StopUnit.begin_path]
  rw [ht]
  exact (Onward.of_eq hp hpulses).trans <|
    (State.enterHalting_onward (by rw [hp, h]; decide)).trans (.of_only (State.jamcall_only _ _))

/-- A cause takes a node forward, but for STRAY in IDLE, which takes it out of rest. -/
theorem State.raise_onward {s : State} {c : Cause} (place sheet : Nat)
    (h : c ≠ .stray ∨ s.stop.path ≠ .idle) : Onward s (s.raise c place sheet) := by
  unfold State.raise; split
  · next ht =>
    split
    · next hi =>
      obtain h | h := h
      · rw [hi] at ht; cases c <;> first | exact absurd rfl h | exact absurd ht (by decide)
      · exact absurd hi h
    · next hr => exact State.startStop_onward hr c place sheet
    · exact s.joinStop_onward c place sheet
    · exact s.joinStop_onward c place sheet
    all_goals exact .refl s
  · exact .refl s

theorem State.raiseFrom_onward (s : State) (p : PathState) {c : Cause} (place sheet : Nat)
    (h : c ≠ .stray) : Onward s (s.raiseFrom p c place sheet) := by
  unfold State.raiseFrom; split
  · exact s.joinSite_onward c place sheet
  · exact State.raise_onward place sheet (.inl h)

theorem State.queueFrame_onward (s : State) (p : PathState) (f : Frame) :
    Onward s (s.queueFrame p f) := by
  unfold State.queueFrame; split
  · exact .of_only (s.push_only f)
  · exact (Onward.of_only (s.withLine_only _)).trans (State.raiseFrom_onward _ _ _ _ (by decide))

theorem State.leftTests_onward (s : State) : Onward s s.leftTests :=
  s.drainTest_onward.trans <| (Onward.of_only (State.idleFallTest_only _)).trans
    (.of_only (State.feedTest_only _))

theorem State.guardAtEdge_onward (s : State) (sheet : Nat) : Onward s (s.guardAtEdge sheet) := by
  unfold State.guardAtEdge; split
  · exact State.raise_onward _ _ (.inl (by decide))
  · exact .refl s

theorem State.mapEntry_onward (s : State) (sheet : Nat) (f : Entry → Entry) :
    Onward s (s.mapEntry sheet f) := .of_only (s.mapEntry_only sheet f)

theorem State.gateService_onward (s : State) : Onward s s.gateService := .of_only s.gateService_only

theorem State.makeClaim_onward (s : State) (sheet : Nat) : Onward s (s.makeClaim sheet) := by
  unfold State.makeClaim; split
  · exact .refl s
  · split
    · exact .refl s
    · split
      · split
        · exact .of_only (s.withGate_only _)
        · exact .refl s
      · split
        · exact State.raise_onward _ _ (.inl (by decide))
        · exact (Onward.of_only (s.withGate_only _)).trans <|
            (State.mapEntry_onward _ _ _).trans (State.gateService_onward _)

theorem State.claimAt_onward (s : State) (k : StationId) (sheet : Nat) :
    Onward s (s.claimAt k sheet) := by
  unfold State.claimAt; split
  · exact s.makeClaim_onward sheet
  · exact .refl s

theorem State.imageRule_onward (s : State) (sheet : Nat) : Onward s (s.imageRule sheet) := by
  unfold State.imageRule; split
  · exact .refl s
  · split
    · exact (s.mapEntry_onward _ _).trans (State.haltAheadTest_onward _)
    · exact .refl s

theorem State.imageAt_onward (s : State) (k : StationId) (sheet : Nat) :
    Onward s (s.imageAt k sheet) := by
  unfold State.imageAt; split
  · exact s.imageRule_onward sheet
  · exact .refl s

theorem State.releaseSheet_onward (s : State) (sheet : Nat) : Onward s (s.releaseSheet sheet) :=
  (s.mapEntry_onward _ _).trans (State.imageRule_onward _ _)

/-! ### A node on its way to rest or there -/

/-- The node is in HALTING, HALTED or CLEARING. -/
def State.Stopped (s : State) : Prop :=
  s.stop.path = .halting ∨ s.stop.path = .halted ∨ s.stop.path = .clearing

theorem State.Stopped.of_stop {s t : State} (h : s.Stopped) (hs : t.stop = s.stop) : t.Stopped := by
  unfold State.Stopped; rw [hs]; exact h

section
variable {s : State} (h : s.Stopped)
include h

theorem State.raise_stopped {c : Cause} (place sheet : Nat) (hc : c.takesEffect .halting = false) :
    s.raise c place sheet = s := by
  refine State.raise_dropped s c place sheet ?_
  revert hc
  obtain h | h | h := h <;> rw [h] <;> cases c <;> decide

theorem State.haltAheadTest_stopped : s.haltAheadTest = s := by
  rw [State.haltAheadTest, if_neg]
  obtain h | h | h := h <;> simp [h]

theorem State.leftTests_stopped : s.leftTests = s := by
  have hd : s.drainTest = s := by rw [State.drainTest, if_neg]; obtain h | h | h := h <;> simp [h]
  have hi : s.idleFallTest = s := by
    rw [State.idleFallTest, if_neg]; obtain h | h | h := h <;> simp [h]
  have hf : s.feedTest = s := by rw [State.feedTest, if_neg]; obtain h | h | h := h <;> simp [h]
  rw [State.leftTests, hd, hi, hf]

theorem State.guardAtEdge_stopped (sheet : Nat) : s.guardAtEdge sheet = s := by
  rw [State.guardAtEdge, State.raise_stopped h _ _ rfl, ite_self]

theorem State.imageRule_stopped (sheet : Nat) : StandsAs s (s.imageRule sheet) := by
  unfold State.imageRule; split
  · exact .refl s
  · split
    · rw [State.haltAheadTest_stopped (h.of_stop (by exact (s.mapEntry_only _ _).stop))]
      exact .of_only (s.mapEntry_only _ _)
    · exact .refl s

theorem State.imageAt_stopped (k : StationId) (sheet : Nat) : StandsAs s (s.imageAt k sheet) := by
  unfold State.imageAt; split
  · exact State.imageRule_stopped h sheet
  · exact .refl s

theorem State.releaseSheet_stopped (sheet : Nat) : StandsAs s (s.releaseSheet sheet) :=
  (StandsAs.of_only (s.mapEntry_only _ _)).trans
    (State.imageRule_stopped (h.of_stop (by exact (s.mapEntry_only _ _).stop)) sheet)

theorem State.startPulse_stopped (p : PulseId) (d : PulseDelay) : StandsAs s (s.startPulse p d) := by
  unfold State.startPulse; dsimp only; split
  · exact (StandsAs.of_only (s.setPulse_only _ _)).trans
      (State.releaseSheet_stopped (h.of_stop (by exact rfl)) _)
  · exact .of_only (s.setPulse_only _ _)

theorem State.completeDelay_stopped (p : PulseId) : StandsAs s (s.completeDelay p) := by
  unfold State.completeDelay; split
  · split
    · exact State.startPulse_stopped h p _
    · exact .refl s
  · exact .refl s

theorem State.takeTrigger_stopped (p : PulseId) (a b sheet : Nat) :
    StandsAs s (s.takeTrigger p a b sheet) := by
  unfold State.takeTrigger; split
  · rw [State.raise_stopped h _ _ rfl]; exact .refl s
  · exact (StandsAs.of_only (s.setPulse_only _ _)).trans
      (State.completeDelay_stopped (h.of_stop (by exact rfl)) p)

theorem State.stationTrigger_stopped (p : PulseId) (k : StationId) (edge : TriggerEdge)
    (r : SheetRecord) : StandsAs s (s.stationTrigger p k edge r) := by
  unfold State.stationTrigger; dsimp only; split
  · have hc := State.completeDelay_stopped h p
    exact hc.trans (State.takeTrigger_stopped (h.of_stop hc.stop) p _ _ _)
  · exact .refl s

theorem State.edgeTriggers_stopped (k : StationId) (edge : TriggerEdge) (sheet : Nat) :
    StandsAs s (s.edgeTriggers k edge sheet) := by
  unfold State.edgeTriggers; split
  · exact .refl s
  · have hc := State.stationTrigger_stopped h .p1 k edge
    exact (hc _).trans (State.stationTrigger_stopped (h.of_stop (hc _).stop) .p2 k edge _)

end

end Sys2Proof.Machine
end

section
/-! SUPPORT. What a trigger leaves of the pulse outputs (R95, R96). -/

namespace Sys2Proof.Machine

/-! ### One pulse output -/

theorem State.pulse_setPulse (s : State) (p : PulseId) (x : Pulse) : (s.setPulse p x).pulse p = x := by
  cases p <;> rfl

theorem State.pulse_setPulse_ne (s : State) {p q : PulseId} (x : Pulse) (h : q ≠ p) :
    (s.setPulse p x).pulse q = s.pulse q := by
  cases p <;> cases q <;> first | rfl | exact absurd rfl h

theorem State.setPulse_setPulse (s : State) (p : PulseId) (x y : Pulse) :
    (s.setPulse p x).setPulse p y = s.setPulse p y := by cases p <;> rfl

theorem State.setPulse_self (s : State) (p : PulseId) : s.setPulse p (s.pulse p) = s := by
  cases p <;> rfl

/-- A pulse output as a trigger with delay `a`, width `b` and sheet ID `sheet` leaves it (R96). -/
def Pulse.triggered (x : Pulse) (a b sheet : Nat) : Pulse :=
  match x.delay with
  | none => if a = 0 ∧ x.active = none then ⟨none, some ⟨0, b, sheet⟩⟩
      else ⟨some ⟨0, a, b, sheet⟩, x.active⟩
  | some d => if d.target ≤ d.tracker ∧ x.active = none
      then ⟨some ⟨0, a, b, sheet⟩, some ⟨0, d.width, d.sheet⟩⟩ else x

/-- The pulse outputs stand, or their delays are gone (R97). -/
def Fades (s t : State) : Prop := t.pulses = s.pulses ∨ t.pulses = s.dropDelays.pulses

theorem Fades.pulse {s t : State} (h : Fades s t) (p : PulseId) :
    (t.pulse p).active = (s.pulse p).active ∧ ((s.pulse p).delay = none → (t.pulse p).delay = none) := by
  obtain h | h := h
  · simp only [State.pulse, h]; exact ⟨trivial, id⟩
  · simp only [State.pulse, h]
    cases p <;> exact ⟨rfl, fun _ => rfl⟩

theorem State.enterHalting_fades (s : State) : Fades s s.enterHalting := by
  obtain ⟨u, hu⟩ : ∃ u, u = (s.enter .halting).restZones := ⟨_, rfl⟩
  have hp : u.pulses = s.pulses := by
    rw [hu]; exact (State.restZones_only _).pulses.trans (s.enter_only _).pulses
  rw [State.enterHalting, ← hu, State.haltTest]
  split
  · right
    rw [State.enterHalted, (State.openedAtHalt_only _).pulses, (State.announceStance_only _ _).pulses]
    rw [State.dropDelays, State.dropDelays, State.withPulses_pulses, State.withPulses_pulses,
      (u.enter_only _).pulses, hp]
  · exact .inl ((State.announceStance_only _ _).pulses.trans hp)

theorem State.haltAheadTest_fades (s : State) : Fades s s.haltAheadTest := by
  unfold State.haltAheadTest; split
  · exact s.enterHalting_fades
  · exact .inl rfl

theorem State.releaseSheet_fades (s : State) (sheet : Nat) : Fades s (s.releaseSheet sheet) := by
  unfold State.releaseSheet State.imageRule; split
  · exact .inl rfl
  · split
    · exact State.haltAheadTest_fades _
    · exact .inl rfl

/-! ### A pulse start and a trigger -/

theorem State.startPulse_onward (s : State) (p : PulseId) (d : PulseDelay) :
    Onward (s.setPulse p ⟨none, some ⟨0, d.width, d.sheet⟩⟩) (s.startPulse p d) := by
  unfold State.startPulse; dsimp only; split
  · exact State.releaseSheet_onward _ _
  · exact .refl _

theorem State.startPulse_fades (s : State) (p : PulseId) (d : PulseDelay) :
    Fades (s.setPulse p ⟨none, some ⟨0, d.width, d.sheet⟩⟩) (s.startPulse p d) := by
  unfold State.startPulse; dsimp only; split
  · exact State.releaseSheet_fades _ _
  · exact .inl rfl

theorem State.completeDelay_waits {s : State} {p : PulseId}
    (h : ∀ d, (s.pulse p).delay = some d → ¬ (d.target ≤ d.tracker ∧ (s.pulse p).active = none)) :
    s.completeDelay p = s := by
  unfold State.completeDelay; split
  · next d hd ha =>
    rw [if_neg]
    intro hle
    exact h d hd ⟨hle, ha⟩
  · rfl

theorem State.completeDelay_starts {s : State} {p : PulseId} {d : PulseDelay}
    (hd : (s.pulse p).delay = some d) (hle : d.target ≤ d.tracker) (ha : (s.pulse p).active = none) :
    s.completeDelay p = s.startPulse p d := by
  unfold State.completeDelay
  rw [hd, ha]
  exact if_pos hle

/-- A trigger that no delay stands before (R96): its pulse starts at once, or its delay is pending. -/
theorem State.takeTrigger_free {s : State} {p : PulseId} (a b sheet : Nat)
    (hd : (s.pulse p).delay = none) : s.takeTrigger p a b sheet =
      if a = 0 ∧ (s.pulse p).active = none then
        (s.setPulse p { s.pulse p with delay := some ⟨0, a, b, sheet⟩ }).startPulse p ⟨0, a, b, sheet⟩
      else s.setPulse p { s.pulse p with delay := some ⟨0, a, b, sheet⟩ } := by
  unfold State.takeTrigger
  rw [hd]
  dsimp only
  split
  · next h =>
    exact State.completeDelay_starts (by rw [State.pulse_setPulse]) (by simp [h.1])
      (by rw [State.pulse_setPulse]; exact h.2)
  · next h =>
    refine State.completeDelay_waits fun d hd hc => h ?_
    rw [State.pulse_setPulse] at hd hc
    obtain rfl := Option.some.inj hd
    exact ⟨Nat.le_zero.mp hc.1, hc.2⟩

theorem State.takeTrigger_pending {s : State} {p : PulseId} {d : PulseDelay} (a b sheet : Nat)
    (hd : (s.pulse p).delay = some d) : s.takeTrigger p a b sheet = s.raise .pulse p.num sheet := by
  unfold State.takeTrigger; rw [hd]

/-- A delay that is complete starts its pulse ahead of the trigger, whose own delay then waits (R96). -/
theorem State.trigger_complete {s : State} {p : PulseId} {d : PulseDelay} (a b sheet : Nat)
    (hd : (s.pulse p).delay = some d) (hle : d.target ≤ d.tracker) (ha : (s.pulse p).active = none) :
    s.trigger p a b sheet = (s.startPulse p d).setPulse p
      ⟨some ⟨0, a, b, sheet⟩, some ⟨0, d.width, d.sheet⟩⟩ := by
  obtain ⟨hact, hdel⟩ := (s.startPulse_fades p d).pulse p
  rw [State.pulse_setPulse] at hact hdel
  rw [State.trigger, State.completeDelay_starts hd hle ha, State.takeTrigger_free _ _ _ (hdel rfl),
    if_neg (by rw [hact]; simp)]
  dsimp only
  rw [hact]

theorem State.trigger_waits {s : State} {p : PulseId} {d : PulseDelay} (a b sheet : Nat)
    (hd : (s.pulse p).delay = some d) (h : ¬ (d.target ≤ d.tracker ∧ (s.pulse p).active = none)) :
    s.trigger p a b sheet = s.raise .pulse p.num sheet := by
  rw [State.trigger, State.completeDelay_waits, State.takeTrigger_pending _ _ _ hd]
  intro x hx
  rw [hd] at hx
  obtain rfl := Option.some.inj hx
  exact h

theorem State.trigger_free {s : State} {p : PulseId} (a b sheet : Nat)
    (hd : (s.pulse p).delay = none) : s.trigger p a b sheet = s.takeTrigger p a b sheet := by
  rw [State.trigger, State.completeDelay_waits]
  intro x hx
  rw [hd] at hx
  cases hx

theorem State.trigger_onward (s : State) (p : PulseId) (a b sheet : Nat) :
    Onward (s.setPulse p ((s.pulse p).triggered a b sheet)) (s.trigger p a b sheet) := by
  cases hd : (s.pulse p).delay with
  | none =>
    rw [State.trigger_free _ _ _ hd, State.takeTrigger_free _ _ _ hd, Pulse.triggered, hd]
    dsimp only
    split
    · have h := State.startPulse_onward (s.setPulse p { s.pulse p with delay := some ⟨0, a, b, sheet⟩ })
        p ⟨0, a, b, sheet⟩
      rwa [State.setPulse_setPulse] at h
    · exact .refl _
  | some d =>
    by_cases hc : d.target ≤ d.tracker ∧ (s.pulse p).active = none
    · rw [State.trigger_complete _ _ _ hd hc.1 hc.2, Pulse.triggered, hd]
      dsimp only
      rw [if_pos hc]
      obtain ⟨hl, hp⟩ := s.startPulse_onward p d
      refine ⟨hl, fun h => ?_⟩
      show Duo.set (s.startPulse p d).pulses _ _ = _
      rw [hp h]
      exact congrArg State.pulses (s.setPulse_setPulse p _ _)
    · rw [State.trigger_waits _ _ _ hd hc, Pulse.triggered, hd]
      dsimp only
      rw [if_neg hc, State.setPulse_self]
      exact State.raise_onward _ _ (.inl (by decide))

/-! ### The triggers of an edge -/

theorem SheetRecord.qualifies_iff (r : SheetRecord) (q : Qualifier) : r.qualifies q = true ↔
    q = .any ∨ (q = .release ∧ r.page1.isSome = true ∧ r.currentState = some .blank ∧
      r.purge = false) := by
  cases q <;> simp [SheetRecord.qualifies, and_assoc]

/-- Delay and width of the output `p` for a record (R94, R95). -/
def State.constantsFor (s : State) (p : PulseId) (r : SheetRecord) : Nat × Nat :=
  pulseConstants (s.pulseCfg p) r.media

/-- The edge triggers the output, in a path state in which a trigger acts (R95). -/
theorem State.triggered_iff {s : State} {p : PulseId} {k : StationId} {edge : TriggerEdge}
    {r : SheetRecord} : s.triggered p k edge r ∧ s.stop.path.moves = true ↔
      (s.pulseCfg p).source = .station k ∧ (s.pulseCfg p).edge = edge ∧ s.stop.path.moves = true ∧
        r.qualifies (s.pulseCfg p).qualifier = true := by
  rw [State.triggered, r.qualifies_iff]
  tauto

/-- An output as an edge matched to a record leaves it where the path state stands (R95, R96). -/
def State.pulseAfter (s : State) (p : PulseId) (k : StationId) (edge : TriggerEdge)
    (r : SheetRecord) : Pulse :=
  if (s.pulseCfg p).source = .station k ∧ (s.pulseCfg p).edge = edge ∧ s.stop.path.moves = true ∧
      r.qualifies (s.pulseCfg p).qualifier = true
  then (s.pulse p).triggered (s.constantsFor p r).1 (s.constantsFor p r).2 r.sheet
  else s.pulse p

section
variable {s : State} {p : PulseId} {k : StationId} {edge : TriggerEdge} {r : SheetRecord}

theorem State.pulseAfter_pos (h : s.triggered p k edge r) (hm : s.stop.path.moves = true) :
    s.pulseAfter p k edge r =
      (s.pulse p).triggered (s.constantsFor p r).1 (s.constantsFor p r).2 r.sheet :=
  if_pos (State.triggered_iff.mp ⟨h, hm⟩)

theorem State.pulseAfter_neg (h : ¬ (s.triggered p k edge r ∧ s.stop.path.moves = true)) :
    s.pulseAfter p k edge r = s.pulse p := if_neg fun hc => h (State.triggered_iff.mpr hc)

/-- The station trigger of one output, by whether the edge triggers it (R95). -/
theorem State.stationTrigger_pos (h : s.triggered p k edge r) (hm : s.stop.path.moves = true) :
    s.stationTrigger p k edge r = s.trigger p (s.constantsFor p r).1 (s.constantsFor p r).2 r.sheet :=
  if_pos (State.triggered_iff.mp ⟨h, hm⟩)

theorem State.stationTrigger_neg (h : ¬ (s.triggered p k edge r ∧ s.stop.path.moves = true)) :
    s.stationTrigger p k edge r = s := if_neg fun hc => h (State.triggered_iff.mpr hc)

end

theorem State.stationTrigger_onward (s : State) (p : PulseId) (k : StationId) (edge : TriggerEdge)
    (r : SheetRecord) :
    Onward (s.setPulse p (s.pulseAfter p k edge r)) (s.stationTrigger p k edge r) := by
  by_cases h : s.triggered p k edge r ∧ s.stop.path.moves = true
  · rw [State.stationTrigger_pos h.1 h.2, State.pulseAfter_pos h.1 h.2]
    exact s.trigger_onward p _ _ _
  · rw [State.stationTrigger_neg h, State.pulseAfter_neg h, State.setPulse_self]
    exact .refl s

theorem State.stationTrigger_later (s : State) (p : PulseId) (k : StationId) (edge : TriggerEdge)
    (r : SheetRecord) : Later s (s.stationTrigger p k edge r) :=
  (s.stationTrigger_onward p k edge r).later

/-- The other output stands while the node moves sheets. -/
theorem State.stationTrigger_other (s : State) {p q : PulseId} (hq : q ≠ p) (k : StationId)
    (edge : TriggerEdge) (r : SheetRecord)
    (h : (s.stationTrigger p k edge r).stop.path = s.stop.path ∨
      (s.stationTrigger p k edge r).stop.path.stage < 3) :
    (s.stationTrigger p k edge r).pulse q = s.pulse q := by
  rw [(s.stationTrigger_onward p k edge r).pulse h q, State.pulse_setPulse_ne _ _ hq]

theorem State.stationTrigger_pulse (s : State) (p : PulseId) (k : StationId) (edge : TriggerEdge)
    (r : SheetRecord) (h : (s.stationTrigger p k edge r).stop.path = s.stop.path) :
    (s.stationTrigger p k edge r).pulse p = s.pulseAfter p k edge r := by
  rw [(s.stationTrigger_onward p k edge r).pulse (.inl h) p, State.pulse_setPulse]

theorem State.pulseAfter_congr {s t : State} {p : PulseId} {k : StationId} {edge : TriggerEdge}
    {r : SheetRecord} (hcfg : t.cfg = s.cfg) (hs : t.stop.path = s.stop.path)
    (hp : t.pulse p = s.pulse p) : t.pulseAfter p k edge r = s.pulseAfter p k edge r := by
  have hc : t.pulseCfg = s.pulseCfg := by funext q; simp only [State.pulseCfg, hcfg]
  simp only [State.pulseAfter, State.constantsFor, hc, hs, hp]

theorem State.edgeTriggers_later (s : State) (k : StationId) (edge : TriggerEdge) (sheet : Nat) :
    Later s (s.edgeTriggers k edge sheet) := by
  unfold State.edgeTriggers; split
  · exact .inl rfl
  · exact (s.stationTrigger_later _ _ _ _).trans (State.stationTrigger_later _ _ _ _ _)

theorem State.edgeTriggers_pulse {s : State} {k : StationId} {edge : TriggerEdge} {e : Entry} (p : PulseId)
    (he : s.entryOf e.record.sheet = some e)
    (h : (s.edgeTriggers k edge e.record.sheet).stop.path = s.stop.path) :
    (s.edgeTriggers k edge e.record.sheet).pulse p = s.pulseAfter p k edge e.record := by
  have ht : s.edgeTriggers k edge e.record.sheet =
      (s.stationTrigger .p1 k edge e.record).stationTrigger .p2 k edge e.record := by
    rw [State.edgeTriggers, he]
  rw [ht] at h ⊢
  obtain ⟨h1, h2⟩ := (s.stationTrigger_later .p1 k edge e.record).mid
    (State.stationTrigger_later _ .p2 k edge e.record) h
  cases p with
  | p1 => rw [State.stationTrigger_other _ (by decide) _ _ _ (.inl h2), State.stationTrigger_pulse _ _ _ _ _ h1]
  | p2 =>
    rw [State.stationTrigger_pulse _ _ _ _ _ h2]
    exact State.pulseAfter_congr (State.stationTrigger_only _ _ _ _ _).cfg h1
      (State.stationTrigger_other _ (by decide) _ _ _ (.inl h1))

/-- What the statements say of the pulse outputs after an edge, told by the output. -/
theorem Triggers.of_pulseAfter {s t : State} {k : StationId} {edge : TriggerEdge} {r : SheetRecord}
    (h : t.stop.path = s.stop.path → ∀ p, t.pulse p = s.pulseAfter p k edge r) :
    Triggers s t k edge r := by
  intro hmem hpath p
  have hm : s.stop.path.moves = true := (PathState.moves_iff_mem _).mpr hmem
  have hp := h hpath p
  have hab : ∀ a b, (a, b) = (if r.media.val ≤ 1 then ((s.pulseCfg p).a1, (s.pulseCfg p).b1)
      else ((s.pulseCfg p).a2, (s.pulseCfg p).b2)) → s.constantsFor p r = (a, b) := fun a b hab => by
    rw [hab]; rfl
  refine ⟨fun hn => ?_, fun ht hd a b hc => ?_, fun ht d hd => ⟨fun hle ha a b hc => ?_, fun hw => ?_⟩⟩
  · rw [hp, State.pulseAfter_neg (fun h => hn h.1)]
  · rw [hp, State.pulseAfter_pos ht hm, hab a b hc, Pulse.triggered, hd]
  · rw [hp, State.pulseAfter_pos ht hm, hab a b hc, Pulse.triggered, hd]
    exact if_pos ⟨hle, ha⟩
  · rw [hp, State.pulseAfter_pos ht hm, Pulse.triggered, hd]
    refine if_neg fun h => ?_
    obtain hw | hw := hw
    · omega
    · exact hw h.2

end Sys2Proof.Machine
end

section
/-! SUPPORT. The entry that an edge is matched to, followed through the effects of the edge, with what these
leave of the other entries. -/

namespace Sys2Proof.Machine

/-! ### Releases -/

/-- A record with its released flag set (R99). -/
def SheetRecord.release (r : SheetRecord) : SheetRecord := { r with released := true }

/-- An entry that a release pulse releases: the image rule applies where its leading edge has passed the
image station (R20, R99). -/
def State.releasedEntry (s : State) (e : Entry) : Entry :=
  { e with record :=
      if s.cfg.imageStation.num ≤ e.lead ∧ e.record.currentState = some .blank then
        e.record.toned.release
      else e.record.release }

theorem SheetRecord.toned_keeps (r : SheetRecord) :
    r.toned = { r with side1 := r.toned.side1, side2 := r.toned.side2 } := by
  unfold SheetRecord.toned; split <;> rfl

theorem SheetRecord.setCurrent_toned (r : SheetRecord) : r.setCurrent .unfixed = r.toned := by
  unfold SheetRecord.setCurrent SheetRecord.toned; cases r.current <;> rfl

theorem SheetRecord.toned_current (r : SheetRecord) : r.toned.currentState = some .unfixed := by
  unfold SheetRecord.toned
  cases r.current <;> rfl

theorem SheetRecord.release_toned (r : SheetRecord) : r.release.toned = r.toned.release := by
  unfold SheetRecord.toned SheetRecord.release
  cases r.current <;> rfl

theorem State.releasedEntry_sheet (s : State) (e : Entry) :
    (s.releasedEntry e).record.sheet = e.record.sheet := by
  unfold State.releasedEntry; dsimp only; split
  · rw [e.record.toned_keeps]; rfl
  · rfl

/-- A release of a blank side, as the statements give it. -/
theorem State.releasedEntry_blank (s : State) {e : Entry} (h : e.record.currentState = some .blank) :
    (s.releasedEntry e).record = s.releasedPast e.lead e.record := by
  simp only [State.releasedEntry, State.releasedPast, h, and_true]
  rfl

theorem State.releasedEntry_idem (s : State) (e : Entry) :
    s.releasedEntry (s.releasedEntry e) = s.releasedEntry e := by
  by_cases h : s.cfg.imageStation.num ≤ e.lead ∧ e.record.currentState = some .blank
  · have hr : s.releasedEntry e = { e with record := e.record.toned.release } := by
      rw [State.releasedEntry, if_pos h]
    have hc : e.record.toned.release.currentState ≠ some .blank := by
      show e.record.toned.currentState ≠ _
      rw [e.record.toned_current]; decide
    rw [hr, State.releasedEntry, if_neg fun hn => hc hn.2]
    rfl
  · have hr : s.releasedEntry e = { e with record := e.record.release } := by
      rw [State.releasedEntry, if_neg h]
    have h' : ¬ (s.cfg.imageStation.num ≤ e.lead ∧ e.record.release.currentState = some .blank) := h
    rw [hr, State.releasedEntry, if_neg h']
    rfl

/-- What an edge may leave of an entry that it does not match. -/
def ReleaseOnly (s : State) (e g : Entry) : Prop :=
  (¬ s.releaseReady e.record.sheet → g = e) ∧
  g = { e with record := { e.record with
    released := g.record.released, side1 := g.record.side1, side2 := g.record.side2 } }

namespace ReleaseOnly

variable {s : State} {e f g : Entry}

theorem refl (s : State) (e : Entry) : ReleaseOnly s e e := ⟨fun _ => rfl, rfl⟩

theorem sheet (h : ReleaseOnly s e f) : f.record.sheet = e.record.sheet := by rw [h.2]

theorem trans (h : ReleaseOnly s e f) (k : ReleaseOnly s f g) : ReleaseOnly s e g := by
  refine ⟨fun hn => ?_, ?_⟩
  · rw [k.1 (by rw [h.sheet]; exact hn), h.1 hn]
  · rw [k.2, h.2]

end ReleaseOnly

namespace OthersAfter

variable {s : State} {l l' : List Entry}

theorem iff_get : OthersAfter s l l' ↔ l'.length = l.length ∧
    ∀ (i : Nat) (e : Entry), l[i]? = some e → ∃ g, l'[i]? = some g ∧ ReleaseOnly s e g := Iff.rfl

theorem refl (s : State) (l : List Entry) : OthersAfter s l l :=
  ⟨rfl, fun _ e he => ⟨e, he, ReleaseOnly.refl s e⟩⟩

theorem map (h : OthersAfter s l l') {φ : Entry → Entry} (hφ : ∀ g, ReleaseOnly s g (φ g)) :
    OthersAfter s l (l'.map φ) := by
  refine iff_get.mpr ⟨by rw [List.length_map, h.1], fun i e he => ?_⟩
  obtain ⟨g, hg, hr⟩ := (iff_get.mp h).2 i e he
  exact ⟨φ g, by rw [List.getElem?_map, hg]; rfl, hr.trans (hφ g)⟩

theorem origin (h : OthersAfter s l l') {g : Entry} (hg : g ∈ l') :
    ∃ e ∈ l, ReleaseOnly s e g := by
  obtain ⟨i, hi⟩ := List.mem_iff_getElem?.mp hg
  have hlt : i < l.length := by
    rw [← h.1]; exact (List.getElem?_eq_some_iff.mp hi).1
  obtain ⟨g', hg', hr⟩ := (iff_get.mp h).2 i l[i] (List.getElem?_eq_getElem hlt)
  rw [hi] at hg'
  exact ⟨l[i], List.getElem_mem hlt, Option.some.inj hg' ▸ hr⟩

theorem append {m m' : List Entry} (h : OthersAfter s l l') (k : OthersAfter s m m') :
    OthersAfter s (l ++ m) (l' ++ m') := by
  refine iff_get.mpr ⟨by rw [List.length_append, List.length_append, h.1, k.1], fun i e he => ?_⟩
  by_cases hi : i < l.length
  · rw [List.getElem?_append_left hi] at he
    rw [List.getElem?_append_left (by rw [h.1]; exact hi)]
    exact (iff_get.mp h).2 i e he
  · rw [List.getElem?_append_right (by omega)] at he
    rw [List.getElem?_append_right (by rw [h.1]; omega), h.1]
    exact (iff_get.mp k).2 _ e he

/-- At a node that starts no release pulse the other entries stand. -/
theorem eq_of_not (h : OthersAfter s l l') (hn : ∀ x, ¬ s.releaseReady x) : l' = l := by
  refine List.ext_getElem? fun i => ?_
  cases he : l[i]? with
  | none =>
    rw [List.getElem?_eq_none_iff] at he ⊢
    rw [h.1]; exact he
  | some e =>
    obtain ⟨g, hg, hr, -⟩ := (iff_get.mp h).2 i e he
    rw [hg, hr (hn _)]

end OthersAfter

/-! ### The matched entry -/

theorem Unique.ne_of_split {front back : List Entry} {e : Entry} (h : Unique (front ++ e :: back)) :
    ∀ g ∈ front ++ back, g.record.sheet ≠ e.record.sheet := by
  intro g hg he
  rw [Unique, List.map_append, List.map_cons, List.nodup_append] at h
  obtain ⟨-, hb, hd⟩ := h
  obtain hg | hg := List.mem_append.mp hg
  · exact hd _ (List.mem_map_of_mem hg) _ List.mem_cons_self he
  · exact (List.nodup_cons.mp hb).1 (he ▸ List.mem_map_of_mem (f := fun e : Entry => e.record.sheet) hg)

/-- In `u` the table holds the entry `f` between what an edge of `s` leaves of `front` and of `back`, in
which the sheet of `f` does not stand. -/
structure Tracks (s : State) (front back : List Entry) (u : State) (f : Entry) : Prop where
  split : ∃ ahead behind, u.track.table = ahead ++ f :: behind ∧ OthersAfter s front ahead ∧
    OthersAfter s back behind
  fresh : ∀ g ∈ front ++ back, g.record.sheet ≠ f.record.sheet

namespace Tracks

variable {s u : State} {front back : List Entry} {f : Entry}

theorem start (ht : u.track.table = front ++ f :: back)
    (fresh : ∀ g ∈ front ++ back, g.record.sheet ≠ f.record.sheet) : Tracks s front back u f :=
  ⟨⟨front, back, ht, .refl s front, .refl s back⟩, fresh⟩

/-- With distinct sheet IDs an entry of the table is followed from its own place. -/
theorem of_unique (hu : sheetsUnique s) (ht : s.track.table = front ++ f :: back) :
    Tracks s front back s f :=
  .start ht (Unique.ne_of_split (ht ▸ hu))

theorem of_table {v : State} (h : Tracks s front back u f) (ht : v.track.table = u.track.table) :
    Tracks s front back v f := ⟨ht ▸ h.split, h.fresh⟩

theorem keeps {v : State} (h : Tracks s front back u f) (k : KeepsHoldings u v) :
    Tracks s front back v f := h.of_table k.table

theorem entryOf (h : Tracks s front back u f) : u.entryOf f.record.sheet = some f := by
  obtain ⟨ahead, behind, ht, ha, -⟩ := h.split
  have hn : ahead.find? (fun e => e.record.sheet == f.record.sheet) = none := by
    refine List.find?_eq_none.mpr fun g hg hs => ?_
    obtain ⟨e, he, hr⟩ := ha.origin hg
    exact h.fresh e (List.mem_append_left _ he) (hr.sheet ▸ beq_iff_eq.mp hs)
  rw [State.entryOf, ht, List.find?_append, hn, List.find?_cons_of_pos (by simp)]
  rfl

/-- The matched entry is rewritten. -/
theorem mapEntry (h : Tracks s front back u f) (φ : Entry → Entry)
    (hs : (φ f).record.sheet = f.record.sheet) :
    Tracks s front back (u.mapEntry f.record.sheet φ) (φ f) := by
  obtain ⟨ahead, behind, ht, ha, hb⟩ := h.split
  have hstay : ∀ l l' : List Entry, OthersAfter s l l' → (∀ g ∈ l, g.record.sheet ≠ f.record.sheet) →
      l'.map (fun e => if e.record.sheet == f.record.sheet then φ e else e) = l' := by
    intro l l' ho hne
    refine (List.map_congr_left fun g hg => ?_).trans (List.map_id' l')
    obtain ⟨e, he, hr⟩ := ho.origin hg
    rw [if_neg (by simpa [hr.sheet] using hne e he)]
  refine ⟨⟨ahead, behind, ?_, ha, hb⟩, by rw [hs]; exact h.fresh⟩
  show List.map _ u.track.table = _
  rw [ht, List.map_append, List.map_cons, if_pos (by simp),
    hstay _ _ ha fun g hg => h.fresh g (List.mem_append_left _ hg),
    hstay _ _ hb fun g hg => h.fresh g (List.mem_append_right _ hg)]

/-- Another entry is rewritten as a release rewrites it. -/
theorem mapOther (h : Tracks s front back u f) {x : Nat} (hx : x ≠ f.record.sheet)
    (hr : s.releaseReady x) (φ : SheetRecord → SheetRecord)
    (hφ : ∀ r, φ r = { r with
      released := (φ r).released, side1 := (φ r).side1, side2 := (φ r).side2 }) :
    Tracks s front back (u.mapEntry x fun e => e.mapRecord φ) f := by
  obtain ⟨ahead, behind, ht, ha, hb⟩ := h.split
  have hrel : ∀ g, ReleaseOnly s g (if g.record.sheet == x then g.mapRecord φ else g) := fun g => by
    split
    · next he =>
      refine ⟨fun hn => absurd (beq_iff_eq.mp he ▸ hr) hn, ?_⟩
      show { g with record := φ g.record } = { g with record := { g.record with
        released := (φ g.record).released, side1 := (φ g.record).side1, side2 := (φ g.record).side2 } }
      rw [← hφ g.record]
    · exact ReleaseOnly.refl s g
  refine ⟨⟨_, _, ?_, ha.map hrel, hb.map hrel⟩, h.fresh⟩
  show List.map _ u.track.table = _
  rw [ht, List.map_append, List.map_cons, if_neg (by simpa using Ne.symm hx)]

end Tracks

/-! ### The image rule and a release on the matched entry -/

/-- The entry as the image rule leaves it (R20). -/
def State.imagedEntry (s : State) (e : Entry) : Entry :=
  if s.cfg.kind = some .image ∧ e.record.released = true ∧ s.cfg.imageStation.num ≤ e.lead ∧
      e.record.currentState = some .blank then { e with record := e.record.toned } else e

theorem State.imagedEntry_sheet (s : State) (e : Entry) :
    (s.imagedEntry e).record.sheet = e.record.sheet := by
  unfold State.imagedEntry; split
  · show e.record.toned.sheet = _
    rw [e.record.toned_keeps]
  · rfl

theorem State.releasedEntry_congr {s t : State} (h : t.cfg = s.cfg) :
    t.releasedEntry = s.releasedEntry := by
  funext e; simp only [State.releasedEntry, h]

theorem State.imagedEntry_congr {s t : State} (h : t.cfg = s.cfg) :
    t.imagedEntry = s.imagedEntry := by
  funext e; simp only [State.imagedEntry, h]

/-- The image rule, by the entry of the sheet (R20). -/
theorem State.imageRule_eq {s : State} {sheet : Nat} {e : Entry} (h : s.entryOf sheet = some e) :
    s.imageRule sheet = if s.cfg.kind = some .image ∧ e.record.released = true ∧
        s.cfg.imageStation.num ≤ e.lead ∧ e.record.currentState = some .blank
      then (s.mapEntry sheet fun e => e.mapRecord SheetRecord.toned).haltAheadTest else s := by
  have hf : (fun r : SheetRecord => r.setCurrent .unfixed) = SheetRecord.toned :=
    funext SheetRecord.setCurrent_toned
  rw [State.imageRule, h]
  simp only [State.isKind, Bool.and_eq_true, beq_iff_eq, decide_eq_true_eq, and_assoc, hf]

theorem Tracks.imageRule {s u : State} {front back : List Entry} {f : Entry}
    (h : Tracks s front back u f) :
    Tracks s front back (u.imageRule f.record.sheet) (u.imagedEntry f) := by
  rw [State.imageRule_eq h.entryOf, State.imagedEntry]
  split
  · exact (h.mapEntry (fun e => e.mapRecord SheetRecord.toned) (by
      show f.record.toned.sheet = _; rw [f.record.toned_keeps])).keeps (State.haltAheadTest_keeps _)
  · exact h

/-- The image rule on another sheet, which a release pulse has just released. -/
theorem Tracks.imageRule_other {s u : State} {front back : List Entry} {f : Entry} {x : Nat}
    (h : Tracks s front back u f) (hx : x ≠ f.record.sheet) (hr : s.releaseReady x) :
    Tracks s front back (u.imageRule x) f := by
  cases he : u.entryOf x with
  | none => rw [State.imageRule, he]; exact h
  | some e =>
    rw [State.imageRule_eq he]
    split
    · exact (h.mapOther hx hr SheetRecord.toned fun r => by rw [r.toned_keeps]).keeps
        (State.haltAheadTest_keeps _)
    · exact h

theorem Tracks.releaseSheet {s u : State} {front back : List Entry} {f : Entry}
    (h : Tracks s front back u f) (hk : u.cfg.kind = some .image) :
    Tracks s front back (u.releaseSheet f.record.sheet) (u.releasedEntry f) := by
  have h' := (h.mapEntry (fun e => e.mapRecord SheetRecord.release) rfl).imageRule
  have he : State.imagedEntry (u.mapEntry f.record.sheet fun e => e.mapRecord SheetRecord.release)
      (f.mapRecord SheetRecord.release) = u.releasedEntry f := by
    rw [State.imagedEntry_congr (t := u.mapEntry _ _) (s := u) rfl]
    by_cases hb : u.cfg.imageStation.num ≤ f.lead ∧ f.record.currentState = some .blank
    · rw [State.imagedEntry, if_pos ⟨hk, rfl, hb.1, hb.2⟩, State.releasedEntry, if_pos hb]
      show { f with record := f.record.release.toned } = _
      rw [f.record.release_toned]
    · rw [State.imagedEntry, if_neg (fun hn => hb ⟨hn.2.2.1, hn.2.2.2⟩), State.releasedEntry, if_neg hb]
      rfl
  rw [he] at h'
  exact h'

theorem Tracks.releaseSheet_other {s u : State} {front back : List Entry} {f : Entry} {x : Nat}
    (h : Tracks s front back u f) (hx : x ≠ f.record.sheet) (hr : s.releaseReady x) :
    Tracks s front back (u.releaseSheet x) f :=
  (h.mapOther hx hr SheetRecord.release fun _ => rfl).imageRule_other hx hr

end Sys2Proof.Machine
end

section
/-! SUPPORT. The pulse triggers of an edge on the matched entry (R95, R99), and the image rule behind them
(R20). -/

namespace Sys2Proof.Machine

/-! ### What a trigger releases -/

/-- A trigger of output `p` with delay `a` starts a release pulse of the sheet at once (R96, R99). -/
def State.startsRelease (s : State) (p : PulseId) (a sheet : Nat) : Prop :=
  s.cfg.kind = some .image ∧ (s.pulseCfg p).qualifier = .release ∧ (s.pulse p).active = none ∧
  (((s.pulse p).delay = none ∧ a = 0) ∨
    ∃ d, (s.pulse p).delay = some d ∧ d.target ≤ d.tracker ∧ d.sheet = sheet)

theorem State.releasesAt_iff {s : State} {p : PulseId} {k : StationId} {edge : TriggerEdge}
    {r : SheetRecord} : s.releasesAt p k edge r ↔
      (s.triggered p k edge r ∧ s.stop.path.moves = true) ∧
        s.startsRelease p (s.constantsFor p r).1 r.sheet := by
  have ha : (s.constantsFor p r).1 = if r.media.val ≤ 1 then (s.pulseCfg p).a1 else (s.pulseCfg p).a2 := by
    unfold State.constantsFor pulseConstants; split <;> rfl
  rw [State.releasesAt, State.startsRelease, ha, PathState.moves_iff_mem]
  tauto

namespace Tracks

variable {s u : State} {front back : List Entry} {f : Entry}

/-- A pulse start releases the matched sheet, another whose release pulse was to start, or none. -/
theorem startPulse (h : Tracks s front back u f) (p : PulseId) (d : PulseDelay)
    (hd : u.cfg.kind = some .image → (u.pulseCfg p).qualifier = .release → d.sheet ≠ f.record.sheet →
      s.releaseReady d.sheet) :
    Tracks s front back (u.startPulse p d)
      (if u.cfg.kind = some .image ∧ (u.pulseCfg p).qualifier = .release ∧ d.sheet = f.record.sheet
        then u.releasedEntry f else f) := by
  have h' : Tracks s front back (u.setPulse p ⟨none, some ⟨0, d.width, d.sheet⟩⟩) f := h.of_table rfl
  unfold State.startPulse; dsimp only
  by_cases hk : u.cfg.kind = some .image ∧ (u.pulseCfg p).qualifier = .release
  · rw [if_pos (by simp [State.isKind, hk])]
    by_cases hs : d.sheet = f.record.sheet
    · rw [if_pos ⟨hk.1, hk.2, hs⟩]
      have h1 := h'.releaseSheet hk.1
      rw [← hs] at h1
      exact h1
    · rw [if_neg (fun hn => hs hn.2.2)]
      exact h'.releaseSheet_other hs (hd hk.1 hk.2 hs)
  · rw [if_neg (by simpa [State.isKind] using hk), if_neg (fun hn => hk ⟨hn.1, hn.2.1⟩)]
    exact h'

theorem trigger (h : Tracks s front back u f) (hcfg : u.cfg = s.cfg) {p : PulseId}
    (hp : u.pulse p = s.pulse p) (a b : Nat) :
    ∃ f', Tracks s front back (u.trigger p a b f.record.sheet) f' ∧
      (s.startsRelease p a f.record.sheet → f' = s.releasedEntry f) ∧
      (¬ s.startsRelease p a f.record.sheet → f' = f) := by
  have hpc : u.pulseCfg = s.pulseCfg := by funext q; simp only [State.pulseCfg, hcfg]
  have hre := State.releasedEntry_congr hcfg
  cases hd : (s.pulse p).delay with
  | none =>
    rw [State.trigger_free _ _ _ (hp ▸ hd), State.takeTrigger_free _ _ _ (hp ▸ hd), hp]
    by_cases hc : a = 0 ∧ (s.pulse p).active = none
    · rw [if_pos hc]
      have h1 : Tracks s front back
          (u.setPulse p { s.pulse p with delay := some ⟨0, a, b, f.record.sheet⟩ }) f := h.of_table rfl
      refine ⟨_, h1.startPulse p ⟨0, a, b, f.record.sheet⟩ fun _ _ hn => absurd rfl hn,
        fun hs => ?_, fun hs => if_neg fun hn => hs ?_⟩
      · rw [if_pos ⟨by exact hcfg ▸ hs.1, by show (u.pulseCfg p).qualifier = _; rw [hpc]; exact hs.2.1, rfl⟩]
        exact congrFun hre f
      · exact ⟨hcfg ▸ hn.1, hpc ▸ hn.2.1, hc.2, .inl ⟨hd, hc.1⟩⟩
    · rw [if_neg hc]
      refine ⟨f, h.of_table rfl, fun hs => absurd ?_ hc, fun _ => rfl⟩
      obtain ⟨-, -, hact, ⟨-, h0⟩ | ⟨d, hd', -⟩⟩ := hs
      · exact ⟨h0, hact⟩
      · rw [hd] at hd'; cases hd'
  | some d =>
    by_cases hc : d.target ≤ d.tracker ∧ (s.pulse p).active = none
    · rw [State.trigger_complete _ _ _ (hp ▸ hd) hc.1 (hp ▸ hc.2)]
      have h1 := h.startPulse p d fun hk hq _ =>
        ⟨hcfg ▸ hk, p, d, hpc ▸ hq, hc.2, hd, hc.1, rfl⟩
      refine ⟨_, h1.of_table rfl, fun hs => ?_, fun hs => if_neg fun hn => hs ?_⟩
      · obtain ⟨hk, hq, -, ⟨hd', -⟩ | ⟨d', hd', -, hsheet⟩⟩ := hs
        · rw [hd] at hd'; cases hd'
        · rw [hd] at hd'
          obtain rfl := Option.some.inj hd'
          rw [if_pos ⟨hcfg ▸ hk, by rw [hpc]; exact hq, hsheet⟩]
          exact congrFun hre f
      · exact ⟨hcfg ▸ hn.1, hpc ▸ hn.2.1, hc.2, .inr ⟨d, hd, hc.1, hn.2.2⟩⟩
    · rw [State.trigger_waits _ _ _ (hp ▸ hd) (hp ▸ hc)]
      refine ⟨f, h.keeps (State.raise_keeps _ _ _ _), fun hs => absurd ?_ hc, fun _ => rfl⟩
      obtain ⟨-, -, hact, ⟨hd', -⟩ | ⟨d', hd', hle, -⟩⟩ := hs
      · rw [hd] at hd'; cases hd'
      · rw [hd] at hd'
        obtain rfl := Option.some.inj hd'
        exact ⟨hle, hact⟩

/-- The station trigger of an output, for a record that may be older than the entry's (R95). -/
theorem stationTrigger (h : Tracks s front back u f) (hcfg : u.cfg = s.cfg) (hl : Later s u)
    {p : PulseId} (hp : u.stop.path.moves = true → u.pulse p = s.pulse p) (k : StationId)
    (edge : TriggerEdge) {r : SheetRecord} (hr : r.sheet = f.record.sheet) :
    ∃ f', Tracks s front back (u.stationTrigger p k edge r) f' ∧
      (f' = f ∨ (s.releasesAt p k edge r ∧ f' = s.releasedEntry f)) ∧
      (s.releasesAt p k edge r → u.stop.path = s.stop.path → f' = s.releasedEntry f) := by
  have hpc : u.pulseCfg = s.pulseCfg := by funext q; simp only [State.pulseCfg, hcfg]
  have htr : u.triggered p k edge r ↔ s.triggered p k edge r := by
    simp only [State.triggered, hpc]
  by_cases ht : u.triggered p k edge r ∧ u.stop.path.moves = true
  · have hsm : s.stop.path.moves = true := by
      have h1 := (PathState.moves_iff _).mp ht.2
      exact (PathState.moves_iff _).mpr (hl.le.trans_lt h1)
    rw [State.stationTrigger_pos ht.1 ht.2, hr]
    have hconst : u.constantsFor p r = s.constantsFor p r := by
      simp only [State.constantsFor, hpc]
    rw [hconst]
    obtain ⟨f', htr', hyes, hno⟩ := h.trigger hcfg (hp ht.2) (s.constantsFor p r).1 (s.constantsFor p r).2
    have hiff : s.releasesAt p k edge r ↔ s.startsRelease p (s.constantsFor p r).1 f.record.sheet := by
      rw [State.releasesAt_iff, hr]
      exact ⟨And.right, fun hs => ⟨⟨htr.mp ht.1, hsm⟩, hs⟩⟩
    refine ⟨f', htr', ?_, fun hs _ => hyes (hiff.mp hs)⟩
    by_cases hs : s.startsRelease p (s.constantsFor p r).1 f.record.sheet
    · exact .inr ⟨hiff.mpr hs, hyes hs⟩
    · exact .inl (hno hs)
  · rw [State.stationTrigger_neg ht]
    refine ⟨f, h, .inl rfl, fun hs he => absurd ?_ ht⟩
    obtain ⟨⟨h1, h2⟩, -⟩ := State.releasesAt_iff.mp hs
    exact ⟨htr.mpr h1, he ▸ h2⟩

/-- The triggers of both outputs (R95): the matched entry is released where one of them starts its release
pulse, for certain where the path state stands. -/
theorem edgeTriggers (h : Tracks s front back u f) (hcfg : u.cfg = s.cfg) (ho : Onward s u)
    (k : StationId) (edge : TriggerEdge) :
    ∃ f', Tracks s front back (u.edgeTriggers k edge f.record.sheet) f' ∧
      (f' = f ∨ ((∃ p, s.releasesAt p k edge f.record) ∧ f' = s.releasedEntry f)) ∧
      ((∃ p, s.releasesAt p k edge f.record) →
        (u.edgeTriggers k edge f.record.sheet).stop.path = s.stop.path → f' = s.releasedEntry f) := by
  rw [State.edgeTriggers, h.entryOf]
  have hpulse : ∀ p, u.stop.path.moves = true → u.pulse p = s.pulse p := fun p hm =>
    ho.pulse (.inr ((PathState.moves_iff _).mp hm)) p
  obtain ⟨f1, h1, hone, hone'⟩ := h.stationTrigger hcfg ho.later (hpulse .p1) k edge rfl
  have hl1 := u.stationTrigger_later .p1 k edge f.record
  have hs1 : f.record.sheet = f1.record.sheet := by
    obtain e | ⟨-, e⟩ := hone <;> rw [e]
    rw [s.releasedEntry_sheet]
  have hp2 : (u.stationTrigger .p1 k edge f.record).stop.path.moves = true →
      (u.stationTrigger .p1 k edge f.record).pulse .p2 = s.pulse .p2 := fun hm => by
    have hst := (PathState.moves_iff _).mp hm
    rw [u.stationTrigger_other (by decide) k edge f.record (.inr hst)]
    exact hpulse .p2 ((PathState.moves_iff _).mpr (hl1.le.trans_lt hst))
  obtain ⟨f2, h2, htwo, htwo'⟩ := h1.stationTrigger
    ((State.stationTrigger_only _ _ _ _ _).cfg.trans hcfg) (ho.later.trans hl1) hp2 k edge hs1
  refine ⟨f2, h2, ?_, fun ⟨p, hp⟩ hpath => ?_⟩
  · obtain e1 | ⟨r1, e1⟩ := hone <;> obtain e2 | ⟨r2, e2⟩ := htwo
    · exact .inl (e2.trans e1)
    · exact .inr ⟨⟨_, r2⟩, by rw [e2, e1]⟩
    · exact .inr ⟨⟨_, r1⟩, by rw [e2, e1]⟩
    · exact .inr ⟨⟨_, r1⟩, by rw [e2, e1, s.releasedEntry_idem]⟩
  · obtain ⟨hp1, hp2⟩ := (ho.later.trans hl1).mid (State.stationTrigger_later _ .p2 k edge f.record) hpath
    obtain ⟨hp0, -⟩ := ho.later.mid hl1 hp1
    cases p with
    | p1 =>
      have e1 := hone' hp hp0
      obtain e2 | ⟨-, e2⟩ := htwo
      · rw [e2, e1]
      · rw [e2, e1, s.releasedEntry_idem]
    | p2 =>
      have e2 := htwo' hp hp1
      obtain e1 | ⟨-, e1⟩ := hone
      · rw [e2, e1]
      · rw [e2, e1, s.releasedEntry_idem]

end Tracks

/-! ### The record after an edge -/

/-- A release pulse waits for a blank side (R95). -/
theorem State.currentState_of_releasesAt {s : State} {p : PulseId} {k : StationId} {edge : TriggerEdge}
    {r : SheetRecord} (h : s.releasesAt p k edge r) : r.currentState = some .blank := by
  obtain ⟨-, hq, ⟨-, -, hr⟩, -⟩ := h
  obtain hr | ⟨-, -, hr, -⟩ := hr
  · rw [hq] at hr; cases hr
  · exact hr

/-- What the triggers of a trailing edge leave of the matched record. -/
theorem RecordAfter.trailing {s t : State} {k : StationId} {f f' : Entry}
    (h : f' = f ∨ ((∃ p, s.releasesAt p k .trailing f.record) ∧ f' = s.releasedEntry f))
    (h' : (∃ p, s.releasesAt p k .trailing f.record) → t.stop.path = s.stop.path →
      f' = s.releasedEntry f) : RecordAfter s t k .trailing f.lead f.record f'.record := by
  refine ⟨fun hn => ?_, fun he hp => ?_⟩
  · obtain e | ⟨⟨p, hp⟩, -⟩ := h
    · rw [e]; rfl
    · exact absurd hp (hn p)
  · rw [h' he hp]
    obtain ⟨p, hp⟩ := he
    exact s.releasedEntry_blank (State.currentState_of_releasesAt hp)

end Sys2Proof.Machine
end

section
/-! SUPPORT. The gate claim of an edge (R90 to R93), and all that follows a leading edge matched to an entry. -/

namespace Sys2Proof.Machine

/-! ### Gate claims -/

/-- The service of a claim changes the gate alone (R91). -/
theorem State.gateService_track (s : State) : s.gateService.track = s.track := s.gateService_only.track

theorem State.gateFree_iff {s t u : State} (hcfg : u.cfg = s.cfg) (hstop : u.stop = s.stop)
    (hst : t.stations = u.stations) : u.gateFree = true ↔ GateMay s t := by
  have hcov : t.station s.cfg.gateStation = u.station u.cfg.gateStation := by
    simp only [State.station, hst, hcfg]
  rw [GateMay, hcov, ← PathState.moves_iff_mem, State.gateFree, Bool.and_eq_true, hstop, hcfg]
  simp

theorem State.claimFor_alone {u : State} {x : Nat} {pos : GatePos} (h : u.gate.claims = []) :
    u.claimFor x pos = ⟨x, pos, pos == u.gate.pos⟩ := by rw [State.claimFor, h]

theorem State.claimFor_behind {u : State} {x : Nat} {pos : GatePos} {c : Claim} {rest : List Claim}
    (h : u.gate.claims = c :: rest) : u.claimFor x pos = ⟨x, pos, c.set && c.pos == pos⟩ := by
  rw [State.claimFor, h]

/-- A claim that finds fewer than two before it joins their list, and the front one is served (R90, R91). -/
theorem State.makeClaim_joins {u : State} {x : Nat} {e : Entry} {r : Route}
    (he : u.entryOf x = some e) (hr : u.routeFor e.record.leg = some r)
    (htrail : e.trail < u.cfg.gateStation.num) (hfew : u.gate.claims.length < 2) :
    u.makeClaim x =
      ((u.withGate { u.gate with claims := u.gate.claims ++ [u.claimFor x r.gate] }).mapEntry
        x fun e => { e with claimed := r.next }).gateService := by
  rw [State.makeClaim, he]
  dsimp only
  rw [hr]
  dsimp only
  rw [if_neg (by omega), if_neg (by simp only [claimCap]; omega)]

theorem State.makeClaim_full {u : State} {x : Nat} {e : Entry} {r : Route}
    (he : u.entryOf x = some e) (hr : u.routeFor e.record.leg = some r)
    (htrail : e.trail < u.cfg.gateStation.num) (hfull : 2 ≤ u.gate.claims.length) :
    u.makeClaim x = u.raise .gate u.cfg.gateStation.num x := by
  rw [State.makeClaim, he]
  dsimp only
  rw [hr]
  dsimp only
  rw [if_neg (by omega), if_pos (by simp only [claimCap]; omega)]

theorem State.makeClaim_passed {u : State} {x : Nat} {e : Entry} {r : Route}
    (he : u.entryOf x = some e) (hr : u.routeFor e.record.leg = some r)
    (htrail : u.cfg.gateStation.num ≤ e.trail) :
    u.makeClaim x =
      if u.gate.claims.isEmpty && u.gateFree then u.withGate { u.gate with pos := r.gate } else u := by
  rw [State.makeClaim, he]
  dsimp only
  rw [hr]
  dsimp only
  rw [if_pos htrail]

/-- What the service of the front claim leaves of the gate (R91). -/
theorem State.gateService_front {u : State} {c : Claim} {rest : List Claim}
    (h : u.gate.claims = c :: rest) : u.gateService.gate =
      if c.set = true then u.gate
      else if c.pos = u.gate.pos ∨ u.gateFree = true then
        { pos := c.pos, claims := setFront (c :: rest) }
      else u.gate := by
  unfold State.gateService
  rw [h]
  dsimp only
  split
  · rfl
  · split <;> rfl

section
variable {s t u : State} (hcfg : u.cfg = s.cfg) (hstop : u.stop = s.stop) (hgate : u.gate = s.gate)
  (hst : t.stations = u.stations)
include hcfg hstop hgate hst

theorem ClaimMade.of_makeClaim {x : Nat} {e : Entry} {r : Route} (he : u.entryOf x = some e)
    (hr : u.routeFor e.record.leg = some r) (htrail : e.trail < u.cfg.gateStation.num)
    (hfew : u.gate.claims.length < 2) (ht : t.gate = (u.makeClaim x).gate) :
    ClaimMade s t x r.gate := by
  obtain ⟨v, hv⟩ : ∃ v, v = (u.withGate { u.gate with
      claims := u.gate.claims ++ [u.claimFor x r.gate] }).mapEntry x
        fun e => { e with claimed := r.next } := ⟨_, rfl⟩
  rw [State.makeClaim_joins he hr htrail hfew, ← hv] at ht
  have hfree : v.gateFree = true ↔ GateMay s t := by
    rw [← State.gateFree_iff hcfg hstop hst, hv]; rfl
  have hpos : v.gate.pos = s.gate.pos := by rw [hv, ← hgate]; rfl
  have hclaims : v.gate.claims = s.gate.claims ++ [u.claimFor x r.gate] := by
    rw [hv, ← hgate]; rfl
  have hvg : v.gate = { pos := s.gate.pos, claims := s.gate.claims ++ [u.claimFor x r.gate] } := by
    rw [← hpos, ← hclaims]
  cases hc : s.gate.claims with
  | nil =>
    rw [hc, State.claimFor_alone (hgate ▸ hc), hgate] at hvg hclaims
    rw [State.gateService_front hclaims, hvg] at ht
    dsimp only at ht
    have halone : (r.gate = s.gate.pos ∨ GateMay s t →
        t.gate = { pos := r.gate, claims := [⟨x, r.gate, true⟩] }) ∧
        (r.gate ≠ s.gate.pos → ¬ GateMay s t →
          t.gate = { pos := s.gate.pos, claims := [⟨x, r.gate, false⟩] }) := by
      rw [ht, ← hfree]
      by_cases hp : r.gate = s.gate.pos
      · simp [hp]
      · by_cases hf : v.gateFree = true
        · simp [hp, hf, setFront]
        · simp [hp, hf]
    refine ⟨?_, fun _ => halone, fun c hn => ?_, fun c hn => ?_, fun c hn => ?_⟩
    · by_cases hm : r.gate = s.gate.pos ∨ GateMay s t
      · rw [halone.1 hm, hc]; rfl
      · rw [halone.2 (fun h => hm (.inl h)) (fun h => hm (.inr h)), hc]; rfl
    all_goals rw [hc] at hn; cases hn
  | cons c rest =>
    have hrest : rest = [] := by
      rw [hgate, hc, List.length_cons] at hfew
      exact List.length_eq_zero_iff.mp (by omega)
    subst hrest
    rw [hc, State.claimFor_behind (hgate ▸ hc)] at hvg hclaims
    rw [State.gateService_front hclaims, hvg] at ht
    dsimp only at ht
    have hset : c.set = true → t.gate =
        { pos := s.gate.pos, claims := [c, ⟨x, r.gate, c.pos == r.gate⟩] } := fun hs => by
      rw [ht, if_pos hs, hs]; rfl
    have hserved : c.set = false → c.pos = s.gate.pos ∨ GateMay s t →
        t.gate = { pos := c.pos, claims := [{ c with set := true }, ⟨x, r.gate, c.pos == r.gate⟩] } :=
      fun hs hm => by
        rw [ht, if_neg (by simp [hs]), if_pos (by rw [hfree]; exact hm), hs]
        by_cases hp : c.pos = r.gate
        · simp [setFront, hp]
        · simp [setFront, hp, Ne.symm hp]
    have hwaits : c.set = false → c.pos ≠ s.gate.pos → ¬ GateMay s t →
        t.gate = { pos := s.gate.pos, claims := [c, ⟨x, r.gate, false⟩] } := fun hs hp hm => by
      rw [ht, if_neg (by simp [hs]), if_neg (by rw [hfree]; exact fun h => h.elim hp hm), hs]
      rfl
    refine ⟨?_, fun hn => ?_, fun d hd => ?_, fun d hd => ?_, fun d hd => ?_⟩
    · rw [hc]
      by_cases hs : c.set = true
      · rw [hset hs]; rfl
      · have hs' : c.set = false := by simpa using hs
        by_cases hm : c.pos = s.gate.pos ∨ GateMay s t
        · rw [hserved hs' hm]; rfl
        · rw [hwaits hs' (fun h => hm (.inl h)) (fun h => hm (.inr h))]; rfl
    · rw [hc] at hn; cases hn
    all_goals
      rw [hc] at hd
      obtain rfl := (List.cons.inj hd).1
    · exact hset
    · exact hserved
    · exact hwaits

theorem ClaimPassed.of_makeClaim {x : Nat} {e : Entry} {r : Route} (he : u.entryOf x = some e)
    (hr : u.routeFor e.record.leg = some r) (htrail : u.cfg.gateStation.num ≤ e.trail)
    (ht : t.gate = (u.makeClaim x).gate) : ClaimPassed s t r.gate := by
  rw [State.makeClaim_passed he hr htrail] at ht
  have hfree := State.gateFree_iff hcfg hstop hst
  by_cases hm : s.gate.claims = [] ∧ GateMay s t
  · rw [if_pos (by simp [hgate, hm.1, hfree.mpr hm.2])] at ht
    refine ⟨fun _ _ => ?_, fun hn => absurd hm (by tauto)⟩
    rw [ht, State.withGate_gate]
    show (⟨r.gate, u.gate.claims⟩ : GateUnit) = _
    rw [hgate, hm.1]
  · rw [if_neg (by rw [Bool.and_eq_true, hgate, List.isEmpty_iff, hfree]; exact hm)] at ht
    exact ⟨fun h1 h2 => absurd ⟨h1, h2⟩ hm, fun _ => ht.trans hgate⟩

end

/-! ### The claim of the matched entry -/

theorem Tracks.gateService {s u : State} {front back : List Entry} {f : Entry}
    (h : Tracks s front back u f) : Tracks s front back u.gateService f :=
  h.of_table (by rw [u.gateService_track])

/-- A claim writes the claimed segment of the matched entry at most (R90). -/
theorem Tracks.claimAt {s u : State} {front back : List Entry} {f : Entry}
    (h : Tracks s front back u f) (k : StationId) :
    ∃ n, Tracks s front back (u.claimAt k f.record.sheet) { f with claimed := n } ∧
      (u.hasGate = false ∨ u.cfg.gateSet ≠ k → n = f.claimed) ∧
      (∀ r, u.hasGate = true → u.cfg.gateSet = k → u.routeFor f.record.leg = some r →
        (f.trail < u.cfg.gateStation.num → u.gate.claims.length < 2 → n = r.next) ∧
        (f.trail < u.cfg.gateStation.num → 2 ≤ u.gate.claims.length → n = f.claimed) ∧
        (u.cfg.gateStation.num ≤ f.trail → n = f.claimed)) := by
  unfold State.claimAt
  by_cases hk : u.hasGate = true ∧ k = u.cfg.gateSet
  · rw [if_pos (by simp [hk])]
    have hno : ¬ (u.hasGate = false ∨ u.cfg.gateSet ≠ k) := by simp [hk.1, hk.2]
    cases hr : u.routeFor f.record.leg with
    | none =>
      have he : u.makeClaim f.record.sheet = u := by
        rw [State.makeClaim, h.entryOf]; dsimp only; rw [hr]
      rw [he]
      exact ⟨f.claimed, h, fun _ => rfl, fun _ _ _ hn => nomatch hn⟩
    | some r =>
      by_cases htrail : f.trail < u.cfg.gateStation.num
      · by_cases hfew : u.gate.claims.length < 2
        · rw [State.makeClaim_joins h.entryOf hr htrail hfew]
          have h1 : Tracks s front back (u.withGate { u.gate with
              claims := u.gate.claims ++ [u.claimFor f.record.sheet r.gate] }) f := h.of_table rfl
          refine ⟨r.next, (h1.mapEntry (fun e => { e with claimed := r.next }) rfl).gateService,
            fun hn => absurd hn hno, fun r' _ _ hr' => ?_⟩
          obtain rfl := Option.some.inj hr'
          exact ⟨fun _ _ => rfl, fun _ hf => by omega, fun hp => by omega⟩
        · rw [State.makeClaim_full h.entryOf hr htrail (by omega)]
          exact ⟨f.claimed, h.keeps (State.raise_keeps _ _ _ _), fun _ => rfl,
            fun _ _ _ _ => ⟨fun _ hf => absurd hf hfew, fun _ _ => rfl, fun _ => rfl⟩⟩
      · rw [State.makeClaim_passed h.entryOf hr (by omega)]
        refine ⟨f.claimed, h.of_table ?_, fun _ => rfl,
          fun _ _ _ _ => ⟨fun hp => absurd hp htrail, fun _ _ => rfl, fun _ => rfl⟩⟩
        split <;> rfl
  · rw [if_neg (by simpa using hk)]
    exact ⟨f.claimed, h, fun _ => rfl, fun _ hg hs => absurd ⟨hg, hs.symm⟩ hk⟩

end Sys2Proof.Machine
end

section
/-! SUPPORT. All that follows a leading edge matched to an entry (R20, R90, R93, R95). -/

namespace Sys2Proof.Machine

/-! ### The image rule behind the triggers -/

theorem State.imagedEntry_releasedEntry (s : State) (f : Entry) :
    s.imagedEntry (s.releasedEntry f) = s.releasedEntry f := by
  rw [State.imagedEntry, if_neg]
  rintro ⟨-, -, hlead, hblank⟩
  replace hlead : s.cfg.imageStation.num ≤ f.lead := hlead
  have hidem := s.releasedEntry_idem f
  by_cases h : s.cfg.imageStation.num ≤ f.lead ∧ f.record.currentState = some .blank
  · have hr : (s.releasedEntry f).record = f.record.toned.release := if_pos h
    rw [hr] at hblank
    have := f.record.toned_current
    rw [show f.record.toned.release.currentState = f.record.toned.currentState from rfl, this] at hblank
    cases hblank
  · have hr : (s.releasedEntry f).record = f.record.release := if_neg h
    rw [hr] at hblank
    exact h ⟨hlead, hblank⟩

/-- An entry that nothing released, with the image rule at the image station (R20). -/
theorem State.imagedEntry_record {s : State} {k : StationId} {f : Entry} (hlead : f.lead = k.num) :
    (if k = s.cfg.imageStation then s.imagedEntry f else f).record = s.imaged k f.record := by
  by_cases hk : k = s.cfg.imageStation
  · rw [if_pos hk, State.imagedEntry, State.imaged]
    by_cases hc : s.cfg.kind = some .image ∧ f.record.released = true ∧ f.record.currentState = some .blank
    · rw [if_pos ⟨hc.1, hc.2.1, by rw [hlead, hk], hc.2.2⟩, if_pos ⟨hc.1, hk.symm, hc.2.1, hc.2.2⟩]
    · rw [if_neg (fun h => hc ⟨h.1, h.2.1, h.2.2.2⟩), if_neg (fun h => hc ⟨h.1, h.2.2.1, h.2.2.2⟩)]
  · rw [if_neg hk, State.imaged, if_neg (fun h => hk h.2.1.symm)]

theorem Tracks.imageAt {s u : State} {front back : List Entry} {f : Entry}
    (h : Tracks s front back u f) (k : StationId) :
    Tracks s front back (u.imageAt k f.record.sheet)
      (if k = u.cfg.imageStation then u.imagedEntry f else f) := by
  unfold State.imageAt; split
  · exact h.imageRule
  · exact h

/-- What the triggers and the image rule of a leading edge leave of the matched record. -/
theorem RecordAfter.leading {s t : State} {k : StationId} {f f' : Entry} (hlead : f.lead = k.num)
    (h : f' = f ∨ ((∃ p, s.releasesAt p k .leading f.record) ∧ f' = s.releasedEntry f))
    (h' : (∃ p, s.releasesAt p k .leading f.record) → t.stop.path = s.stop.path →
      f' = s.releasedEntry f) : RecordAfter s t k .leading k.num f.record
      (if k = s.cfg.imageStation then s.imagedEntry f' else f').record := by
  refine ⟨fun hn => ?_, fun he hp => ?_⟩
  · obtain rfl | ⟨⟨p, hp⟩, -⟩ := h
    · rw [State.imagedEntry_record hlead]; rfl
    · exact absurd hp (hn p)
  · obtain ⟨p, hrel⟩ := he
    rw [h' ⟨p, hrel⟩ hp, s.imagedEntry_releasedEntry, ite_self, ← hlead]
    exact s.releasedEntry_blank (State.currentState_of_releasesAt hrel)

/-! ### Behind a claim -/

/-- What an edge's triggers and what follows them leave of a stop that stands already. -/
theorem State.afterTriggers_stands {v : State} (h : v.Stopped) (k : StationId) (sheet : Nat) :
    StandsAs v (((v.edgeTriggers k .leading sheet).imageAt k sheet).haltAheadTest.leftTests) := by
  have h1 := State.edgeTriggers_stopped h k .leading sheet
  have h2 := h1.trans (State.imageAt_stopped (h.of_stop h1.stop) k sheet)
  have hs := h.of_stop h2.stop
  rw [State.haltAheadTest_stopped hs, State.leftTests_stopped hs]
  exact h2

theorem StopBegun.stopped {s t : State} {c : Cause} {place sheet : Nat}
    (h : StopBegun s c place sheet t) : t.Stopped := h.path

/-- A state that a leading edge has rewritten no further than its station and its tracks. -/
theorem StandsAs.of_edge {s u : State} (h : changesOnly [.track, .stations] s u) : StandsAs s u :=
  .of_only h

theorem Clear.of_stands {s u : State} (h : Clear s) (k : StandsAs s u) : Clear u :=
  ⟨by rw [k.stop]; exact h.path, by rw [k.stop]; exact h.own, by rw [k.tx]; exact h.room⟩

/-- In RUN a cause that takes effect there begins a stop (R45, R51). -/
theorem Clear.raise {s u : State} {c : Cause} (h : Clear s) (k : StandsAs s u)
    (hc : c.takesEffect .run = true) (place sheet : Nat) :
    StopBegun s c place sheet (u.raise c place sheet) := by
  have hu := h.of_stands k
  exact (State.raise_begins place sheet (by rw [hu.path]; exact hc) (.inl hu.path) hu.own
    hu.room).of_source k

/-- The guard test of a waiting claim fails beyond the gate-set station (R93). -/
theorem State.guardAtEdge_fails {u : State} {x : Nat} {f : Entry} (hf : u.entryOf x = some f)
    (hlead : u.cfg.gateSet.num < f.lead) (hc : ∃ c ∈ u.gate.claims, c.sheet = x ∧ c.set = false) :
    u.guardAtEdge x = u.raise .gate u.cfg.gateStation.num x := by
  obtain ⟨c, hmem, rfl, hset⟩ := hc
  refine if_pos (List.any_eq_true.mpr ⟨c, hmem, ?_⟩)
  have hp : u.guardPassed f = true := by simp [State.guardPassed, hlead]
  rw [State.entryOf] at hf
  simp [State.guardFails, hset, hf, hp]

theorem State.claimAt_elsewhere {u : State} {k : StationId} (h : u.hasGate = false ∨ u.cfg.gateSet ≠ k)
    (sheet : Nat) : u.claimAt k sheet = u := by
  refine if_neg fun hc => ?_
  obtain ⟨hg, hk⟩ := Bool.and_eq_true _ _ ▸ hc
  obtain h | h := h
  · rw [h] at hg; cases hg
  · exact h (beq_iff_eq.mp hk).symm

theorem State.claimAt_here {u : State} {k : StationId} (hg : u.hasGate = true) (hk : u.cfg.gateSet = k)
    (sheet : Nat) : u.claimAt k sheet = u.makeClaim sheet := if_pos (by simp [hg, hk])

/-! ### A leading edge matched -/

/-- What follows a leading edge at station `k` matched to the entry that stands as `f` then, and as `f'`
after it. -/
structure LeadEffects (s : State) (k : StationId) (f f' : Entry) (t : State) : Prop where
  entry : f' = { f with record := f'.record, claimed := f'.claimed }
  sheet : f'.record.sheet = f.record.sheet
  record : RecordAfter s t k .leading k.num f.record f'.record
  unclaimed : s.hasGate = false ∨ s.cfg.gateSet ≠ k → f'.claimed = f.claimed ∧ t.gate = s.gate
  claims : ∀ r, s.hasGate = true → s.cfg.gateSet = k → f.trail < s.cfg.gateStation.num →
    s.routeFor f.record.leg = some r →
    (s.gate.claims.length < 2 → f'.claimed = r.next ∧ ClaimMade s t f.record.sheet r.gate) ∧
    (2 ≤ s.gate.claims.length → Clear s →
      StopBegun s .gate s.cfg.gateStation.num f.record.sheet t)
  passes : ∀ r, s.hasGate = true → s.cfg.gateSet = k → s.cfg.gateStation.num ≤ f.trail →
    s.routeFor f.record.leg = some r → f'.claimed = f.claimed ∧ ClaimPassed s t r.gate
  guard : Clear s → s.cfg.gateSet.num < k.num →
    (∃ c ∈ s.gate.claims, c.sheet = f.record.sheet ∧ c.set = false) →
    StopBegun s .gate s.cfg.gateStation.num f.record.sheet t
  triggers : Triggers s t k .leading f.record
  pulse : Clear s → s.hasGate = false → s.gate.claims = [] → s.triggered .p1 k .leading f.record →
    (∃ d, (s.pulse .p1).delay = some d ∧ (d.tracker < d.target ∨ (s.pulse .p1).active ≠ none)) →
    StopBegun s .pulse 1 f.record.sheet t

theorem State.afterLead_gate (u : State) (k : StationId) (sheet : Nat) :
    (u.afterLead k sheet).gate = (u.claimAt k sheet).gate :=
  (State.leftTests_only _).gate.trans <| (State.haltAheadTest_only _).gate.trans <|
    (State.imageAt_only _ _ _).gate.trans <| (State.edgeTriggers_only _ _ _ _).gate.trans
      (State.guardAtEdge_only _ _).gate

section
variable {s u : State} (hu : changesOnly [.track, .stations] s u)
include hu

theorem State.routeFor_of_edge (leg : Leg) : u.routeFor leg = s.routeFor leg := by
  simp only [State.routeFor, State.legRoute, hu.cfg]

theorem State.hasGate_of_edge : u.hasGate = s.hasGate := by
  simp only [State.hasGate, State.isSink, hu.cfg]

/-- The pulse outputs after a matched leading edge (R95, R96). -/
theorem State.afterLead_triggers {front back : List Entry} {f : Entry} {k : StationId}
    (h : Tracks s front back u f) :
    Triggers s (u.afterLead k f.record.sheet) k .leading f.record := by
  obtain ⟨n, hclaim, -⟩ := h.claimAt k
  have hguard := hclaim.keeps (State.guardAtEdge_keeps _ f.record.sheet)
  have hov : Onward s ((u.claimAt k f.record.sheet).guardAtEdge f.record.sheet) :=
    (Onward.of_only hu).trans <| (u.claimAt_onward k _).trans (State.guardAtEdge_onward _ _)
  have hcv : ((u.claimAt k f.record.sheet).guardAtEdge f.record.sheet).cfg = s.cfg :=
    (State.guardAtEdge_only _ _).cfg.trans ((u.claimAt_only _ _).cfg.trans hu.cfg)
  have htail : ∀ w : State, Onward w ((w.imageAt k f.record.sheet).haltAheadTest.leftTests) := fun w =>
    (w.imageAt_onward k _).trans <| (State.haltAheadTest_onward _).trans (State.leftTests_onward _)
  refine .of_pulseAfter fun hp p => ?_
  obtain ⟨he1, he2⟩ := (hov.later.trans (State.edgeTriggers_later _ k .leading f.record.sheet)).mid
    (htail _).later hp
  obtain ⟨he0, he1'⟩ := hov.later.mid (State.edgeTriggers_later _ k .leading f.record.sheet) he1
  have hpulse := State.edgeTriggers_pulse p hguard.entryOf he1'
  exact ((htail _).pulse (.inl he2) p).trans <|
    hpulse.trans (State.pulseAfter_congr hcv he0 (hov.pulse (.inl he0) p))

/-- The matched entry after a leading edge, with its record (R20, R90, R95). -/
theorem State.afterLead_tracks {front back : List Entry} {f : Entry} {k : StationId}
    (h : Tracks s front back u f) (hlead : f.lead = k.num) :
    ∃ f' n, Tracks s front back (u.afterLead k f.record.sheet) f' ∧
      f' = { f with record := f'.record, claimed := n } ∧ f'.record.sheet = f.record.sheet ∧
      RecordAfter s (u.afterLead k f.record.sheet) k .leading k.num f.record f'.record ∧
      (u.hasGate = false ∨ u.cfg.gateSet ≠ k → n = f.claimed) ∧
      (∀ r, u.hasGate = true → u.cfg.gateSet = k → u.routeFor f.record.leg = some r →
        (f.trail < u.cfg.gateStation.num → u.gate.claims.length < 2 → n = r.next) ∧
        (f.trail < u.cfg.gateStation.num → 2 ≤ u.gate.claims.length → n = f.claimed) ∧
        (u.cfg.gateStation.num ≤ f.trail → n = f.claimed)) := by
  obtain ⟨n, hclaim, hno, hyes⟩ := h.claimAt k
  have hguard := hclaim.keeps (State.guardAtEdge_keeps _ f.record.sheet)
  have hov : Onward s ((u.claimAt k f.record.sheet).guardAtEdge f.record.sheet) :=
    (Onward.of_only hu).trans <| (u.claimAt_onward k _).trans (State.guardAtEdge_onward _ _)
  have hcv : ((u.claimAt k f.record.sheet).guardAtEdge f.record.sheet).cfg = s.cfg :=
    (State.guardAtEdge_only _ _).cfg.trans ((u.claimAt_only _ _).cfg.trans hu.cfg)
  obtain ⟨f1, h1, hrel, hrel'⟩ := hguard.edgeTriggers hcv hov k .leading
  have hcw := (State.edgeTriggers_only ((u.claimAt k f.record.sheet).guardAtEdge f.record.sheet) k
    .leading f.record.sheet).cfg.trans hcv
  have hs1 : f1.record.sheet = f.record.sheet := by
    obtain rfl | ⟨-, rfl⟩ := hrel
    · rfl
    · exact s.releasedEntry_sheet _
  have h2 := h1.imageAt k
  rw [hs1] at h2
  have h3 := (h2.keeps (State.haltAheadTest_keeps _)).keeps (State.leftTests_keeps _)
  have hin := State.imagedEntry_congr hcw
  rw [show State.imagedEntry (State.edgeTriggers _ k .leading _) = s.imagedEntry from hin, hcw] at h3
  refine ⟨_, n, h3, ?_, ?_, ?_, hno, hyes⟩
  · obtain rfl | ⟨-, rfl⟩ := hrel
    · unfold State.imagedEntry; split
      · split <;> rfl
      · rfl
    · rw [s.imagedEntry_releasedEntry, ite_self]; rfl
  · split
    · rw [s.imagedEntry_sheet, hs1]
    · exact hs1
  · refine RecordAfter.leading (f := { f with claimed := n }) hlead hrel fun he hp => hrel' he ?_
    exact ((hov.later.trans (State.edgeTriggers_later _ k .leading f.record.sheet)).mid
      ((State.imageAt_onward _ k _).trans <| (State.haltAheadTest_onward _).trans
        (State.leftTests_onward _)).later hp).1

/-- A claim that finds two before it is GATE (R90, case 2). -/
theorem State.afterLead_full {f : Entry} {r : Route} {k : StationId} (hf : u.entryOf f.record.sheet = some f)
    (hg : s.hasGate = true) (hk : s.cfg.gateSet = k) (htrail : f.trail < s.cfg.gateStation.num)
    (hr : s.routeFor f.record.leg = some r) (hfull : 2 ≤ s.gate.claims.length) (hc : Clear s) :
    StopBegun s .gate s.cfg.gateStation.num f.record.sheet (u.afterLead k f.record.sheet) := by
  have hm : u.claimAt k f.record.sheet = u.raise .gate s.cfg.gateStation.num f.record.sheet := by
    rw [State.claimAt_here (by rw [State.hasGate_of_edge hu]; exact hg) (by rw [hu.cfg]; exact hk),
      State.makeClaim_full hf (by rw [State.routeFor_of_edge hu]; exact hr)
        (by rw [hu.cfg]; exact htrail) (by rw [hu.gate]; exact hfull), hu.cfg]
  have hb := hc.raise (.of_edge hu) (c := .gate) rfl s.cfg.gateStation.num f.record.sheet
  rw [State.afterLead, hm, State.guardAtEdge_stopped hb.stopped]
  exact hb.stands (State.afterTriggers_stands hb.stopped _ _)

/-- A claim that still waits beyond the gate-set station is GATE (R93). -/
theorem State.afterLead_guard {f : Entry} {k : StationId} (hf : u.entryOf f.record.sheet = some f)
    (hlead : f.lead = k.num) (hc : Clear s) (hk : s.cfg.gateSet.num < k.num)
    (hw : ∃ c ∈ s.gate.claims, c.sheet = f.record.sheet ∧ c.set = false) :
    StopBegun s .gate s.cfg.gateStation.num f.record.sheet (u.afterLead k f.record.sheet) := by
  have hne : s.cfg.gateSet ≠ k := fun e => by rw [e] at hk; exact absurd hk (lt_irrefl _)
  have hb := hc.raise (.of_edge hu) (c := .gate) rfl s.cfg.gateStation.num f.record.sheet
  rw [State.afterLead, State.claimAt_elsewhere (.inr (by rw [hu.cfg]; exact hne)),
    State.guardAtEdge_fails hf (by rw [hu.cfg, hlead]; exact hk) (by rw [hu.gate]; exact hw), hu.cfg]
  exact hb.stands (State.afterTriggers_stands hb.stopped _ _)

/-- A trigger on a delay that still runs, or waits for a width, is PULSE (R96). -/
theorem State.afterLead_pulse {f : Entry} {k : StationId} (hf : u.entryOf f.record.sheet = some f)
    (hc : Clear s) (hg : s.hasGate = false) (hcl : s.gate.claims = [])
    (ht : s.triggered .p1 k .leading f.record)
    (hd : ∃ d, (s.pulse .p1).delay = some d ∧ (d.tracker < d.target ∨ (s.pulse .p1).active ≠ none)) :
    StopBegun s .pulse 1 f.record.sheet (u.afterLead k f.record.sheet) := by
  obtain ⟨d, hd, hw⟩ := hd
  have hguard : u.guardAtEdge f.record.sheet = u := by
    rw [State.guardAtEdge, hu.gate, hcl]; rfl
  have hpc : u.pulseCfg = s.pulseCfg := by funext q; simp only [State.pulseCfg, hu.cfg]
  have hp : u.pulse .p1 = s.pulse .p1 := by simp only [State.pulse, hu.pulses]
  have ht1 : u.stationTrigger .p1 k .leading f.record = u.raise .pulse 1 f.record.sheet := by
    rw [State.stationTrigger_pos (by simpa only [State.triggered, hpc] using ht)
      (by rw [hu.stop, hc.path]; rfl)]
    refine State.trigger_waits _ _ _ (by rw [hp]; exact hd) fun hn => ?_
    rw [hp] at hn
    obtain hw | hw := hw
    · omega
    · exact hw hn.2
  have hb := hc.raise (.of_edge hu) (c := .pulse) rfl 1 f.record.sheet
  rw [State.afterLead, State.claimAt_elsewhere (.inl (by rw [State.hasGate_of_edge hu]; exact hg)),
    hguard, State.edgeTriggers, hf]
  dsimp only
  rw [ht1]
  have hs1 := State.stationTrigger_stopped hb.stopped .p2 k .leading f.record
  have hs2 := hb.stopped.of_stop hs1.stop
  have hi := State.imageAt_stopped hs2 k f.record.sheet
  have hs3 := hs2.of_stop hi.stop
  rw [State.haltAheadTest_stopped hs3, State.leftTests_stopped hs3]
  exact hb.stands (hs1.trans hi)

theorem State.afterLead_effects {front back : List Entry} {f : Entry} {k : StationId}
    (h : Tracks s front back u f) (hlead : f.lead = k.num) :
    ∃ f', Tracks s front back (u.afterLead k f.record.sheet) f' ∧
      LeadEffects s k f f' (u.afterLead k f.record.sheet) := by
  obtain ⟨f', n, h', hentry, hsheet, hrec, hno, hyes⟩ := State.afterLead_tracks hu h hlead
  have hn : f'.claimed = n := by rw [hentry]
  have hgate := u.afterLead_gate k f.record.sheet
  have hstations : (u.afterLead k f.record.sheet).stations = u.stations :=
    (u.afterLead_only k f.record.sheet).stations
  rw [State.hasGate_of_edge hu, hu.cfg] at hno
  rw [State.hasGate_of_edge hu, hu.cfg, hu.gate] at hyes
  refine ⟨f', h', hentry.trans (by rw [hn]), hsheet, hrec, fun hg => ⟨hn.trans (hno hg), ?_⟩,
    fun r hg hk htrail hr => ⟨fun hfew => ⟨?_, ?_⟩, fun hfull hc => ?_⟩,
    fun r hg hk htrail hr => ⟨?_, ?_⟩, fun hc hk hw => ?_, State.afterLead_triggers hu h,
    fun hc hg hcl ht hd => ?_⟩
  · rw [hgate, State.claimAt_elsewhere (by rw [State.hasGate_of_edge hu, hu.cfg]; exact hg), hu.gate]
  · rw [hn]
    exact (hyes r hg hk (by rw [State.routeFor_of_edge hu]; exact hr)).1 htrail hfew
  · rw [State.claimAt_here (by rw [State.hasGate_of_edge hu]; exact hg) (by rw [hu.cfg]; exact hk)] at hgate
    exact ClaimMade.of_makeClaim hu.cfg hu.stop hu.gate hstations h.entryOf
      (by rw [State.routeFor_of_edge hu]; exact hr) (by rw [hu.cfg]; exact htrail)
      (by rw [hu.gate]; exact hfew) hgate
  · exact State.afterLead_full hu h.entryOf hg hk htrail hr hfull hc
  · rw [hn]
    exact (hyes r hg hk (by rw [State.routeFor_of_edge hu]; exact hr)).2.2 htrail
  · rw [State.claimAt_here (by rw [State.hasGate_of_edge hu]; exact hg) (by rw [hu.cfg]; exact hk)] at hgate
    exact ClaimPassed.of_makeClaim hu.cfg hu.stop hu.gate hstations h.entryOf
      (by rw [State.routeFor_of_edge hu]; exact hr) (by rw [hu.cfg]; exact htrail) hgate
  · exact State.afterLead_guard hu h.entryOf hlead hc hk hw
  · exact State.afterLead_pulse hu h.entryOf hc hg hcl ht hd

end

end Sys2Proof.Machine
end

section
/-! SUPPORT and the proofs of LeadingEdgeAtS1 and LeadingEdgeBeyondS1: the arrival queue and the orphan record
through an edge, and the station that the edge covers. -/

namespace Sys2Proof.Machine

/-! ### The arrival queue and the orphan record -/

/-- The arrival queue, the orphan record and the pace tracker stand. -/
structure KeepsQueue (s t : State) : Prop where
  arrivals : t.track.arrivals = s.track.arrivals
  orphan : t.track.orphan = s.track.orphan
  pace : t.feed.pace = s.feed.pace

namespace KeepsQueue

theorem refl (s : State) : KeepsQueue s s := ⟨rfl, rfl, rfl⟩

theorem trans {s t u : State} (h : KeepsQueue s t) (k : KeepsQueue t u) : KeepsQueue s u :=
  ⟨k.arrivals.trans h.arrivals, k.orphan.trans h.orphan, k.pace.trans h.pace⟩

theorem of_only {l : List Part} {s t : State} (h : changesOnly l s t) (ht : .track ∉ l := by decide)
    (hf : .feed ∉ l := by decide) : KeepsQueue s t :=
  ⟨by rw [h.track ht], by rw [h.track ht], by rw [h.feed hf]⟩

theorem of_keeps {s t : State} (h : KeepsHoldings s t) : KeepsQueue s t :=
  ⟨h.arrivals, h.orphan, h.pace⟩

theorem mapEntry (s : State) (x : Nat) (f : Entry → Entry) : KeepsQueue s (s.mapEntry x f) :=
  ⟨rfl, rfl, rfl⟩

end KeepsQueue

theorem State.makeClaim_queue (s : State) (x : Nat) : KeepsQueue s (s.makeClaim x) := by
  unfold State.makeClaim; split
  · exact .refl s
  · split
    · exact .refl s
    · split
      · split
        · exact .of_only (s.withGate_only _)
        · exact .refl s
      · split
        · exact .of_keeps (s.raise_keeps _ _ _)
        · exact (KeepsQueue.of_only (s.withGate_only _)).trans <|
            (KeepsQueue.mapEntry _ _ _).trans (.of_only (State.gateService_only _))

theorem State.claimAt_queue (s : State) (k : StationId) (x : Nat) : KeepsQueue s (s.claimAt k x) := by
  unfold State.claimAt; split
  · exact s.makeClaim_queue x
  · exact .refl s

theorem State.imageRule_queue (s : State) (x : Nat) : KeepsQueue s (s.imageRule x) := by
  unfold State.imageRule; split
  · exact .refl s
  · split
    · exact (KeepsQueue.mapEntry s _ _).trans (.of_keeps (State.haltAheadTest_keeps _))
    · exact .refl s

theorem State.imageAt_queue (s : State) (k : StationId) (x : Nat) : KeepsQueue s (s.imageAt k x) := by
  unfold State.imageAt; split
  · exact s.imageRule_queue x
  · exact .refl s

theorem State.startPulse_queue (s : State) (p : PulseId) (d : PulseDelay) :
    KeepsQueue s (s.startPulse p d) := by
  have h : KeepsQueue s (s.setPulse p ⟨none, some ⟨0, d.width, d.sheet⟩⟩) :=
    .of_only (s.setPulse_only _ _)
  unfold State.startPulse; dsimp only; split
  · exact h.trans <| (KeepsQueue.mapEntry _ _ _).trans (State.imageRule_queue _ _)
  · exact h

theorem State.completeDelay_queue (s : State) (p : PulseId) : KeepsQueue s (s.completeDelay p) := by
  unfold State.completeDelay; split
  · split
    · exact s.startPulse_queue p _
    · exact .refl s
  · exact .refl s

theorem State.takeTrigger_queue (s : State) (p : PulseId) (a b x : Nat) :
    KeepsQueue s (s.takeTrigger p a b x) := by
  unfold State.takeTrigger; split
  · exact .of_keeps (State.raise_keeps _ _ _ _)
  · exact (KeepsQueue.of_only (s.setPulse_only _ _)).trans (State.completeDelay_queue _ _)

theorem State.trigger_queue (s : State) (p : PulseId) (a b x : Nat) :
    KeepsQueue s (s.trigger p a b x) :=
  (s.completeDelay_queue p).trans (State.takeTrigger_queue _ _ _ _ _)

theorem State.stationTrigger_queue (s : State) (p : PulseId) (k : StationId) (edge : TriggerEdge)
    (r : SheetRecord) : KeepsQueue s (s.stationTrigger p k edge r) := by
  unfold State.stationTrigger; dsimp only; split
  · exact s.trigger_queue p _ _ _
  · exact .refl s

theorem State.edgeTriggers_queue (s : State) (k : StationId) (edge : TriggerEdge) (x : Nat) :
    KeepsQueue s (s.edgeTriggers k edge x) := by
  unfold State.edgeTriggers; split
  · exact .refl s
  · exact (s.stationTrigger_queue _ _ _ _).trans (State.stationTrigger_queue _ _ _ _ _)

theorem State.afterLead_queue (s : State) (k : StationId) (x : Nat) : KeepsQueue s (s.afterLead k x) :=
  (s.claimAt_queue k x).trans <| (KeepsQueue.of_keeps (State.guardAtEdge_keeps _ _)).trans <|
    (State.edgeTriggers_queue _ _ _ _).trans <| (State.imageAt_queue _ _ _).trans <|
      .of_keeps ((State.haltAheadTest_keeps _).trans (State.leftTests_keeps _))

/-! ### The station of an edge -/

theorem State.station_setStation (s : State) (k : StationId) (x : Station) :
    (s.setStation k x).station k = x := by cases k <;> rfl

theorem State.station_setStation_ne (s : State) {j k : StationId} (x : Station) (h : j ≠ k) :
    (s.setStation k x).station j = s.station j := by
  cases j <;> cases k <;> first | rfl | exact absurd rfl h

/-- A leading edge with its gap, where the gap is not below the least (R31, R42). -/
theorem State.takeEdge_leading {s : State} {k : StationId} {still : Bool} (hraw : s.rawCovered k = true)
    (hgap : s.cfg.gapMin ≤ (s.station k).gapTracker) :
    s.takeEdge k still =
      (s.setStation k ((s.station k).cover still)).matchLead s.stop.path k := by
  rw [State.takeEdge, if_pos hraw, State.leadingEdge, State.gapTest, if_neg]
  exact Nat.not_lt.mpr hgap

section
variable {s : State} {k : StationId} {still : Bool} (hraw : s.rawCovered k = true)
  (hgap : s.cfg.gapMin ≤ (s.station k).gapTracker)
include hraw hgap

theorem State.station_takeEdge_leading : (s.takeEdge k still).station k = (s.station k).cover still := by
  rw [State.takeEdge_leading hraw hgap, State.station, (State.matchLead_only _ _ _).stations]
  exact s.station_setStation k _

theorem State.station_takeEdge_leading_ne {j : StationId} (h : j ≠ k) :
    (s.takeEdge k still).station j = s.station j := by
  rw [State.takeEdge_leading hraw hgap, State.station, (State.matchLead_only _ _ _).stations]
  exact s.station_setStation_ne _ h

end

/-! ### What a leading edge at S1 finds -/

theorem s1Match_front {table : List Entry} (hroom : table.length < 8) {a : Arrival} {rest : List Arrival}
    (ha : a.record.sheet ∉ table.map fun e => e.record.sheet) (dups : List Arrival)
    (hd : ∀ d ∈ dups, d.record.sheet ∈ table.map fun e => e.record.sheet) :
    s1Match table (dups ++ a :: rest) = .matched a rest := by
  have hin : ∀ x : Nat, (table.any fun e => e.record.sheet == x) = true ↔
      x ∈ table.map fun e => e.record.sheet := fun x => by simp
  induction dups with
  | nil =>
    rw [List.nil_append, s1Match, if_neg (by simp only [tableCap]; omega), if_neg]
    rw [hin]; exact ha
  | cons d dups ih =>
    rw [List.cons_append, s1Match, if_neg (by simp only [tableCap]; omega),
      if_pos ((hin _).mpr (hd d List.mem_cons_self))]
    exact ih fun x hx => hd x (List.mem_cons_of_mem _ hx)

theorem s1Match_none {table : List Entry} (hroom : table.length < 8) (l : List Arrival)
    (hd : ∀ d ∈ l, d.record.sheet ∈ table.map fun e => e.record.sheet) : s1Match table l = .empty := by
  induction l with
  | nil => rfl
  | cons d l ih =>
    rw [s1Match, if_neg (by simp only [tableCap]; omega), if_pos (by simpa using hd d List.mem_cons_self)]
    exact ih fun x hx => hd x (List.mem_cons_of_mem _ hx)

theorem s1Match_atCap {table : List Entry} (h : 8 ≤ table.length) (a : Arrival) (rest : List Arrival) :
    s1Match table (a :: rest) = .full a (a :: rest) := by
  rw [s1Match, if_pos (by exact h)]

/-- A held orphan keeps the node from having drained (R71). -/
theorem State.leftTests_orphan {s : State} {h : Nat} (ho : s.track.orphan = some h) :
    changesOnly [.zones, .chain] s s.leftTests := by
  have hd : s.drainTest = s := if_neg fun hn => by simp [State.drained, ho] at hn
  have hi : s.idleFallTest = s := if_neg fun hn => by rw [ho] at hn; exact nomatch hn.2.2.2.2
  rw [State.leftTests, hd, hi]
  exact s.feedTest_only

theorem State.newEntry_record (s : State) (r : SheetRecord) (sender distance : Nat) :
    (s.newEntry r sender distance).record = r := rfl

theorem OthersAfter.nil {s : State} {l : List Entry} (h : OthersAfter s [] l) : l = [] :=
  List.length_eq_zero_iff.mp h.1

/-! ### A leading edge at S1 -/

section
variable {s u : State} (hu : changesOnly [.stations] s u)
include hu

/-- A leading edge at S1 that finds an arrival entry (R14): it takes the entry into the table, and what
follows is that of a leading edge matched to the new entry. -/
theorem State.leadS1_matched {a : Arrival} {rest : List Arrival} (p : PathState)
    (hm : s1Match s.track.table s.track.arrivals = .matched a rest)
    (hfresh : a.record.sheet ∉ s.track.table.map fun e => e.record.sheet) :
    (u.leadS1 p).track.arrivals = rest ∧ (u.leadS1 p).track.orphan = s.track.orphan ∧
    ∃ f', Tracks s s.track.table [] (u.leadS1 p) f' ∧
      LeadEffects s .s1 (s.newEntry a.record a.sender 0) f' (u.leadS1 p) := by
  have hut : u.track = s.track := hu.track
  have hlast : u.lastStation = s.lastStation := by
    simp only [State.lastStation, State.present, State.stationCfg, hu.cfg]
  have hnew : u.newEntry a.record a.sender 0 = s.newEntry a.record a.sender 0 := by
    rw [State.newEntry, State.newEntry, hlast]
  obtain ⟨v, hv⟩ : ∃ v, v = u.withTrack { s.track with
      table := s.track.table ++ [s.newEntry a.record a.sender 0], arrivals := rest } := ⟨_, rfl⟩
  have he : u.leadS1 p = v.afterLead .s1 a.record.sheet := by
    rw [← hut] at hm
    rw [State.leadS1, hm, hv, ← hut, ← hnew]
  have hvs : changesOnly [.track, .stations] s v :=
    (hu.mono (by decide)).trans (hv ▸ (u.withTrack_only _).mono (by decide))
  have htr : Tracks s s.track.table [] v (s.newEntry a.record a.sender 0) := by
    refine .start (by rw [hv]; rfl) fun g hg hs => ?_
    rw [List.append_nil] at hg
    exact hfresh (hs ▸ List.mem_map_of_mem (f := fun e : Entry => e.record.sheet) hg)
  have hq := v.afterLead_queue .s1 a.record.sheet
  have hvq : v.track.arrivals = rest ∧ v.track.orphan = s.track.orphan := by rw [hv]; exact ⟨rfl, rfl⟩
  have hE := State.afterLead_effects hvs (k := .s1) htr rfl
  rw [State.newEntry_record] at hE
  rw [he]
  exact ⟨hq.arrivals.trans hvq.1, hq.orphan.trans hvq.2, hE⟩

/-- A leading edge at S1 that finds no arrival entry (R14): STRAY in IDLE, and otherwise an orphan. -/
theorem State.leadS1_empty {p : PathState} (hm : s1Match s.track.table s.track.arrivals = .empty) :
    (s.stop.path = .idle → u.leadS1 p = (u.withArrivals []).raise .stray 1 0) ∧
    (s.stop.path ≠ .idle → u.leadS1 p =
      (u.withTrack { s.track with arrivals := [], orphan := some 0 }).discardTests s.track.arrivals) := by
  rw [State.leadS1, hu.track, hm]
  exact ⟨fun h => if_pos (by rw [hu.stop]; exact h), fun h => if_neg (by rw [hu.stop]; exact h)⟩

/-- An edge at S1 that finds no arrival entry in IDLE begins a stop (R14). -/
theorem State.leadS1_stray {p : PathState} (hm : s1Match s.track.table s.track.arrivals = .empty)
    (hp : s.stop.path = .idle) (hown : s.stop.own = none) (hroom : s.line.tx.length ≤ 14) :
    StopBegun s .stray 1 0 (u.leadS1 p) := by
  have hs : StandsAs s (u.withArrivals []) :=
    (StandsAs.of_only hu).trans (.of_only (u.withArrivals_only _))
  rw [(State.leadS1_empty hu hm).1 hp]
  exact (State.raise_begins 1 0 (by rw [hs.stop, hp]; rfl) (.inr (by rw [hs.stop, hp]))
    (by rw [hs.stop]; exact hown) (by rw [hs.tx]; exact hroom)).of_source hs

/-- An edge at S1 that finds no arrival entry outside IDLE makes an orphan record, and the stop stands. -/
theorem State.leadS1_orphan {p : PathState} (hm : s1Match s.track.table s.track.arrivals = .empty)
    (hp : s.stop.path ≠ .idle) :
    (u.leadS1 p).track = { s.track with arrivals := [], orphan := some 0 } ∧
      (u.leadS1 p).stop = s.stop := by
  rw [(State.leadS1_empty hu hm).2 hp, State.discardTests]
  split
  · exact ⟨rfl, hu.stop⟩
  · have h := State.leftTests_orphan (s := u.withTrack { s.track with arrivals := [], orphan := some 0 })
      (h := 0) rfl
    exact ⟨h.track, h.stop.trans hu.stop⟩

theorem State.leadS1_full {p : PathState} {a : Arrival} {rest : List Arrival}
    (harr : s.track.arrivals = a :: rest) (hfull : 8 ≤ s.track.table.length) (hc : Clear s)
    (hp : p = s.stop.path) :
    StopBegun s .queue 1 a.record.sheet (u.leadS1 p) ∧ KeepsHoldings (u.withArrivals (a :: rest)) (u.leadS1 p) := by
  have hs : StandsAs s (u.withArrivals (a :: rest)) :=
    (StandsAs.of_only hu).trans (.of_only (u.withArrivals_only _))
  have he : u.leadS1 p = (u.withArrivals (a :: rest)).raise .queue 1 a.record.sheet := by
    rw [State.leadS1, hu.track, harr, s1Match_atCap hfull, hp, ← hs.stop]
    exact State.raiseFrom_first _ _ _ _
  rw [he]
  exact ⟨hc.raise hs rfl _ _, State.raise_keeps _ _ _ _⟩

end

/-- The notices are no part of a begun stop. -/
theorem StopBegun.noted {s t : State} {c : Cause} {place sheet : Nat} (h : StopBegun s c place sheet t)
    (n : Vector NoticeState 12) : StopBegun s c place sheet (t.withNotices n) := { h with }

theorem StopJoined.noted {s t : State} {c : Cause} {place sheet : Nat} (h : StopJoined s c place sheet t)
    (n : Vector NoticeState 12) : StopJoined s c place sheet (t.withNotices n) := { h with }

theorem ClaimMade.noted {s t : State} {sheet : Nat} {pos : GatePos} (h : ClaimMade s t sheet pos)
    (n : Vector NoticeState 12) : ClaimMade s (t.withNotices n) sheet pos := { h with }

/-- Settles O25: the five cases of what the edge finds in the queue, the matched one by what follows a
leading edge matched to the new entry. -/
theorem leadingEdgeAtS1 : Obligations.LeadingEdgeAtS1 := by
  intro still s hdue hraw hgap
  obtain ⟨n, hn⟩ := exec_edgeCommand hdue
  have hst := State.station_takeEdge_leading (still := still) hraw hgap
  have hstne := fun k => State.station_takeEdge_leading_ne (still := still) hraw hgap (j := k)
  have hu : changesOnly [.stations] s (s.setStation .s1 ((s.station .s1).cover still)) :=
    s.setStation_only _ _
  have hedge : s.takeEdge .s1 still = State.leadS1 _ s.stop.path :=
    State.takeEdge_leading (still := still) hraw hgap
  have hmatched := fun a rest => State.leadS1_matched hu (a := a) (rest := rest) s.stop.path
  have hstray := State.leadS1_stray hu (p := s.stop.path)
  have horphan := State.leadS1_orphan hu (p := s.stop.path)
  have hfull := fun a rest => State.leadS1_full hu (a := a) (rest := rest) (p := s.stop.path)
  have hkeeps : s1Match s.track.table s.track.arrivals = .empty → s.stop.path = .idle →
      (s.takeEdge .s1 still).track.table = s.track.table ∧ (s.takeEdge .s1 still).track.arrivals = [] := by
    intro hm hp
    rw [hedge, (State.leadS1_empty hu hm).1 hp]
    have hk := State.raise_keeps
      ((s.setStation .s1 ((s.station .s1).cover still)).withArrivals []) .stray 1 0
    exact ⟨hk.table, hk.arrivals⟩
  rw [← hedge] at hmatched hstray horphan hfull
  generalize s.takeEdge .s1 still = t at *
  refine ⟨_, hn, hst, hstne, ?_, ?_, ?_, ?_, ?_⟩
  · intro dups a rest harr hroom hdups hfresh
    obtain ⟨ha, ho, f', htr, E⟩ := hmatched a rest (by rw [harr]; exact s1Match_front hroom hfresh dups hdups)
      hfresh
    obtain ⟨others, behind, htab, hothers, hb⟩ := htr.split
    rw [hb.nil] at htab
    refine ⟨ha, ho, others, f', htab, hothers, E.sheet, E.record, by rw [E.entry]; rfl,
      by rw [E.entry]; rfl, by rw [E.entry]; rfl, by rw [E.entry]; rfl, by rw [E.entry]; rfl,
      by rw [E.entry]; rfl, by rw [E.entry]; rfl, fun hg => (E.unclaimed (.inl hg)).1,
      by rw [E.entry]; rfl, E.unclaimed, fun r hg hk hr => ?_, E.triggers⟩
    have hpos : (s.newEntry a.record a.sender 0).trail < s.cfg.gateStation.num := by
      show 0 < s.cfg.gateStation.num
      cases s.cfg.gateStation <;> decide
    obtain ⟨hmade, hstop⟩ := E.claims r hg hk hpos hr
    exact ⟨fun hfew => ⟨(hmade hfew).1, (hmade hfew).2.noted n⟩, fun h2 hc => (hstop h2 hc).noted n⟩
  · intro hroom hdups
    have hm := s1Match_none hroom _ fun a ha => hdups a ha
    by_cases hp : s.stop.path = .idle
    · obtain ⟨h1, h2⟩ := hkeeps hm hp
      exact ⟨h2, h1, fun hn => absurd hp hn, fun _ hown htx => (hstray hm hp hown htx).noted n⟩
    · obtain ⟨htrack, hstop⟩ := horphan hm hp
      exact ⟨by rw [State.withNotices_track, htrack], by rw [State.withNotices_track, htrack],
        fun _ => ⟨by rw [State.withNotices_track, htrack], hstop⟩, fun h => absurd h hp⟩
  · intro harr hp
    obtain ⟨htrack, hstop⟩ := horphan (by rw [harr]; rfl) hp
    rw [← harr] at htrack
    exact ⟨htrack, hstop⟩
  · intro harr hp hown htx
    have hm : s1Match s.track.table s.track.arrivals = .empty := by rw [harr]; rfl
    exact ⟨(hstray hm hp hown htx).noted n, (hkeeps hm hp).1⟩
  · intro a rest harr h8 hc
    obtain ⟨hb, hk⟩ := hfull a rest harr h8 hc rfl
    exact ⟨hb.noted n, hk.table, hk.arrivals.trans harr.symm⟩

end Sys2Proof.Machine
end

section
/-! SUPPORT and the proof of LeadingEdgeBeyondS1: the entry that the edge moves, and STRAY without one. -/

namespace Sys2Proof.Machine

/-- The first entry that meets a condition is the one that a search for it finds. -/
theorem FirstIn.find? {α : Type} {p : α → Prop} {q : α → Bool} (hpq : ∀ x, q x = true ↔ p x)
    {l front back : List α} {x : α} (h : FirstIn p l front x back) : l.find? q = some x := by
  rw [h.split, List.find?_append, List.find?_cons_of_pos ((hpq x).mpr h.meets),
    List.find?_eq_none.mpr fun y hy hq => h.first y hy ((hpq y).mp hq)]
  rfl

theorem leadAt_eq (k : StationId) {l front back : List Entry} {e : Entry}
    (h : FirstIn (fun e : Entry => e.lead + 1 = k.num) l front e back) : leadAt k.num l = some e :=
  h.find? fun x => by simp

theorem leadAt_none (k : StationId) {l : List Entry} (h : ∀ e ∈ l, e.lead + 1 ≠ k.num) :
    leadAt k.num l = none :=
  List.find?_eq_none.mpr fun e he hq => h e he (by simpa using hq)

/-- An entry whose leading edge has come to station `k` (R15). -/
def State.ledTo (s : State) (k : StationId) (e : Entry) : Entry :=
  { e with
    lead := k.num, leadTracker := 0
    passTracker := if s.lastStation = k.num then some 0 else e.passTracker }

theorem State.matchLead_beyond (s : State) (p : PathState) {k : StationId} (h : k ≠ .s1) :
    s.matchLead p k = s.leadBeyond k := by
  cases k with
  | s1 => exact absurd rfl h
  | s2 | s3 | s4 => rfl

section
variable {s u : State} (hu : changesOnly [.stations] s u)
include hu

theorem State.leadBeyond_matched {k : StationId} {front back : List Entry} {e : Entry}
    (hs : sheetsUnique s) (hf : FirstIn (fun e : Entry => e.lead + 1 = k.num) s.track.table front e back) :
    KeepsQueue s (u.leadBeyond k) ∧ ∃ f', Tracks s front back (u.leadBeyond k) f' ∧
      LeadEffects s k (s.ledTo k e) f' (u.leadBeyond k) := by
  have hlast : u.lastStation = s.lastStation := by
    simp only [State.lastStation, State.present, State.stationCfg, hu.cfg]
  obtain ⟨v, hv⟩ : ∃ v, v = u.mapEntry e.record.sheet (s.ledTo k) := ⟨_, rfl⟩
  have he : u.leadBeyond k = v.afterLead k e.record.sheet := by
    rw [State.leadBeyond, hu.track, leadAt_eq k hf, hv]
    simp only [hlast]
    rfl
  have htr : Tracks s front back v (s.ledTo k e) := by
    rw [hv]
    exact ((Tracks.of_unique hs hf.split).of_table (by rw [hu.track])).mapEntry _ rfl
  have hvs : changesOnly [.track, .stations] s v :=
    (hu.mono (by decide)).trans (hv ▸ (u.mapEntry_only _ _).mono (by decide))
  have hq : KeepsQueue s v := (KeepsQueue.of_only hu).trans (hv ▸ .mapEntry _ _ _)
  have hE := State.afterLead_effects hvs htr rfl
  rw [he]
  exact ⟨hq.trans (v.afterLead_queue k _), hE⟩

/-- With no entry to match the edge is STRAY (R15). -/
theorem State.leadBeyond_stray {k : StationId} (h : ∀ e ∈ s.track.table, e.lead + 1 ≠ k.num) :
    u.leadBeyond k = u.raise .stray k.num 0 := by
  rw [State.leadBeyond, hu.track, leadAt_none k h]

end

/-- Settles O26: the entry matched by what follows a leading edge, and STRAY by the path state. -/
theorem leadingEdgeBeyondS1 : Obligations.LeadingEdgeBeyondS1 := by
  intro k still s hk hdue hraw hgap
  obtain ⟨n, hn⟩ := exec_edgeCommand hdue
  have hst := State.station_takeEdge_leading (still := still) hraw hgap
  have hu : changesOnly [.stations] s (s.setStation k ((s.station k).cover still)) :=
    s.setStation_only _ _
  have hedge : s.takeEdge k still = State.leadBeyond _ k :=
    (State.takeEdge_leading hraw hgap).trans (State.matchLead_beyond _ _ hk)
  have hstray := State.leadBeyond_stray hu (k := k)
  have hmatched := fun front e back hs => State.leadBeyond_matched hu (k := k) (front := front) (e := e)
    (back := back) hs
  generalize s.setStation k ((s.station k).cover still) = u at *
  have hsu : StandsAs s u := .of_only hu
  rw [← hedge] at hstray hmatched
  have hkeeps : (∀ e ∈ s.track.table, e.lead + 1 ≠ k.num) →
      (s.takeEdge k still).track.table = s.track.table := fun hnone => by
    rw [hstray hnone, (State.raise_keeps _ _ _ _).table, hu.track]
  clear hedge
  generalize s.takeEdge k still = t at *
  refine ⟨fun front e back hs hf => ?_, fun hnone hp hown htx => ?_, fun hnone hp htx => ?_,
    fun hnone hp => ?_⟩
  · obtain ⟨hq, f, htr, E⟩ := hmatched front e back hs hf
    obtain ⟨ahead, behind, htab, ha, hb⟩ := htr.split
    have hcov : (t.withNotices n).station k = (s.station k).cover still := hst
    refine ⟨_, f, ahead, behind, hn, htab, ha, hb, by rw [hcov]; rfl, by rw [hcov]; rfl,
      by rw [hcov]; rfl, by rw [hcov]; rfl, by rw [E.entry]; rfl, by rw [E.entry]; rfl,
      by rw [E.entry]; rfl, by rw [E.entry]; rfl, by rw [E.entry]; rfl, E.sheet, E.record,
      by rw [E.entry]; rfl, hq.arrivals, hq.orphan, E.unclaimed, fun r hg hset htrail hr => ?_,
      fun r hg hset htrail hr => ?_, fun hc hlt hw => (E.guard hc hlt hw).noted n, E.triggers,
      fun hc hg hcl ht hd => (E.pulse hc hg hcl ht hd).noted n⟩
    · obtain ⟨hmade, hstop⟩ := E.claims r hg hset htrail hr
      exact ⟨fun hfew => ⟨(hmade hfew).1, (hmade hfew).2.noted n⟩, fun h2 hc => (hstop h2 hc).noted n⟩
    · obtain ⟨hclaimed, hpassed⟩ := E.passes r hg hset htrail hr
      exact ⟨hclaimed, hpassed⟩
  · have hb : StopBegun u .stray k.num 0 t := by
      rw [hstray hnone]
      exact State.raise_begins _ _ (by rw [hu.stop]; obtain hp | hp := hp <;> rw [hp] <;> rfl)
        (by rw [hu.stop]; exact hp) (by rw [hu.stop]; exact hown) (by rw [hu.line]; exact htx)
    exact ⟨_, hn, (hb.of_source hsu).noted n, hkeeps hnone⟩
  · have hj := State.raise_joins (s := u) (c := .stray) k.num 0 (by rw [hu.stop, hp]; rfl)
      (by rw [hu.stop]; exact hp) (by rw [hu.line]; exact htx)
    rw [← hstray hnone] at hj
    exact ⟨_, hn, (hj.1.of_source hu.cfg hu.stop).noted n, hj.2, hkeeps hnone⟩
  · have hd : t = u := by
      rw [hstray hnone]
      refine State.raise_dropped _ _ _ _ ?_
      rw [hu.stop]
      simp only [List.mem_cons, List.not_mem_nil, or_false] at hp
      obtain hp | hp | hp | hp := hp <;> rw [hp] <;> rfl
    have hcov : (t.withNotices n).station k = (s.station k).cover still := hst
    refine ⟨_, hn, by rw [hcov]; rfl, ?_, ?_⟩
    · show t.stop = _; rw [hd, hu.stop]
    · show t.track = _; rw [hd, hu.track]

end Sys2Proof.Machine
end

section
/-! SUPPORT and the proof of PassPointAnnouncesTheSheet: an entry rewritten or removed at its place, and the
frame that announces it. -/

namespace Sys2Proof.Machine

/-! ### An entry at its place -/

/-- With distinct sheet IDs the entry of a sheet is rewritten at its place. -/
theorem State.mapEntry_at {s : State} {front back : List Entry} {e : Entry} (φ : Entry → Entry)
    (hu : Unique s.track.table) (h : s.track.table = front ++ e :: back) :
    s.mapEntry e.record.sheet φ = s.withTable (front ++ φ e :: back) := by
  have hne := Unique.ne_of_split (h ▸ hu)
  have hstay : ∀ l : List Entry, (∀ g ∈ l, g.record.sheet ≠ e.record.sheet) →
      l.map (fun g => if g.record.sheet == e.record.sheet then φ g else g) = l := fun l hl =>
    (List.map_congr_left fun g hg => if_neg (by simpa using hl g hg)).trans (List.map_id' l)
  rw [State.mapEntry, h, List.map_append, List.map_cons, if_pos (by simp),
    hstay front fun g hg => hne g (List.mem_append_left _ hg),
    hstay back fun g hg => hne g (List.mem_append_right _ hg)]

theorem eraseP_at {front back : List Entry} {e : Entry}
    (hne : ∀ g ∈ front ++ back, g.record.sheet ≠ e.record.sheet) :
    (front ++ e :: back).eraseP (fun g => g.record.sheet == e.record.sheet) = front ++ back := by
  rw [List.eraseP_append_right _ fun g hg => by simpa using hne g (List.mem_append_left _ hg),
    List.eraseP_cons_of_pos (by simp)]

theorem State.removeEntry_track (s : State) (sheet : Nat) :
    (s.removeEntry sheet).track.table = s.track.table.eraseP fun e => e.record.sheet == sheet := by
  rw [State.removeEntry, (State.leftTests_keeps _).table, (State.leaveClaim_only _ _).track]
  rfl

/-- An entry's end adds frames at most. -/
theorem State.removeEntry_line (s : State) (sheet : Nat) :
    (∃ more, (s.removeEntry sheet).line.tx = s.line.tx ++ more) ∧
      (s.line.txOverflow = true → (s.removeEntry sheet).line.txOverflow = true) := by
  have hk := State.leftTests_keeps ((s.withTable (s.track.table.eraseP fun e =>
    e.record.sheet == sheet)).leaveClaim sheet)
  have hl : ((s.withTable (s.track.table.eraseP fun e => e.record.sheet == sheet)).leaveClaim sheet).line =
    s.line := (State.leaveClaim_only _ _).line
  have htx := hk.tx
  have hover := hk.overflow
  rw [hl] at htx hover
  exact ⟨htx, hover⟩

theorem State.removeEntry_stopped {s : State} (h : s.Stopped) (sheet : Nat) :
    StandsAs s (s.removeEntry sheet) := by
  have h1 := (StandsAs.of_only (s.withTable_only (s.track.table.eraseP fun e =>
    e.record.sheet == sheet))).trans (.of_only (State.leaveClaim_only _ sheet))
  rw [State.removeEntry, State.leftTests_stopped (h.of_stop h1.stop)]
  exact h1

/-- An entry that is handed on: it becomes HANDED, or leaves with its trailing edge past Sn (R17). -/
theorem State.handOn_eq {s : State} {e : Entry} (h : s.entryOf e.record.sheet = some e) :
    s.handOn e.record.sheet = if e.trail < s.lastStation then
      s.mapEntry e.record.sheet fun e => { e with passSent := true, loc := .handed, passHold := .clear }
      else s.removeEntry e.record.sheet := by
  rw [State.handOn, h]

theorem State.handOn_line {s : State} {e : Entry} (h : s.entryOf e.record.sheet = some e) :
    (∃ more, (s.handOn e.record.sheet).line.tx = s.line.tx ++ more) ∧
      (s.line.txOverflow = true → (s.handOn e.record.sheet).line.txOverflow = true) := by
  rw [State.handOn_eq h]; split
  · exact ⟨⟨[], (List.append_nil _).symm⟩, id⟩
  · exact s.removeEntry_line _

theorem State.handOn_stopped {s : State} {e : Entry} (hs : s.Stopped)
    (h : s.entryOf e.record.sheet = some e) : StandsAs s (s.handOn e.record.sheet) := by
  rw [State.handOn_eq h]; split
  · exact .of_only (s.mapEntry_only _ _)
  · exact State.removeEntry_stopped hs _

/-! ### The PASS -/

theorem State.passFrame_eq (s : State) (e : Entry) : s.passFrame e = s.passOf e := rfl

/-- A PASS is placed with fewer than 14 frames queued (R180). -/
theorem State.queueFrame_pass_open {s : State} {p : PathState} {f : Frame} (hk : f.kind = .pass)
    (h : s.line.tx.length < 14) : s.queueFrame p f = s.push f := by
  rw [State.queueFrame, if_pos]
  simpa [hk, LineUnit.open, FrameKind.cls, txOpenCap] using h

theorem State.queueFrame_pass_full {s : State} {p : PathState} {f : Frame} (hk : f.kind = .pass)
    (h : 14 ≤ s.line.tx.length) : s.queueFrame p f = s.loseFrame.raiseFrom p .line 2 0 := by
  rw [State.queueFrame, if_neg]
  simpa [hk, LineUnit.open, FrameKind.cls, txOpenCap] using h

/-- The table after a PASS of an entry at its place (R17). -/
theorem State.sendPass_table {s : State} {p : PathState} {front back : List Entry} {e : Entry}
    (hu : Unique s.track.table) (h : s.track.table = front ++ e :: back) :
    (s.sendPass p e).track.table = if e.trail < s.lastStation then
      front ++ { e with passSent := true, loc := .handed, passHold := .clear } :: back
      else front ++ back := by
  have hk := s.queueFrame_keeps p (s.passFrame e)
  rw [State.sendPass]
  generalize s.queueFrame p (s.passFrame e) = q at *
  have hq : q.track.table = front ++ e :: back := hk.table.trans h
  have huq : Unique q.track.table := by rw [hk.table]; exact hu
  have hlast : q.lastStation = s.lastStation := by
    simp only [State.lastStation, State.present, State.stationCfg, hk.only.cfg]
  rw [State.handOn_eq (State.entryOf_of_mem huq (by rw [hq]; simp)), hlast]
  split
  · rw [State.mapEntry_at _ huq hq]; rfl
  · rw [State.removeEntry_track, hq, eraseP_at (Unique.ne_of_split (hq ▸ huq))]

theorem State.sendPass_open {s : State} {p : PathState} {e : Entry}
    (he : s.entryOf e.record.sheet = some e) (h : s.line.tx.length < 14) :
    ∃ more, (s.sendPass p e).line.tx = s.line.tx ++ s.passOf e :: more := by
  rw [State.sendPass, s.passFrame_eq, State.queueFrame_pass_open rfl h]
  obtain ⟨more, hm⟩ := (State.handOn_line (s := s.push (s.passOf e)) he).1
  refine ⟨more, hm.trans ?_⟩
  show (s.line.tx ++ [s.passOf e]) ++ more = _
  rw [List.append_assoc]; rfl

/-- A PASS without a place is lost with LINE (R181). -/
theorem State.sendPass_full {s : State} {e : Entry} (he : s.entryOf e.record.sheet = some e)
    (h : 14 ≤ s.line.tx.length) :
    (s.sendPass s.stop.path e).line.txOverflow = true ∧
      (Clear s → StopBegun s .line 2 0 (s.sendPass s.stop.path e)) := by
  have hq : s.queueFrame s.stop.path (s.passFrame e) = s.loseFrame.raise .line 2 0 :=
    (State.queueFrame_pass_full rfl h).trans (State.raiseFrom_first s.loseFrame _ _ _)
  have hk := State.raise_keeps s.loseFrame .line 2 0
  have he' : (s.loseFrame.raise .line 2 0).entryOf e.record.sheet = some e := by
    rw [State.entryOf, hk.table]; exact he
  rw [State.sendPass, hq]
  refine ⟨(State.handOn_line he').2 (hk.overflow rfl), fun hc => ?_⟩
  have hb := hc.raise (u := s.loseFrame) ⟨rfl, rfl, rfl, rfl, rfl⟩ (c := .line) rfl 2 0
  exact hb.stands (State.handOn_stopped hb.stopped he')

/-! ### The pass point -/

theorem State.turnHeld_iff {s : State} {e : Entry} : s.turnHeld e = true ↔ TurnHold s e := by
  simp [State.turnHeld, TurnHold, State.isKind, and_assoc]

theorem AtPassPoint.unsent_entry {s : State} {e : Entry} (h : AtPassPoint s e) :
    (s.configured && !s.isSink && e.unsent) = true := by
  simp [h.configured, h.notSink, Entry.unsent, h.transit, h.unsent]

theorem AtPassPoint.due {s : State} {e : Entry} (h : AtPassPoint s e) (hc : e.passHold = .clear) :
    s.passDue e = true := by
  obtain ⟨d, hd, hle⟩ := h.reached
  rw [State.passDue, h.unsent_entry, hc]
  simp [State.atPassPoint, hd, hle]

theorem AtPassPoint.deferredDue {s : State} {e : Entry} (h : AtPassPoint s e) (hc : e.passHold = .due)
    (hh : ¬ TurnHold s e) : s.deferredDue e = true := by
  have hn : s.turnHeld e = false := by
    rw [← Bool.not_eq_true, State.turnHeld_iff]; exact hh
  rw [State.deferredDue, h.unsent_entry, hc, hn]
  rfl

/-- At the pass point, and where a PASS kept back is due, the PASS is sent. -/
theorem exec_sendPass {s : State} {i : Nat} {e : Entry} (hi : s.track.table[i]? = some e)
    (h : AtPassPoint s e) (hh : ¬ TurnHold s e) (hw : e.passHold ≠ .withheld) :
    exec (if e.passHold = .clear then .passPointReached i else .deferredPass i) s =
      done s (s.sendPass s.stop.path e) := by
  have hn : ¬ s.turnHeld e = true := by rw [State.turnHeld_iff]; exact hh
  by_cases hc : e.passHold = .clear
  · rw [if_pos hc]
    show execPassPointReached i s = _
    rw [execPassPointReached, hi]
    dsimp only
    rw [if_pos (h.due hc), State.passPoint, if_neg hn]
  · rw [if_neg hc]
    have hd : e.passHold = .due := by
      cases hp : e.passHold
      · exact absurd hp hc
      · exact absurd hp hw
      · rfl
    show execDeferredPass i s = _
    rw [execDeferredPass, hi]
    dsimp only
    rw [if_pos (h.deferredDue hd hh)]

/-- Settles O32: the turn hold rewrites the entry at its place, and otherwise its PASS is sent. -/
theorem passPointAnnouncesTheSheet : Obligations.PassPointAnnouncesTheSheet := by
  intro s front e back hs ht hat
  have hi : s.track.table[front.length]? = some e := by simp [ht]
  have he : s.entryOf e.record.sheet = some e := State.entryOf_of_mem hs (by simp [ht])
  refine ⟨fun hh hc => ?_, fun hh hw c hcmd => ?_⟩
  · have hx : exec (.passPointReached front.length) s = done s
        (s.mapEntry e.record.sheet fun e => { e with passHold := .withheld }) := by
      show execPassPointReached front.length s = _
      rw [execPassPointReached, hi]
      dsimp only
      rw [if_pos (hat.due hc), State.passPoint, if_pos (State.turnHeld_iff.mpr hh)]
    rw [hx, State.mapEntry_at _ hs ht]
    exact ⟨_, rfl, (latchNew_only _ _).track,
      ((s.withTable_only _).mono (by decide)).trans ((latchNew_only _ _).mono (by decide))⟩
  · obtain ⟨n, hn⟩ := done_eq s (s.sendPass s.stop.path e)
    have htable := State.sendPass_table (p := s.stop.path) hs ht
    have hopen := State.sendPass_open (p := s.stop.path) he
    have hfull := State.sendPass_full he
    refine ⟨(s.sendPass s.stop.path e).withNotices n, (hcmd ▸ exec_sendPass hi hat hh hw).trans hn, fun hlt => ?_, fun hle => ?_,
      hopen, fun h14 => ⟨(hfull h14).1, fun hc => ((hfull h14).2 hc).noted n⟩⟩
    · rw [if_pos hlt] at htable; exact htable
    · rw [if_neg (Nat.not_lt.mpr hle)] at htable; exact htable

end Sys2Proof.Machine
end

section
/-! SUPPORT. The effects of a trailing edge, one lemma each for what they keep: the arrival queue, the way to
rest, the sheets of the gate claims, and the room of the transmit queue. -/

namespace Sys2Proof.Machine

/-! ### The arrival queue and the pace tracker -/

theorem State.withTable_queue (s : State) (l : List Entry) : KeepsQueue s (s.withTable l) :=
  ⟨rfl, rfl, rfl⟩

theorem State.removeEntry_queue (s : State) (x : Nat) : KeepsQueue s (s.removeEntry x) :=
  (s.withTable_queue _).trans <| (KeepsQueue.of_only (State.leaveClaim_only _ _)).trans
    (.of_keeps (State.leftTests_keeps _))

theorem State.handOn_queue (s : State) (x : Nat) : KeepsQueue s (s.handOn x) := by
  unfold State.handOn; split
  · exact .refl s
  · split
    · exact .mapEntry s _ _
    · exact s.removeEntry_queue _

theorem State.measure_queue (s : State) (k : StationId) (still : Bool) (e : Entry) :
    KeepsQueue s (s.measure k still e) := by
  unfold State.measure; dsimp only; split
  · split
    · exact (KeepsQueue.mapEntry s _ _).trans (.of_keeps (State.raise_keeps _ _ _ _))
    · exact .mapEntry s _ _
  · exact .refl s

theorem State.fixRule_queue (s : State) (k : StationId) (x : Nat) : KeepsQueue s (s.fixRule k x) := by
  unfold State.fixRule; split
  · exact (KeepsQueue.mapEntry s _ _).trans (.of_keeps (State.haltAheadTest_keeps _))
  · exact .refl s

theorem State.heldPass_queue (s : State) (p : PathState) (x : Nat) : KeepsQueue s (s.heldPass p x) := by
  unfold State.heldPass; split
  · exact .refl s
  · split
    · exact (KeepsQueue.of_keeps (s.queueFrame_keeps _ _)).trans (State.handOn_queue _ _)
    · exact .refl s

theorem State.turnRule_queue (s : State) (p : PathState) (k : StationId) (x : Nat) :
    KeepsQueue s (s.turnRule p k x) := by
  unfold State.turnRule; split
  · split
    · exact .refl s
    · split
      · exact (KeepsQueue.mapEntry s _ _).trans (State.heldPass_queue _ _ _)
      · exact .refl s
  · exact .refl s

theorem State.announce_queue (s : State) (p : PathState) (a : Announcement) :
    KeepsQueue s (s.announce p a) := by
  unfold State.announce; split
  · exact .of_only (s.withDeliv_only _)
  · exact .of_keeps (s.raiseFrom_keeps _ _ _ _)

theorem State.compileSheet_queue (s : State) (p : PathState) (r : SheetRecord) :
    KeepsQueue s (s.compileSheet p r) := by
  unfold State.compileSheet; split
  · exact .of_keeps (s.raise_keeps _ _ _)
  · exact (KeepsQueue.of_only (s.withDeliv_only _)).trans <|
      (State.announce_queue _ _ _).trans (.of_only (State.stapleTest_only _))

theorem State.takeRecord_queue (s : State) (p : PathState) (r : SheetRecord) :
    KeepsQueue s (s.takeRecord p r) := by
  have hr : ∀ why, KeepsQueue s (s.reject r why) := fun why => .of_only (s.withDeliv_only _)
  unfold State.takeRecord; split
  · exact hr _
  · split
    · exact s.announce_queue _ _
    · split
      · exact hr _
      · split
        · exact hr _
        · exact s.announce_queue _ _
    · split
      · exact hr _
      · split
        · exact hr _
        · exact s.compileSheet_queue _ _
    all_goals exact .refl s

theorem State.atLast_queue (s : State) (p : PathState) (x : Nat) : KeepsQueue s (s.atLast p x) := by
  unfold State.atLast; split
  · exact .refl s
  · split
    · exact (s.takeRecord_queue _ _).trans (State.removeEntry_queue _ _)
    · split
      · exact s.removeEntry_queue _
      · exact .refl s
      · split
        · exact s.removeEntry_queue _
        · exact .refl s

theorem State.endAt_queue (s : State) (p : PathState) (k : StationId) (x : Nat) :
    KeepsQueue s (s.endAt p k x) := by
  unfold State.endAt; split
  · exact s.atLast_queue p x
  · exact .refl s

theorem State.trailMatched_queue (s : State) (k : StationId) (still : Bool) (e : Entry) :
    KeepsQueue s (s.trailMatched k still e) :=
  (KeepsQueue.mapEntry s e.record.sheet _).trans <| (State.measure_queue _ k still e).trans <|
    (State.fixRule_queue _ k e.record.sheet).trans <|
    (KeepsQueue.of_only (State.clearClaim_only _ k e.record.sheet)).trans <|
    (State.edgeTriggers_queue _ k .trailing e.record.sheet).trans <|
    (State.turnRule_queue _ s.stop.path k e.record.sheet).trans <|
    (State.endAt_queue _ s.stop.path k e.record.sheet).trans (by exact ⟨rfl, rfl, rfl⟩)

/-! ### The way to rest -/

theorem State.measure_onward (s : State) (k : StationId) (still : Bool) (e : Entry) :
    Onward s (s.measure k still e) := by
  unfold State.measure; dsimp only; split
  · split
    · exact (s.mapEntry_onward _ _).trans (State.raise_onward _ _ (.inl (by decide)))
    · exact s.mapEntry_onward _ _
  · exact .refl s

theorem State.fixRule_onward (s : State) (k : StationId) (x : Nat) : Onward s (s.fixRule k x) := by
  unfold State.fixRule; split
  · exact (s.mapEntry_onward _ _).trans (State.haltAheadTest_onward _)
  · exact .refl s

theorem State.clearClaim_onward (s : State) (k : StationId) (x : Nat) : Onward s (s.clearClaim k x) :=
  .of_only (s.clearClaim_only k x)

theorem State.removeEntry_onward (s : State) (x : Nat) : Onward s (s.removeEntry x) :=
  (Onward.of_only (s.withTable_only _)).trans <| (Onward.of_only (State.leaveClaim_only _ _)).trans
    (State.leftTests_onward _)

theorem State.handOn_onward (s : State) (x : Nat) : Onward s (s.handOn x) := by
  unfold State.handOn; split
  · exact .refl s
  · split
    · exact s.mapEntry_onward _ _
    · exact s.removeEntry_onward _

theorem State.sendPass_onward (s : State) (p : PathState) (e : Entry) : Onward s (s.sendPass p e) :=
  (s.queueFrame_onward _ _).trans (State.handOn_onward _ _)

theorem State.heldPass_onward (s : State) (p : PathState) (x : Nat) : Onward s (s.heldPass p x) := by
  unfold State.heldPass; split
  · exact .refl s
  · split
    · exact s.sendPass_onward _ _
    · exact .refl s

theorem State.turnRule_onward (s : State) (p : PathState) (k : StationId) (x : Nat) :
    Onward s (s.turnRule p k x) := by
  unfold State.turnRule; split
  · split
    · exact .refl s
    · split
      · exact (s.mapEntry_onward _ _).trans (State.heldPass_onward _ _ _)
      · exact .refl s
  · exact .refl s

theorem State.atLast_onward {s : State} (h : s.isSink = false) (p : PathState) (x : Nat) :
    Onward s (s.atLast p x) := by
  unfold State.atLast; split
  · exact .refl s
  · rw [h]
    rw [if_neg (by decide)]
    split
    · exact s.removeEntry_onward _
    · exact .refl s
    · split
      · exact s.removeEntry_onward _
      · exact .refl s

/-! ### The sheets of the gate claims -/

/-- The sheets that hold a gate claim, in the order of the claims. -/
def State.claimSheets (s : State) : List Nat := s.gate.claims.map Claim.sheet

theorem setFront_sheets (l : List Claim) : (setFront l).map Claim.sheet = l.map Claim.sheet := by
  cases l with
  | nil => rfl
  | cons c rest =>
    rw [setFront, List.map_cons, List.map_map, List.map_cons]
    congr 1
    refine List.map_congr_left fun d _ => ?_
    show Claim.sheet (if _ then _ else _) = _
    split <;> rfl

theorem State.gateService_sheets (s : State) : s.gateService.claimSheets = s.claimSheets := by
  cases hc : s.gate.claims with
  | nil => rw [State.gateService, hc]
  | cons c rest =>
    rw [State.claimSheets, State.gateService_front hc]
    split
    · rfl
    · split
      · rw [setFront_sheets, State.claimSheets, hc]
      · rfl

theorem State.leaveClaim_sheets (s : State) (x : Nat) :
    (s.leaveClaim x).claimSheets = s.claimSheets.filter (· ≠ x) := by
  have hf : (s.gate.claims.filter fun c => c.sheet != x).map Claim.sheet =
      s.claimSheets.filter (· ≠ x) := by
    rw [State.claimSheets, List.filter_map]
    congr 1
    refine List.filter_congr fun c _ => ?_
    by_cases h : c.sheet = x <;> simp [h]
  rw [State.leaveClaim]
  split
  · rw [State.gateService_sheets, ← hf]; rfl
  · next hn =>
    refine (List.filter_eq_self.mpr fun y hy => ?_).symm
    obtain ⟨c, hc, rfl⟩ := List.mem_map.mp hy
    refine decide_eq_true fun he => hn (List.any_eq_true.mpr ⟨c, hc, beq_iff_eq.mpr he⟩)

theorem State.clearClaim_sheets (s : State) (k : StationId) (x : Nat) : (s.clearClaim k x).claimSheets =
    if s.hasGate = true ∧ s.cfg.gateStation.num ≤ k.num then s.claimSheets.filter (· ≠ x)
    else s.claimSheets := by
  rw [State.clearClaim]
  by_cases h : s.hasGate = true ∧ s.cfg.gateStation.num ≤ k.num
  · rw [if_pos (by simpa using h), if_pos h, State.leaveClaim_sheets]
  · rw [if_neg (by simpa using h), if_neg h]

theorem State.gateClears_sheets (s : State) (k : StationId) :
    (s.gateClears k).claimSheets = s.claimSheets := by
  unfold State.gateClears; split
  · exact s.gateService_sheets
  · rfl

/-! ### The room of the transmit queue -/

/-- The frames queued, with the two that the beginning or the joining of a stop queues while none has
begun or the node is in FLUSH. -/
def State.budget (s : State) : Nat := s.line.tx.length + if s.stop.path.stage < 2 then 2 else 0

theorem State.tx_le_budget (s : State) : s.line.tx.length ≤ s.budget := Nat.le_add_right _ _

theorem State.budget_le (s : State) : s.budget ≤ s.line.tx.length + 2 := by
  unfold State.budget; split <;> omega

theorem budget_of_only {l : List Part} {s t : State} (h : changesOnly l s t)
    (hs : .stop ∉ l := by decide) (hl : .line ∉ l := by decide) : t.budget = s.budget := by
  simp only [State.budget, h.stop hs, h.line hl]

theorem State.place_length (s : State) (f : Frame) :
    (s.place f).line.tx.length ≤ s.line.tx.length + 1 := by
  unfold State.place; split
  · exact (List.length_append (as := s.line.tx)).le
  · exact Nat.le_succ _

theorem State.joinSite_length (s : State) (c : Cause) (place sheet : Nat) :
    (s.joinSite c place sheet).line.tx.length ≤ s.line.tx.length + 1 := State.place_length _ _

theorem State.announceStance_length (s : State) (st : Stance) :
    (s.announceStance st).line.tx.length ≤ s.line.tx.length + 1 := by
  unfold State.announceStance; split
  · exact (List.length_append (as := s.line.tx)).le
  · dsimp only; split
    · exact State.joinSite_length _ _ _ _
    · exact Nat.le_succ _

theorem State.enterHalting_length (s : State) :
    s.enterHalting.line.tx.length ≤ s.line.tx.length + 1 := by
  obtain ⟨u, hu⟩ : ∃ u, u = (s.enter .halting).restZones := ⟨_, rfl⟩
  have hl : u.line = s.line := by
    rw [hu]; exact (State.restZones_only _).line.trans (s.enter_only _).line
  rw [State.enterHalting, ← hu, State.haltTest, ← hl]
  split
  · have hd : (u.enter .halted).dropDelays.line = u.line := (u.enter_only _).line
    rw [State.enterHalted, (State.openedAtHalt_only _).line, ← hd]
    exact State.announceStance_length _ _
  · exact u.announceStance_length _

theorem State.enterHalting_stage (s : State) : 2 ≤ s.enterHalting.stop.path.stage := by
  obtain ⟨e, -⟩ | e | e := s.enterHalting_path <;> rw [e] <;> decide

theorem State.enterHalting_budget {s : State} (h : s.stop.path.stage < 2) :
    s.enterHalting.budget + 1 ≤ s.budget := by
  have h1 := s.enterHalting_length
  have h2 := s.enterHalting_stage
  rw [State.budget, State.budget, if_pos h, if_neg (by omega)]
  omega

theorem State.haltAheadTest_budget (s : State) : s.haltAheadTest.budget ≤ s.budget := by
  unfold State.haltAheadTest; split
  · next h => exact (Nat.le_succ _).trans (State.enterHalting_budget (by rw [h.1]; decide))
  · exact le_rfl

/-- A cause that takes effect in RUN and FLUSH alone spends no more than is kept for it. -/
theorem State.raise_budget (s : State) {c : Cause} (place sheet : Nat)
    (hc : c.takesEffect .halting = false) (hi : c.takesEffect .idle = false) :
    (s.raise c place sheet).budget ≤ s.budget := by
  unfold State.raise; split
  · next ht =>
    split
    · next hp => rw [hp, hi] at ht; cases ht
    · next hp =>
      obtain ⟨v, hv, -, -, -, -, hvl, -⟩ := s.startStop_eq c place sheet
      have h1 := State.place_length v.enterHalting
        (v.enterHalting.frame .jamcall (jamcallPayload (s.siteOf c place sheet)))
      have h2 := v.enterHalting_length
      have h3 := v.enterHalting_stage
      have hs : (v.enterHalting.jamcall (s.siteOf c place sheet)).stop = v.enterHalting.stop :=
        (State.jamcall_only _ _).stop
      rw [hv, State.budget, State.budget, hs, if_neg (by omega), hp, if_pos (by decide), ← hvl]
      show (v.enterHalting.place _).line.tx.length + 0 ≤ _
      omega
    · next hp =>
      have hj : (s.joinSite c place sheet).stop.path = .flush := (s.joinSite_path _ _ _).trans hp
      have h1 := State.enterHalting_budget (s := s.joinSite c place sheet) (by rw [hj]; decide)
      have h2 := s.joinSite_length c place sheet
      have h3 : (s.joinSite c place sheet).budget = (s.joinSite c place sheet).line.tx.length + 2 := by
        rw [State.budget, hj, if_pos (by decide)]
      have h4 : s.budget = s.line.tx.length + 2 := by rw [State.budget, hp, if_pos (by decide)]
      rw [State.joinStop, State.afterJoin, if_pos hj]
      omega
    · next hp => rw [hp, hc] at ht; cases ht
    all_goals exact le_rfl
  · exact le_rfl

theorem State.imageRule_budget (s : State) (x : Nat) : (s.imageRule x).budget ≤ s.budget := by
  unfold State.imageRule; split
  · exact le_rfl
  · split
    · exact (State.haltAheadTest_budget _).trans (budget_of_only (s.mapEntry_only _ _)).le
    · exact le_rfl

theorem State.startPulse_budget (s : State) (p : PulseId) (d : PulseDelay) :
    (s.startPulse p d).budget ≤ s.budget := by
  unfold State.startPulse; dsimp only; split
  · exact (State.imageRule_budget _ _).trans <|
      (budget_of_only (State.mapEntry_only _ _ _)).le.trans (budget_of_only (s.setPulse_only _ _)).le
  · exact (budget_of_only (s.setPulse_only _ _)).le

theorem State.completeDelay_budget (s : State) (p : PulseId) :
    (s.completeDelay p).budget ≤ s.budget := by
  unfold State.completeDelay; split
  · split
    · exact s.startPulse_budget p _
    · exact le_rfl
  · exact le_rfl

theorem State.takeTrigger_budget (s : State) (p : PulseId) (a b x : Nat) :
    (s.takeTrigger p a b x).budget ≤ s.budget := by
  unfold State.takeTrigger; split
  · exact s.raise_budget _ _ rfl rfl
  · exact (State.completeDelay_budget _ _).trans (budget_of_only (s.setPulse_only _ _)).le

theorem State.stationTrigger_budget (s : State) (p : PulseId) (k : StationId) (edge : TriggerEdge)
    (r : SheetRecord) : (s.stationTrigger p k edge r).budget ≤ s.budget := by
  unfold State.stationTrigger; dsimp only; split
  · exact (State.takeTrigger_budget _ _ _ _ _).trans (s.completeDelay_budget p)
  · exact le_rfl

theorem State.edgeTriggers_budget (s : State) (k : StationId) (edge : TriggerEdge) (x : Nat) :
    (s.edgeTriggers k edge x).budget ≤ s.budget := by
  unfold State.edgeTriggers; split
  · exact le_rfl
  · exact (State.stationTrigger_budget _ _ _ _ _).trans (s.stationTrigger_budget _ _ _ _)

theorem State.measure_budget (s : State) (k : StationId) (still : Bool) (e : Entry) :
    (s.measure k still e).budget ≤ s.budget := by
  unfold State.measure; dsimp only; split
  · split
    · exact (State.raise_budget _ _ _ rfl rfl).trans (budget_of_only (s.storeLength_only _ _)).le
    · exact (budget_of_only (s.storeLength_only _ _)).le
  · exact le_rfl

theorem State.fixRule_budget (s : State) (k : StationId) (x : Nat) :
    (s.fixRule k x).budget ≤ s.budget := by
  unfold State.fixRule; split
  · exact (State.haltAheadTest_budget _).trans (budget_of_only (s.mapEntry_only _ _)).le
  · exact le_rfl

end Sys2Proof.Machine
end

section
/-! SUPPORT. The entry that a trailing edge is matched to, up to the pulse triggers of the edge (R16, R21, R35,
R92, R95). -/

namespace Sys2Proof.Machine

/-! ### The matched entry, step by step -/

/-- A matched entry whose trailing edge has passed station `k`, with its measurement (R16, R37). -/
def State.trailedTo (s : State) (k : StationId) (still : Bool) (e : Entry) : Entry :=
  { e with
    trail := k.num
    record := { e.record with measured := s.measuredAt k still e.record } }

/-- An entry as the fix rule leaves it at station `k` (R21). -/
def State.fixedAt (s : State) (k : StationId) (e : Entry) : Entry :=
  if s.cfg.kind = some .fix ∧ s.cfg.fixStation = k then
    e.mapRecord fun r => { r with side1 := r.side1.fuse, side2 := r.side2.map SideState.fuse }
  else e

theorem SideState.fuse_eq (x : SideState) : x.fuse = if x = .blank then .blank else .fixed := by
  cases x <;> rfl

theorem State.fixedAt_sheet (s : State) (k : StationId) (e : Entry) :
    (s.fixedAt k e).record.sheet = e.record.sheet := by unfold State.fixedAt; split <;> rfl

theorem State.fixedAt_other {s : State} {k : StationId} (e : Entry)
    (h : ¬ (s.cfg.kind = some .fix ∧ s.cfg.fixStation = k)) : s.fixedAt k e = e := if_neg h

theorem State.lengthDue_iff (s : State) (k : StationId) (still : Bool) : s.lengthDue k still = true ↔
    (s.stationCfg k).lengthCheck = true ∧ still = false ∧ (s.station k).stillBegun = false ∧
      (s.station k).coverCount ≠ 65535 := by
  simp [State.lengthDue, trackerTop, and_assoc]

/-- The measured length, by the state in which the model measures (R35, R37). -/
theorem State.measuredAt_eq {s u : State} {k : StationId} {still : Bool} (hcfg : u.cfg = s.cfg)
    (hc : (u.station k).coverCount = (s.station k).coverCount)
    (hb : (u.station k).stillBegun = (s.station k).stillBegun) (r : SheetRecord) :
    s.measuredAt k still r = if u.lengthDue k still = true then some (u.lengthAt k) else r.measured := by
  have hl : u.lengthAt k = correctedLength (s.station k).coverCount
      (s.zoneCfg (s.stationCfg k).zone).pitch (s.stationCfg k).gain (s.stationCfg k).offset := by
    simp only [State.lengthAt, State.stationCfg, State.zoneCfg, hcfg, hc]
  have hd : u.lengthDue k still = true ↔ (s.stationCfg k).lengthCheck = true ∧ still = false ∧
      (s.station k).stillBegun = false ∧ (s.station k).coverCount ≠ 65535 := by
    rw [State.lengthDue_iff, hb, hc]
    simp only [State.stationCfg, hcfg]
  rw [State.measuredAt]
  by_cases h : u.lengthDue k still = true
  · rw [if_pos h, if_pos (hd.mp h), hl]
  · rw [if_neg h, if_neg fun hn => h (hd.mpr hn)]

namespace Tracks

variable {s u : State} {front back : List Entry} {f e : Entry} {k : StationId} {still : Bool}

theorem measure (h : Tracks s front back u { e with trail := k.num }) (hcfg : u.cfg = s.cfg)
    (hc : (u.station k).coverCount = (s.station k).coverCount)
    (hb : (u.station k).stillBegun = (s.station k).stillBegun) :
    Tracks s front back (u.measure k still e) (s.trailedTo k still e) := by
  have hm := State.measuredAt_eq (still := still) hcfg hc hb e.record
  have hs : Tracks s front back (u.storeLength e.record.sheet (u.lengthAt k))
      { e with trail := k.num, record := { e.record with measured := some (u.lengthAt k) } } :=
    h.mapEntry (fun e => e.mapRecord fun r => { r with measured := some (u.lengthAt k) }) rfl
  unfold State.measure State.trailedTo
  dsimp only
  rw [hm]
  split
  · split
    · exact hs.keeps (State.raise_keeps _ _ _ _)
    · exact hs
  · exact h

theorem fixRule (h : Tracks s front back u f) (hcfg : u.cfg = s.cfg) :
    Tracks s front back (u.fixRule k f.record.sheet) (s.fixedAt k f) := by
  unfold State.fixRule State.fixedAt
  by_cases hf : s.cfg.kind = some .fix ∧ s.cfg.fixStation = k
  · rw [if_pos (by simp [State.isKind, hcfg, hf]), if_pos hf]
    exact (h.mapEntry (fun e => e.mapRecord fun r =>
      { r with side1 := r.side1.fuse, side2 := r.side2.map SideState.fuse }) rfl).keeps
      (State.haltAheadTest_keeps _)
  · have hn : ¬ (u.isKind .fix && k == u.cfg.fixStation) = true := by
      simp only [State.isKind, hcfg, Bool.and_eq_true, beq_iff_eq]
      exact fun hn => hf ⟨hn.1, hn.2.symm⟩
    rw [if_neg hn, if_neg hf]
    exact h

/-- The table without the matched entry. -/
theorem removed (h : Tracks s front back u f) :
    OthersAfter s (front ++ back) (u.track.table.eraseP fun g => g.record.sheet == f.record.sheet) := by
  obtain ⟨ahead, behind, ht, ha, hb⟩ := h.split
  rw [ht, eraseP_at]
  · exact ha.append hb
  · intro g hg
    obtain ⟨x, hx, hr⟩ := (ha.append hb).origin hg
    rw [hr.sheet]
    exact h.fresh x hx

theorem removeEntry (h : Tracks s front back u f) :
    OthersAfter s (front ++ back) (u.removeEntry f.record.sheet).track.table := by
  rw [State.removeEntry_track]
  exact h.removed

end Tracks

/-! ### Up to the triggers -/

/-- The effects of a matched trailing edge ahead of its triggers (R16, R35, R21, R92). -/
def State.beforeTriggers (u : State) (k : StationId) (still : Bool) (e : Entry) : State :=
  (((u.passTrail k e.record.sheet).measure k still e).fixRule k e.record.sheet).clearClaim k
    e.record.sheet

/-- The effects of a matched trailing edge, cut at its triggers. -/
theorem State.trailEffects_eq (u : State) (k : StationId) (still : Bool) (e : Entry) :
    u.trailEffects k still e =
      (((u.beforeTriggers k still e).edgeTriggers k .trailing e.record.sheet).turnRule u.stop.path k
        e.record.sheet).endAt u.stop.path k e.record.sheet := rfl

/-- What a trailing edge at station `k` has done to the entry `e` and its node in `w`, behind its triggers,
where the entry stands as `f`. -/
structure Trailed (s : State) (k : StationId) (still : Bool) (front back : List Entry) (e f : Entry)
    (w : State) : Prop where
  tracks : Tracks s front back w f
  entry : f = { e with trail := k.num, record := f.record }
  sheet : f.record.sheet = e.record.sheet
  measured : f.record.measured = s.measuredAt k still e.record
  plain : ¬ (s.cfg.kind = some .fix ∧ s.cfg.fixStation = k) →
    RecordAfter s w k .trailing e.lead
      { e.record with measured := s.measuredAt k still e.record } f.record
  fixed : s.cfg.kind = some .fix → s.cfg.fixStation = k → f.record = { e.record with
    measured := s.measuredAt k still e.record
    side1 := if e.record.side1 = .blank then .blank else .fixed
    side2 := e.record.side2.map fun x => if x = .blank then .blank else .fixed }
  turning : s.cfg.kind = some .turn → f = s.trailedTo k still e
  later : Later s w
  pulses : w.stop.path = s.stop.path → ∀ p, w.pulse p = s.pulseAfter p k .trailing e.record
  claims : w.claimSheets = if s.hasGate = true ∧ s.cfg.gateStation.num ≤ k.num
    then s.claimSheets.filter (· ≠ e.record.sheet) else s.claimSheets
  budget : w.budget ≤ s.budget
  cfg : w.cfg = s.cfg

/-- A record meets the same qualifiers after the fix rule and a measurement. -/
theorem SheetRecord.qualifies_congr {r r' : SheetRecord} (hp : r'.page1 = r.page1)
    (hc : r'.currentState = some .blank ↔ r.currentState = some .blank) (hg : r'.purge = r.purge)
    (q : Qualifier) : r'.qualifies q = r.qualifies q := by
  rw [Bool.eq_iff_iff, r'.qualifies_iff, r.qualifies_iff, hp, hc, hg]

theorem SideState.fuse_blank (x : SideState) : x.fuse = .blank ↔ x = .blank := by cases x <;> decide

/-- The fix rule and a measurement leave what a trigger reads of the record. -/
theorem State.pulseAfter_fixedAt (s : State) (p : PulseId) (k : StationId) (still : Bool) (edge : TriggerEdge)
    (e : Entry) : s.pulseAfter p k edge (s.fixedAt k (s.trailedTo k still e)).record =
      s.pulseAfter p k edge e.record := by
  obtain ⟨r, hr⟩ : ∃ r, r = (s.fixedAt k (s.trailedTo k still e)).record := ⟨_, rfl⟩
  have hsame : r.media = e.record.media ∧ r.sheet = e.record.sheet ∧ r.page1 = e.record.page1 ∧
      r.purge = e.record.purge ∧ (r.currentState = some .blank ↔ e.record.currentState = some .blank) := by
    rw [hr]; unfold State.fixedAt; split
    · refine ⟨rfl, rfl, rfl, rfl, ?_⟩
      show SheetRecord.currentState _ = _ ↔ _
      unfold SheetRecord.currentState State.trailedTo
      cases hcur : e.record.current
      · simp [Entry.mapRecord, hcur, SideState.fuse_blank]
      · cases h2 : e.record.side2 <;> simp [Entry.mapRecord, hcur, h2, SideState.fuse_blank]
    · exact ⟨rfl, rfl, rfl, rfl, Iff.rfl⟩
  obtain ⟨hm, hs, hp, hg, hc⟩ := hsame
  rw [← hr]
  simp only [State.pulseAfter, State.constantsFor, hm, hs, SheetRecord.qualifies_congr hp hc hg]

section
variable {s u : State} (hu : changesOnly [.stations, .feed] s u) {k : StationId}
  (hc : (u.station k).coverCount = (s.station k).coverCount)
  (hb : (u.station k).stillBegun = (s.station k).stillBegun)
include hu

theorem State.beforeTriggers_cfg (still : Bool) (e : Entry) : (u.beforeTriggers k still e).cfg = s.cfg :=
  (State.clearClaim_only _ _ _).cfg.trans <| (State.fixRule_only _ _ _).cfg.trans <|
    (State.measure_only _ _ _ _).cfg.trans <| (u.passTrail_only _ _).cfg.trans hu.cfg

theorem State.beforeTriggers_onward (still : Bool) (e : Entry) : Onward s (u.beforeTriggers k still e) :=
  (Onward.of_only hu).trans <| (Onward.of_only (u.passTrail_only _ _)).trans <|
    (State.measure_onward _ _ _ _).trans <| (State.fixRule_onward _ _ _).trans
      (State.clearClaim_onward _ _ _)

theorem State.beforeTriggers_budget (still : Bool) (e : Entry) :
    (u.beforeTriggers k still e).budget ≤ s.budget :=
  (budget_of_only (State.clearClaim_only _ _ _)).le.trans <| (State.fixRule_budget _ _ _).trans <|
    (State.measure_budget _ _ _ _).trans <| (budget_of_only (u.passTrail_only _ _)).le.trans
      (budget_of_only hu).le

theorem State.beforeTriggers_claims (still : Bool) (e : Entry) :
    (u.beforeTriggers k still e).claimSheets = if s.hasGate = true ∧ s.cfg.gateStation.num ≤ k.num
      then s.claimSheets.filter (· ≠ e.record.sheet) else s.claimSheets := by
  obtain ⟨v, hv⟩ : ∃ v, v = ((u.passTrail k e.record.sheet).measure k still e).fixRule k
      e.record.sheet := ⟨_, rfl⟩
  have hg : v.gate = s.gate := by
    rw [hv]
    exact (State.fixRule_only _ _ _).gate.trans <| (State.measure_only _ _ _ _).gate.trans <|
      (u.passTrail_only _ _).gate.trans hu.gate
  have hcfg : v.cfg = s.cfg := by
    rw [hv]
    exact (State.fixRule_only _ _ _).cfg.trans <| (State.measure_only _ _ _ _).cfg.trans <|
      (u.passTrail_only _ _).cfg.trans hu.cfg
  have hgate : v.hasGate = s.hasGate := by simp only [State.hasGate, State.isSink, hcfg]
  rw [State.beforeTriggers, ← hv, State.clearClaim_sheets, hgate, hcfg, State.claimSheets, hg]
  rfl

include hc hb in
theorem State.beforeTriggers_tracks {front back : List Entry} {e : Entry} (still : Bool)
    (hs : sheetsUnique s) (ht : s.track.table = front ++ e :: back) :
    Tracks s front back (u.beforeTriggers k still e) (s.fixedAt k (s.trailedTo k still e)) := by
  have h0 : Tracks s front back u e := (Tracks.of_unique hs ht).of_table (by rw [hu.track])
  have h1 : Tracks s front back (u.passTrail k e.record.sheet) { e with trail := k.num } :=
    h0.mapEntry (fun e => { e with trail := k.num }) rfl
  have h2 := h1.measure (still := still) (u := u.passTrail k e.record.sheet) hu.cfg hc hb
  have h3 := h2.fixRule (k := k) ((State.measure_only _ _ _ _).cfg.trans
    ((u.passTrail_only k e.record.sheet).cfg.trans hu.cfg))
  refine h3.of_table ?_
  show (State.clearClaim _ k e.record.sheet).track.table = _
  rw [(State.clearClaim_only _ _ _).track]
  rfl

include hc hb in
/-- A matched trailing edge behind its triggers. -/
theorem Trailed.of_edge {front back : List Entry} {e : Entry} (still : Bool) (hs : sheetsUnique s)
    (ht : s.track.table = front ++ e :: back) :
    ∃ f, Trailed s k still front back e f
      ((u.beforeTriggers k still e).edgeTriggers k .trailing e.record.sheet) := by
  have hv := State.beforeTriggers_tracks hu hc hb still hs ht
  have hov := State.beforeTriggers_onward hu (k := k) still e
  have hcv := State.beforeTriggers_cfg hu (k := k) still e
  have hbv := State.beforeTriggers_budget hu (k := k) still e
  have hgv := State.beforeTriggers_claims hu (k := k) still e
  generalize u.beforeTriggers k still e = v at *
  have hsheet : (s.fixedAt k (s.trailedTo k still e)).record.sheet = e.record.sheet :=
    s.fixedAt_sheet k _
  obtain ⟨f, hf, hrel, hrel'⟩ := hv.edgeTriggers hcv hov k .trailing
  have hpulse := fun p => State.edgeTriggers_pulse p (k := k) (edge := .trailing) hv.entryOf
  rw [hsheet] at hf hrel' hpulse
  have hl := v.edgeTriggers_later k .trailing e.record.sheet
  have hnone : s.cfg.kind ≠ some .image → f = s.fixedAt k (s.trailedTo k still e) := fun hk => by
    obtain hf | ⟨⟨p, hp⟩, -⟩ := hrel
    · exact hf
    · exact absurd hp.1 hk
  have hshape : ∀ g : Entry, g = s.fixedAt k (s.trailedTo k still e) →
      g = { e with trail := k.num, record := g.record } ∧
      g.record.measured = s.measuredAt k still e.record ∧ g.record.sheet = e.record.sheet := by
    rintro g rfl
    unfold State.fixedAt; split <;> exact ⟨rfl, rfl, rfl⟩
  obtain ⟨hentry, hmeas, hsh⟩ := hshape _ rfl
  refine ⟨f,
    { tracks := hf, entry := ?_, sheet := ?_, measured := ?_, plain := fun hn => ?_
      fixed := fun hk hst => ?_, turning := fun hk => ?_, later := hov.later.trans hl
      pulses := fun hp p => ?_, claims := ?_
      budget := (v.edgeTriggers_budget _ _ _).trans hbv
      cfg := (v.edgeTriggers_only _ _ _).cfg.trans hcv }⟩
  · obtain rfl | ⟨-, rfl⟩ := hrel
    · exact hentry
    · rw [hentry]; rfl
  · obtain rfl | ⟨-, rfl⟩ := hrel
    · exact hsh
    · rw [s.releasedEntry_sheet, hsh]
  · obtain rfl | ⟨-, rfl⟩ := hrel
    · exact hmeas
    · rw [← hmeas]
      unfold State.releasedEntry; dsimp only; split
      · rw [SheetRecord.toned_keeps]; rfl
      · rfl
  · rw [State.fixedAt_other _ hn] at hrel hrel'
    exact RecordAfter.trailing (f := s.trailedTo k still e) hrel hrel'
  · rw [hnone (by rw [hk]; decide), State.fixedAt, if_pos ⟨hk, hst⟩]
    have hfuse : SideState.fuse = fun x => if x = .blank then .blank else .fixed :=
      funext SideState.fuse_eq
    simp only [Entry.mapRecord, State.trailedTo, hfuse]
  · rw [hnone (by rw [hk]; decide), State.fixedAt_other _ (by rw [hk]; simp)]
  · obtain ⟨h1, h2⟩ := hov.later.mid hl hp
    rw [hpulse p h2, State.pulseAfter_congr hcv h1 (hov.pulse (.inl h1) p), State.pulseAfter_fixedAt]
  · rw [State.claimSheets, (v.edgeTriggers_only _ _ _).gate]
    exact hgv

end

end Sys2Proof.Machine
end

section
/-! SUPPORT. What follows the triggers of a trailing edge: the turn, the PASS that the turn hold kept back
(R18, R22), and the end of the entry at Sn (R16). -/

namespace Sys2Proof.Machine

/-! ### The turn -/

/-- The turn rule acts on the entry at station `k` (R22). -/
def State.turnsAt (s : State) (k : StationId) (e : Entry) : Prop :=
  s.cfg.kind = some .turn ∧ s.cfg.turnStation = k ∧ e.record.leg = .duplex

/-- A turned entry whose trailing edge has passed station `k`, with its measurement (R16, R22, R37). -/
def State.turnedAt (s : State) (k : StationId) (still : Bool) (e : Entry) : Entry :=
  { e with
    trail := k.num
    record := { e.record with
      measured := s.measuredAt k still e.record, current := .two, released := false } }

/-- The turn hold has kept the PASS of the entry back (R18). -/
def Entry.keptBack (e : Entry) : Prop := e.loc = .transit ∧ e.passSent = false ∧ e.passHold ≠ .clear

/-- An entry that is handed on to the next segment (R17). -/
def Entry.handed (e : Entry) : Entry := { e with passSent := true, loc := .handed, passHold := .clear }

theorem State.nextOf_congr {s u : State} (h : u.cfg = s.cfg) (e : Entry) : u.nextOf e = s.nextOf e := by
  cases s; cases u; cases h; rfl

theorem State.lastStation_congr {s u : State} (h : u.cfg = s.cfg) : u.lastStation = s.lastStation := by
  simp only [State.lastStation, State.present, State.stationCfg, h]

section
variable {s w : State} {k : StationId} {still : Bool} {front back : List Entry} {e f : Entry}

theorem Trailed.turnRule_skips (W : Trailed s k still front back e f w) (h : ¬ s.turnsAt k e)
    (p : PathState) : w.turnRule p k e.record.sheet = w := by
  unfold State.turnRule
  split
  · next hk =>
    simp only [State.isKind, W.cfg, Bool.and_eq_true, beq_iff_eq] at hk
    have he : w.entryOf e.record.sheet = some f := W.sheet ▸ W.tracks.entryOf
    rw [he]
    dsimp only
    refine if_neg fun hl => h ⟨hk.1, hk.2.symm, ?_⟩
    rw [W.turning hk.1] at hl
    exact hl
  · rfl

/-- The turn rule of a duplex sheet at the turn station (R22). -/
theorem Trailed.turnRule_turns (W : Trailed s k still front back e f w) (h : s.turnsAt k e)
    (p : PathState) : ∃ y, w.turnRule p k e.record.sheet = y.heldPass p e.record.sheet ∧
      Tracks s front back y (s.turnedAt k still e) ∧ changesOnly [.track] w y := by
  obtain ⟨hk, hst, hleg⟩ := h
  refine ⟨w.mapEntry e.record.sheet fun e => e.mapRecord SheetRecord.turn, ?_, ?_, w.mapEntry_only _ _⟩
  · have he : w.entryOf e.record.sheet = some f := W.sheet ▸ W.tracks.entryOf
    have hl : f.record.leg = .duplex := by rw [W.turning hk]; exact hleg
    unfold State.turnRule
    rw [if_pos (by simp [State.isKind, W.cfg, hk, hst]), he]
    exact if_pos hl
  · have h1 := W.tracks.mapEntry (fun e => e.mapRecord SheetRecord.turn) rfl
    rw [W.sheet, W.turning hk] at h1
    exact h1

end

/-! ### The PASS kept back -/

section
variable {s u : State} {front back : List Entry} {f : Entry}

theorem Tracks.heldPass_skips (h : Tracks s front back u f) (hn : ¬ f.keptBack) (p : PathState) :
    u.heldPass p f.record.sheet = u := by
  rw [State.heldPass, h.entryOf]
  exact if_neg hn

theorem Tracks.heldPass_sends (h : Tracks s front back u f) (hk : f.keptBack) (p : PathState) :
    u.heldPass p f.record.sheet = u.sendPass p f := by
  rw [State.heldPass, h.entryOf]
  exact if_pos hk

/-- A PASS before the last station leaves the entry in the table, handed on (R17). -/
theorem Tracks.sendPass_inner (h : Tracks s front back u f) (p : PathState)
    (hlt : f.trail < u.lastStation) :
    Tracks s front back (u.sendPass p f) f.handed ∧ (u.sendPass p f).gate = u.gate := by
  have hk := u.queueFrame_keeps p (u.passFrame f)
  have hq := h.keeps hk
  rw [State.sendPass, State.handOn_eq hq.entryOf, State.lastStation_congr hk.only.cfg, if_pos hlt]
  exact ⟨hq.mapEntry _ rfl, hk.only.gate⟩

/-- A PASS behind the last station ends the entry (R17). -/
theorem Tracks.sendPass_last (h : Tracks s front back u f) (p : PathState)
    (hle : u.lastStation ≤ f.trail) :
    OthersAfter s (front ++ back) (u.sendPass p f).track.table := by
  have hk := u.queueFrame_keeps p (u.passFrame f)
  have hq := h.keeps hk
  rw [State.sendPass, State.handOn_eq hq.entryOf, State.lastStation_congr hk.only.cfg,
    if_neg (Nat.not_lt.mpr hle)]
  exact hq.removeEntry

/-- The PASS is among the frames queued, where there is room for it. -/
theorem Tracks.sendPass_queued (h : Tracks s front back u f) (p : PathState) (hcfg : u.cfg = s.cfg)
    (hroom : u.line.tx.length < 14) : ∃ g ∈ (u.sendPass p f).line.tx, g.kind = .pass ∧
      g.origin = s.cfg.segment ∧ g.payload = passPayload (s.nextOf f) f.record := by
  obtain ⟨more, hm⟩ := State.sendPass_open (p := p) h.entryOf hroom
  refine ⟨u.passOf f, by rw [hm]; simp, rfl, congrArg Configuration.segment hcfg, ?_⟩
  show passPayload (u.nextOf f) f.record = _
  rw [State.nextOf_congr hcfg]

end

/-! ### The end of the entry -/

section
variable {s u : State} {k : StationId}

theorem State.endAt_inner (h : k.num ≠ u.lastStation) (p : PathState) (x : Nat) :
    u.endAt p k x = u := if_neg h

theorem State.endAt_last (h : k.num = u.lastStation) (p : PathState) (x : Nat) :
    u.endAt p k x = u.atLast p x := if_pos h

theorem State.atLast_none {x : Nat} (h : u.entryOf x = none) (p : PathState) : u.atLast p x = u := by
  rw [State.atLast, h]

theorem State.atLast_stays {x : Nat} {f : Entry} (hf : u.entryOf x = some f) (hs : u.isSink = false)
    (h : f.loc = .transit ∨ (f.loc = .held ∧ f.passSent = false)) (p : PathState) :
    u.atLast p x = u := by
  rw [State.atLast, hf]
  dsimp only
  rw [if_neg (by simp [hs])]
  obtain h | ⟨h, hp⟩ := h
  · rw [h]
  · rw [h]; simp [hp]

theorem State.atLast_ends {x : Nat} {f : Entry} (hf : u.entryOf x = some f) (hs : u.isSink = false)
    (h : f.loc = .handed ∨ (f.loc = .held ∧ f.passSent = true)) (p : PathState) :
    u.atLast p x = u.removeEntry x := by
  rw [State.atLast, hf]
  dsimp only
  rw [if_neg (by simp [hs])]
  obtain h | ⟨h, hp⟩ := h
  · rw [h]
  · rw [h]; simp [hp]

theorem State.removeEntry_claims (x : Nat) :
    (u.removeEntry x).claimSheets = u.claimSheets.filter (· ≠ x) := by
  rw [State.removeEntry, State.claimSheets, (State.leftTests_only _).gate]
  exact State.leaveClaim_sheets _ x

end

/-! ### Behind the matched entry -/

/-- What the rest of a trailing edge keeps of the state in which it leaves the matched entry. -/
structure TailKeeps (z t : State) : Prop where
  table : t.track.table = z.track.table
  claims : t.claimSheets = z.claimSheets
  tx : t.line.tx = z.line.tx
  onward : Onward z t

theorem State.trailTail (z u : State) (k : StationId) :
    TailKeeps z (((z.holdStalls u).gateClears k).feedTest) := by
  have h1 := z.holdStalls_only u
  have h2 := (z.holdStalls u).gateClears_only k
  have h3 := ((z.holdStalls u).gateClears k).feedTest_only
  refine ⟨?_, ?_, ?_, (Onward.of_only h1).trans ((Onward.of_only h2).trans (.of_only h3))⟩
  · rw [h3.track, h2.track]; rfl
  · rw [State.claimSheets, h3.gate]
    exact State.gateClears_sheets _ k
  · rw [h3.line, h2.line, h1.line]

theorem RecordAfter.onward {s w t : State} {k : StationId} {edge : TriggerEdge} {lead : Nat}
    {quiet after : SheetRecord} (h : RecordAfter s w k edge lead quiet after) (hl : Later s w)
    (ht : Later w t) : RecordAfter s t k edge lead quiet after :=
  ⟨h.1, fun he hp => h.2 he (hl.mid ht hp).1⟩

theorem Trailed.triggers {s w t : State} {k : StationId} {still : Bool} {front back : List Entry}
    {e f : Entry} (W : Trailed s k still front back e f w) (h : Onward w t) :
    Triggers s t k .trailing e.record := by
  refine .of_pulseAfter fun hp p => ?_
  obtain ⟨h1, h2⟩ := W.later.mid h.later hp
  rw [h.pulse (.inl h2), W.pulses h1]

/-! ### A trailing edge -/

theorem expectedAt_eq (k : StationId) {l front back : List Entry} {e : Entry}
    (h : FirstIn (trailsAt k) l front e back) : expectedAt k.num l = some e :=
  h.find? fun x => by simp [trailsAt]

theorem expectedAt_none (k : StationId) {l : List Entry} (h : ∀ e ∈ l, ¬ trailsAt k e) :
    expectedAt k.num l = none :=
  List.find?_eq_none.mpr fun e he hq => h e he (by simpa [trailsAt] using hq)

/-- The state in which a trailing edge is matched: the station uncovered, the pace tracker restarted
(R33, R34, R137). -/
def State.uncoveredAt (s : State) (k : StationId) : State :=
  (s.setStation k (s.station k).uncover).restartPace k

theorem State.uncoveredAt_only (s : State) (k : StationId) :
    changesOnly [.stations, .feed] s (s.uncoveredAt k) :=
  ((s.setStation_only _ _).mono (by decide)).trans ((State.restartPace_only _ _).mono (by decide))

theorem State.uncoveredAt_stations (s : State) (k : StationId) :
    (s.uncoveredAt k).stations = (s.setStation k (s.station k).uncover).stations :=
  (State.restartPace_only _ _).stations

theorem State.uncoveredAt_station (s : State) (k : StationId) :
    (s.uncoveredAt k).station k = (s.station k).uncover := by
  rw [State.station, s.uncoveredAt_stations]
  exact s.station_setStation k _

theorem State.uncoveredAt_pace (s : State) (k : StationId) : (s.uncoveredAt k).feed.pace =
    if s.cfg.kind = some .feed ∧ s.cfg.paceStation = k then 0 else s.feed.pace := by
  unfold State.uncoveredAt State.restartPace
  by_cases h : s.cfg.kind = some .feed ∧ s.cfg.paceStation = k
  · rw [if_pos h, if_pos]
    · rfl
    · show (s.isKind .feed && k == s.cfg.paceStation) = true
      simp [State.isKind, h]
  · rw [if_neg h, if_neg]
    · rfl
    · show ¬ (s.isKind .feed && k == s.cfg.paceStation) = true
      simp only [State.isKind, Bool.and_eq_true, beq_iff_eq]
      exact fun hn => h ⟨hn.1, hn.2.symm⟩

theorem State.takeEdge_trailing {s : State} {k : StationId} (still : Bool) (h : s.rawCovered k = false) :
    s.takeEdge k still = (((s.uncoveredAt k).matchTrail k still).gateClears k).feedTest :=
  if_neg (by simp [h])

theorem State.matchTrail_matched {s u : State} (hu : u.track = s.track) {k : StationId}
    {front back : List Entry} {e : Entry} (still : Bool) (ho : k = .s1 → s.track.orphan = none)
    (hf : FirstIn (trailsAt k) s.track.table front e back) :
    u.matchTrail k still = (u.trailEffects k still e).holdStalls u := by
  rw [State.matchTrail, hu, if_neg (fun hn => hn.2 (ho hn.1)), expectedAt_eq k hf]
  rfl

/-- A matched trailing edge, told by its state behind the triggers: the turn, the end at Sn and the rest. -/
theorem State.takeEdge_matched {s : State} {k : StationId} (still : Bool) {front back : List Entry}
    {e : Entry} (hs : sheetsUnique s) (hraw : s.rawCovered k = false)
    (ho : k = .s1 → s.track.orphan = none) (hf : FirstIn (trailsAt k) s.track.table front e back) :
    ∃ f w, Trailed s k still front back e f w ∧
      TailKeeps ((w.turnRule s.stop.path k e.record.sheet).endAt s.stop.path k e.record.sheet)
        (s.takeEdge k still) := by
  have hu := s.uncoveredAt_only k
  have hst := s.uncoveredAt_station k
  have he := State.matchTrail_matched (u := s.uncoveredAt k) hu.track still ho hf
  have hstop : (s.uncoveredAt k).stop = s.stop := hu.stop
  rw [State.takeEdge_trailing still hraw, he]
  obtain ⟨f, W⟩ := Trailed.of_edge hu (k := k) (by rw [hst]; rfl) (by rw [hst]; rfl) still hs hf.split
  refine ⟨f, _, W, ?_⟩
  rw [← hstop]
  exact State.trailTail _ _ k

end Sys2Proof.Machine
end

section
/-! SUPPORT and the proof of TrailingEdgeBeforeTheLastStation. -/

namespace Sys2Proof.Machine

/-! ### A matched trailing edge before Sn -/

/-- The turn and the PASS that it releases, before the last station: the entry stays, as it was behind the
triggers or turned, and then handed on where its PASS was kept back (R18, R22). -/
theorem Trailed.inner {s w : State} {k : StationId} {still : Bool} {front back : List Entry}
    {e f : Entry} (W : Trailed s k still front back e f w) (hlt : k.num < s.lastStation) (p : PathState) :
    ∃ g z, (w.turnRule p k e.record.sheet).endAt p k e.record.sheet = z ∧
      Tracks s front back z g ∧ Onward w z ∧ z.claimSheets = w.claimSheets ∧
      (¬ s.turnsAt k e → g = f) ∧
      (s.turnsAt k e → ¬ e.keptBack → g = s.turnedAt k still e) ∧
      (s.turnsAt k e → e.keptBack → g = (s.turnedAt k still e).handed ∧
        (s.line.tx.length ≤ 11 → ∃ m ∈ z.line.tx, m.kind = .pass ∧ m.origin = s.cfg.segment ∧
          m.payload = passPayload (s.nextOf g) g.record)) := by
  have hend : ∀ z : State, z.cfg = s.cfg → z.endAt p k e.record.sheet = z := fun z hz =>
    State.endAt_inner (by rw [State.lastStation_congr hz]; exact hlt.ne) p _
  by_cases ht : s.turnsAt k e
  · obtain ⟨y, hy, htr, hyo⟩ := W.turnRule_turns ht p
    have hyc : y.cfg = s.cfg := hyo.cfg.trans W.cfg
    rw [hy]
    by_cases hk : e.keptBack
    · have hb : y.line.tx.length < 14 ∨ 11 < s.line.tx.length := by
        have h1 := W.budget
        have h2 := w.tx_le_budget
        have h3 := s.budget_le
        rw [hyo.line]
        omega
      obtain ⟨hz, hg⟩ := htr.sendPass_inner p (by rw [State.lastStation_congr hyc]; exact hlt)
      rw [show y.heldPass p e.record.sheet = _ from htr.heldPass_sends hk p,
        hend _ ((State.sendPass_only _ _ _).cfg.trans hyc)]
      refine ⟨_, _, rfl, hz, (Onward.of_only hyo).trans (State.sendPass_onward _ _ _), ?_,
        fun hn => absurd ht hn, fun _ hn => absurd hk hn, fun _ _ => ⟨rfl, fun h11 => ?_⟩⟩
      · rw [State.claimSheets, hg, hyo.gate]; rfl
      · exact htr.sendPass_queued p hyc (by omega)
    · rw [show y.heldPass p e.record.sheet = y from htr.heldPass_skips hk p, hend y hyc]
      exact ⟨_, _, rfl, htr, .of_only hyo, by rw [State.claimSheets, hyo.gate]; rfl,
        fun hn => absurd ht hn, fun _ _ => rfl, fun _ h => absurd h hk⟩
  · rw [W.turnRule_skips ht, hend w W.cfg]
    exact ⟨f, w, rfl, W.tracks, .refl w, rfl, fun _ => rfl, fun h => absurd h ht, fun h => absurd h ht⟩

/-! ### The orphan at a trailing edge -/

theorem State.feedTest_stopped {s : State} (h : s.Stopped) : s.feedTest = s := by
  rw [State.feedTest, if_neg]; obtain h | h | h := h <;> simp [h]

/-- STRAY takes a node out of IDLE to its rest. -/
theorem State.raise_stray_idle {s : State} (h : s.stop.path = .idle) (place sheet : Nat) :
    (s.raise .stray place sheet).Stopped := by
  have hr : s.raise .stray place sheet = s.startStop .stray place sheet := by
    rw [State.raise, if_pos (by rw [h]; rfl)]; simp only [h]
  obtain ⟨v, hv, -⟩ := s.startStop_eq .stray place sheet
  rw [hr, hv]
  refine State.Stopped.of_stop (s := v.enterHalting) ?_ (State.jamcall_only _ _).stop
  obtain ⟨h1, -⟩ | h1 | h1 := v.enterHalting_path
  · exact .inl h1
  · exact .inr (.inl h1)
  · exact .inr (.inr h1)

/-- The end of an orphan record changes nothing of the stop in a path state where STRAY is dropped and no
test of a leaving sheet acts (R45, R71, R147). -/
theorem State.endOrphan_dropped {u : State}
    (h : u.stop.path ∈ [PathState.halting, .halted, .clearing, .ready]) : u.endOrphan.stop = u.stop := by
  have hne : u.stop.path ≠ .flush ∧ u.stop.path ≠ .idle ∧ Cause.stray.takesEffect u.stop.path = false := by
    simp only [List.mem_cons, List.not_mem_nil, or_false] at h
    obtain h | h | h | h := h <;> rw [h] <;> decide
  have hd : (u.withOrphan none).drainTest = u.withOrphan none := if_neg fun hn => hne.1 hn.1
  have hi : (u.withOrphan none).idleFallTest = u.withOrphan none := if_neg fun hn => hne.2.1 hn.1
  rw [State.endOrphan, State.raise_dropped (u.withOrphan none) .stray 1 0 hne.2.2, State.leftTests, hd, hi,
    (State.feedTest_only _).stop]
  rfl

section
variable {s u : State} (hu : changesOnly [.stations, .feed] s u)
include hu

theorem State.endOrphan_begins (hp : s.stop.path = .run ∨ s.stop.path = .idle)
    (hown : s.stop.own = none) (hroom : s.line.tx.length ≤ 14) :
    StopBegun s .stray 1 0 u.endOrphan := by
  have hst : StandsAs s (u.withOrphan none) :=
    (StandsAs.of_only hu).trans (.of_only (u.withOrphan_only _))
  have hb := State.raise_begins (s := u.withOrphan none) (c := .stray) 1 0
    (by rw [hst.stop]; obtain hp | hp := hp <;> rw [hp] <;> rfl) (by rw [hst.stop]; exact hp)
    (by rw [hst.stop]; exact hown) (by rw [hst.tx]; exact hroom)
  rw [State.endOrphan, State.leftTests_stopped hb.stopped]
  exact hb.of_source hst

theorem State.endOrphan_joins (hp : s.stop.path = .flush) (hroom : s.line.tx.length ≤ 14) :
    StopJoined s .stray 1 0 u.endOrphan := by
  have hst : StandsAs s (u.withOrphan none) :=
    (StandsAs.of_only hu).trans (.of_only (u.withOrphan_only _))
  obtain ⟨hj, hmem⟩ := State.raise_joins (s := u.withOrphan none) (c := .stray) 1 0
    (by rw [hst.stop, hp]; rfl) (by rw [hst.stop, hp]) (by rw [hst.tx]; exact hroom)
  have hs : ((u.withOrphan none).raise .stray 1 0).Stopped := by
    simpa only [State.Stopped, List.mem_cons, List.not_mem_nil, or_false] using hmem
  rw [State.endOrphan, State.leftTests_stopped hs]
  exact hj.of_source hst.cfg hst.stop

/-- The pulse outputs at the end of an orphan record whose STRAY does not move the path state. -/
theorem State.endOrphan_pulses (h : u.endOrphan.stop.path = s.stop.path) : u.endOrphan.pulses = s.pulses := by
  have hstop : (u.withOrphan none).stop = s.stop := hu.stop
  by_cases hi : s.stop.path = .idle
  · have hs := State.raise_stray_idle (s := u.withOrphan none) (by rw [hstop]; exact hi) 1 0
    rw [State.endOrphan, State.leftTests_stopped hs, hi] at h
    rw [State.Stopped, h] at hs
    obtain hs | hs | hs := hs <;> cases hs
  · have ho : Onward s u.endOrphan := (Onward.of_only hu).trans <|
      (Onward.of_only (u.withOrphan_only none)).trans <|
        (State.raise_onward _ _ (.inr (by rw [hstop]; exact hi))).trans (State.leftTests_onward _)
    exact ho.pulses (.inl h)

end

/-- What follows the matching of a trailing edge, from any state. -/
theorem State.edgeEnd_only (m : State) (k : StationId) :
    changesOnly [.gate, .zones, .chain] m ((m.gateClears k).feedTest) :=
  ((m.gateClears_only k).mono (by decide)).trans ((State.feedTest_only _).mono (by decide))

theorem State.edgeEnd_stands {m : State} (h : m.Stopped) (k : StationId) :
    StandsAs m ((m.gateClears k).feedTest) := by
  have hg : StandsAs m (m.gateClears k) := .of_only (m.gateClears_only k)
  rw [State.feedTest_stopped (h.of_stop hg.stop)]
  exact hg

theorem State.endOrphan_keeps (u : State) : KeepsHoldings (u.withOrphan none) u.endOrphan :=
  (State.raise_keeps _ _ _ _).trans (State.leftTests_keeps _)

/-- A trailing edge of a held orphan (R12). -/
theorem State.takeEdge_orphan {s : State} {h : Nat} (still : Bool) (hraw : s.rawCovered .s1 = false)
    (ho : s.track.orphan = some h) :
    s.takeEdge .s1 still = (((s.uncoveredAt .s1).endOrphan).gateClears .s1).feedTest := by
  have hu : (s.uncoveredAt .s1).track = s.track := (s.uncoveredAt_only .s1).track
  rw [State.takeEdge_trailing still hraw, State.matchTrail, hu, if_pos ⟨rfl, by rw [ho]; exact nofun⟩]

/-- A trailing edge that no entry expects (R16). -/
theorem State.takeEdge_unmatched {s : State} {k : StationId} (still : Bool) (hraw : s.rawCovered k = false)
    (ho : k ≠ .s1 ∨ s.track.orphan = none) (hn : ∀ e ∈ s.track.table, ¬ trailsAt k e) :
    s.takeEdge k still = ((s.uncoveredAt k).gateClears k).feedTest := by
  have hu : (s.uncoveredAt k).track = s.track := (s.uncoveredAt_only k).track
  rw [State.takeEdge_trailing still hraw, State.matchTrail, hu,
    if_neg (fun h => ho.elim (fun hk => hk h.1) h.2), expectedAt_none k hn]

theorem State.matchTrail_queue {s : State} {k : StationId} (still : Bool)
    (h : ¬ (k = .s1 ∧ s.track.orphan ≠ none)) : KeepsQueue s (s.matchTrail k still) := by
  unfold State.matchTrail
  rw [if_neg h]
  split
  · exact .refl s
  · exact s.trailMatched_queue k still _

/-- The pace tracker after a trailing edge (R137). -/
theorem State.takeEdge_pace {s : State} {k : StationId} (still : Bool) (hraw : s.rawCovered k = false) :
    (s.takeEdge k still).feed.pace =
      if s.cfg.kind = some .feed ∧ s.cfg.paceStation = k then 0 else s.feed.pace := by
  rw [← s.uncoveredAt_pace k, State.takeEdge_trailing still hraw, (State.edgeEnd_only _ k).feed]
  by_cases h : k = .s1 ∧ (s.uncoveredAt k).track.orphan ≠ none
  · rw [State.matchTrail, if_pos h]
    exact (State.endOrphan_keeps _).pace
  · exact (State.matchTrail_queue still h).pace

theorem State.station_takeEdge_trailing {s : State} {k : StationId} (still : Bool)
    (hraw : s.rawCovered k = false) :
    (s.takeEdge k still).station k = (s.station k).uncover ∧
      ∀ j, j ≠ k → (s.takeEdge k still).station j = s.station j := by
  have hst : (s.takeEdge k still).stations = (s.setStation k (s.station k).uncover).stations := by
    rw [State.takeEdge_trailing still hraw, (State.edgeEnd_only _ k).stations,
      (State.matchTrail_only _ _ _).stations, s.uncoveredAt_stations]
  simp only [State.station, hst]
  exact ⟨s.station_setStation k _, fun j hj => s.station_setStation_ne _ hj⟩

/-- Settles O27: the station, the pace tracker and the orphan by the form of the edge, and the matched entry
followed through the triggers, the turn and the PASS kept back. -/
theorem trailingEdgeBeforeTheLastStation : Obligations.TrailingEdgeBeforeTheLastStation := by
  refine ⟨fun k still s hdue hraw => ?_, fun k still s front e back hs hdue hraw hlt ho hf => ?_⟩
  · obtain ⟨n, hn⟩ := exec_edgeCommand hdue
    obtain ⟨hst, hstne⟩ := State.station_takeEdge_trailing still hraw
    refine ⟨_, hn, hst, hstne, State.takeEdge_pace still hraw, ?_, fun hor hnone => ?_⟩
    · rintro h rfl hh
      have hu := s.uncoveredAt_only .s1
      have hk := (s.uncoveredAt .s1).endOrphan_keeps
      have hpulses := State.endOrphan_pulses hu
      have hbegins := State.endOrphan_begins hu
      have hjoins := State.endOrphan_joins hu
      have hdropped := State.endOrphan_dropped (u := s.uncoveredAt .s1)
      rw [State.takeEdge_orphan still hraw hh]
      generalize (s.uncoveredAt .s1).endOrphan = m at *
      have hend := m.edgeEnd_only .s1
      refine ⟨?_, ?_, fun hp => ?_, fun hp hown htx => ?_, fun hp htx => ?_, fun hp => ?_⟩
      · rw [State.withNotices_track, hend.track, hk.orphan]; rfl
      · rw [State.withNotices_track, hend.track, hk.table]
        show (s.uncoveredAt .s1).track.table = _
        rw [hu.track]
      · rw [State.withNotices_stop, hend.stop] at hp
        rw [State.withNotices_pulses, hend.pulses, hpulses hp]
      · have hb := hbegins hp hown htx
        exact (hb.stands (State.edgeEnd_stands hb.stopped .s1)).noted n
      · exact ((hjoins hp htx).stands hend.stop (by rw [hend.line])).noted n
      · rw [State.withNotices_stop, hend.stop, hdropped (by rw [hu.stop]; exact hp), hu.stop]
    · have hu := s.uncoveredAt_only k
      have hend := (s.uncoveredAt k).edgeEnd_only k
      rw [State.takeEdge_unmatched still hraw hor hnone]
      refine ⟨?_, fun hk => ?_, ?_⟩
      · rw [State.withNotices_track, hend.track, hu.track]
      · rw [State.withNotices_gate, (State.feedTest_only _).gate, State.gateClears,
          if_neg (by rw [hu.cfg]; exact hk), hu.gate]
      · exact (hu.mono (by decide)).trans <| (hend.mono (by decide)).trans
          ((State.withNotices_only _ n).mono (by decide))
  · obtain ⟨n, hn⟩ := exec_edgeCommand hdue
    obtain ⟨hst, -⟩ := State.station_takeEdge_trailing still hraw
    obtain ⟨f, w, W, T⟩ := State.takeEdge_matched still hs hraw ho hf
    obtain ⟨g, z, hz, htr, hwz, hclaims, hplain, hturned, hsent⟩ := W.inner hlt s.stop.path
    rw [hz] at T
    generalize s.takeEdge k still = t at *
    obtain ⟨ahead, behind, htab, ha, hb⟩ := htr.split
    have hwt : Onward w t := hwz.trans T.onward
    have hshape : g = { f with
        record := g.record, loc := g.loc, passSent := g.passSent, passHold := g.passHold } ∧
        g.record.sheet = e.record.sheet ∧ g.record.measured = s.measuredAt k still e.record ∧
        g.trail = k.num := by
      by_cases ht : s.turnsAt k e
      · have hf := W.turning ht.1
        by_cases hk : e.keptBack
        · rw [(hsent ht hk).1, hf]; exact ⟨rfl, rfl, rfl, rfl⟩
        · rw [hturned ht hk, hf]; exact ⟨rfl, rfl, rfl, rfl⟩
      · rw [hplain ht]; exact ⟨rfl, W.sheet, W.measured, by rw [W.entry]⟩
    obtain ⟨hg, hsheet, hmeas, htrail⟩ := hshape
    refine ⟨_, g, ahead, behind, hn, T.table.trans htab, ha, hb, hst, htrail, ?_, ?_, ?_, hsheet, hmeas, ?_,
      W.triggers (hwt.trans (.of_only (State.withNotices_only _ n))), fun hnf hnt => ?_, fun hk hs => ?_, fun hk hs hl => ?_⟩
    · rw [hg, W.entry]
    · rw [hg, W.entry]
    · rw [hg, W.entry]
    · exact T.claims.trans (hclaims.trans W.claims)
    · rw [hplain hnt, W.measured]
      exact ⟨(W.plain hnf).onward W.later hwt.later, by rw [W.entry]⟩
    · have hnt : ¬ s.turnsAt k e := fun h => by have := h.1; rw [hk] at this; exact nomatch this
      rw [hplain hnt, W.measured]
      exact ⟨W.fixed hk hs, by rw [W.entry]⟩
    · have ht : s.turnsAt k e := ⟨hk, hs, hl⟩
      refine ⟨?_, fun h1 h2 h3 h11 => ?_⟩
      · by_cases hkept : e.keptBack
        · rw [(hsent ht hkept).1]; rfl
        · rw [hturned ht hkept]; rfl
      · obtain ⟨hge, hpass⟩ := hsent ht ⟨h1, h2, h3⟩
        obtain ⟨m, hm, hrest⟩ := hpass h11
        exact ⟨by rw [hge]; rfl, by rw [hge]; rfl, m, T.tx ▸ hm, hrest⟩

end Sys2Proof.Machine
end

section
/-! SUPPORT and the proof of TrailingEdgeAtTheLastStation. -/

namespace Sys2Proof.Machine

/-- A TURN node starts no release pulse. -/
theorem State.not_releaseReady_of_turn {s : State} (h : s.cfg.kind = some .turn) (x : Nat) :
    ¬ s.releaseReady x :=
  fun hr => nomatch h.symm.trans hr.1

section
variable {s w : State} {k : StationId} {still : Bool} {front back : List Entry} {e f : Entry}

/-- The matched entry behind the turn rule, where no PASS was kept back for it: turned at the turn station,
and otherwise as the triggers left it (R22). -/
theorem Trailed.turned (W : Trailed s k still front back e f w) (h : ¬ (s.turnsAt k e ∧ e.keptBack))
    (p : PathState) : ∃ g, Tracks s front back (w.turnRule p k e.record.sheet) g ∧
      changesOnly [.track] w (w.turnRule p k e.record.sheet) ∧
      g.record.sheet = e.record.sheet ∧ g.loc = e.loc ∧ g.passSent = e.passSent ∧
      (¬ s.turnsAt k e → g = f) ∧ (s.turnsAt k e → g = s.turnedAt k still e) := by
  by_cases ht : s.turnsAt k e
  · obtain ⟨y, hy, htr, hyo⟩ := W.turnRule_turns ht p
    rw [hy, show y.heldPass p e.record.sheet = y from htr.heldPass_skips (fun hk => h ⟨ht, hk⟩) p]
    exact ⟨_, htr, hyo, rfl, rfl, rfl, fun hn => absurd ht hn, fun _ => rfl⟩
  · rw [W.turnRule_skips ht]
    exact ⟨f, W.tracks, .refl _ w, W.sheet, by rw [W.entry], by rw [W.entry], fun _ => rfl,
      fun hn => absurd hn ht⟩

/-- A turned entry whose PASS was kept back leaves the table behind Sn with that PASS (R18, R22). -/
theorem Trailed.turned_leaves (W : Trailed s k still front back e f w) (ht : s.turnsAt k e)
    (hk : e.keptBack) (hl : k.num = s.lastStation) (p : PathState) :
    (w.turnRule p k e.record.sheet).track.table = front ++ back ∧
      (s.line.tx.length ≤ 11 → ∃ g ∈ (w.turnRule p k e.record.sheet).line.tx, g.kind = .pass ∧
        g.origin = s.cfg.segment ∧
        g.payload = passPayload (s.nextOf (s.turnedAt k still e)) (s.turnedAt k still e).record) := by
  obtain ⟨y, hy, htr, hyo⟩ := W.turnRule_turns ht p
  have hyc : y.cfg = s.cfg := hyo.cfg.trans W.cfg
  have hlast : y.lastStation ≤ k.num := by rw [State.lastStation_congr hyc, hl]
  rw [hy, show y.heldPass p e.record.sheet = _ from htr.heldPass_sends hk p]
  refine ⟨(htr.sendPass_last p hlast).eq_of_not (State.not_releaseReady_of_turn ht.1),
    fun h11 => htr.sendPass_queued p hyc ?_⟩
  · have h1 := W.budget
    have h2 := w.tx_le_budget
    have h3 := s.budget_le
    rw [hyo.line]
    omega

/-- No entry is found for a sheet outside the table. -/
theorem State.entryOf_none {u : State} {x : Nat} (h : ∀ g ∈ u.track.table, g.record.sheet ≠ x) :
    u.entryOf x = none :=
  List.find?_eq_none.mpr fun g hg hs => h g hg (beq_iff_eq.mp hs)

end

/-- Settles O29: the end at Sn of the entry that the triggers and the turn have left. -/
theorem trailingEdgeAtTheLastStation : Obligations.TrailingEdgeAtTheLastStation := by
  intro k still s front e back hs hdue hraw hlast ho hf hsink
  obtain ⟨n, hn⟩ := exec_edgeCommand hdue
  obtain ⟨f, w, W, T⟩ := State.takeEdge_matched still hs hraw ho hf
  obtain ⟨y, hy⟩ : ∃ y, y = w.turnRule s.stop.path k e.record.sheet := ⟨_, rfl⟩
  have hyc : y.cfg = s.cfg := by rw [hy, (State.turnRule_only _ _ _ _).cfg, W.cfg]
  have hwy : Onward w y := hy ▸ State.turnRule_onward _ _ _ _
  have hys : y.isSink = false := by rw [← hsink]; simp only [State.isSink, hyc]
  rw [← hy, State.endAt_last (by rw [State.lastStation_congr hyc, hlast])] at T
  have hturned := fun h => W.turned h s.stop.path
  have hleaves := fun h1 h2 => W.turned_leaves h1 h2 hlast s.stop.path
  rw [← hy] at hturned hleaves
  generalize s.takeEdge k still = t at *
  have hwt : Onward w (t.withNotices n) := ((hwy.trans (State.atLast_onward hys _ _)).trans T.onward).trans
    (.of_only (State.withNotices_only _ n))
  have stays : ∀ {g : Entry}, Tracks s front back y g → g.record.sheet = e.record.sheet →
      g.loc = e.loc → g.passSent = e.passSent → e.loc = .transit ∨ (e.loc = .held ∧ e.passSent = false) →
      Tracks s front back (t.withNotices n) g := fun htr hg hloc hsent h => by
    refine htr.of_table (T.table.trans ?_)
    rw [State.atLast_stays (hg ▸ htr.entryOf) hys (by rw [hloc, hsent]; exact h)]
  refine ⟨_, hn, W.triggers hwt, fun h => ?_, fun hno h => ?_,
    fun hk hst hleg g hg => ⟨fun h1 h2 h3 h11 => ?_, fun h => ?_⟩⟩
  · obtain ⟨g, htr, -, hsheet, hloc, hsent, -⟩ := hturned fun hn => by
      obtain ⟨-, h1, h2, -⟩ := hn
      simp [h1, h2] at h
    rw [State.atLast_ends (hsheet ▸ htr.entryOf) hys (by rw [hloc, hsent]; exact h)] at T
    refine ⟨?_, fun c hc hce => ?_⟩
    · have hr := htr.removeEntry
      rw [hsheet] at hr
      rw [State.withNotices_track, T.table]
      exact hr
    · have hm : c.sheet ∈ t.claimSheets := List.mem_map_of_mem (f := fun c : Claim => c.sheet) hc
      rw [T.claims, State.removeEntry_claims, hce] at hm
      simp at hm
  · have hnt : ¬ s.turnsAt k e := fun ht => hno ht.1 ht.2.1 ht.2.2
    obtain ⟨g, htr, -, hsheet, hloc, hsent, hplain, -⟩ := hturned fun hn => hnt hn.1
    obtain ⟨ahead, behind, htab, ha, hb⟩ := (stays htr hsheet hloc hsent h).split
    rw [hplain hnt] at htab
    refine ⟨f, ahead, behind, htab, ha, hb, by rw [W.entry], by rw [W.entry], W.sheet, by rw [W.entry],
      by rw [W.entry], W.measured, fun hnf => ?_, fun hk hst => ?_⟩
    · rw [W.measured]
      exact (W.plain hnf).onward W.later hwt.later
    · rw [W.measured]
      exact W.fixed hk hst
  · obtain ⟨htab, hpass⟩ := hleaves ⟨hk, hst, hleg⟩ ⟨h1, h2, h3⟩
    have hnone : y.entryOf e.record.sheet = none :=
      State.entryOf_none (by rw [htab]; exact Unique.ne_of_split (hf.split ▸ hs))
    rw [State.atLast_none hnone] at T
    obtain ⟨m, hm, hrest⟩ := hpass h11
    refine ⟨by rw [State.withNotices_track, T.table, htab], m, ?_, by rw [hg]; exact hrest⟩
    rw [State.withNotices_line, T.tx]
    exact hm
  · have hnk : ¬ e.keptBack := fun hn => by
      obtain ⟨h1, h2, h3⟩ := hn
      simp [h1, h2, h3] at h
    obtain ⟨g', htr, -, hsheet, hloc, hsent, -, hturn⟩ := hturned fun hn => hnk hn.2
    obtain ⟨ahead, behind, htab, ha, hb⟩ := (stays htr hsheet hloc hsent (h.imp_left And.left)).split
    have hno := State.not_releaseReady_of_turn hk
    rw [hturn ⟨hk, hst, hleg⟩, ha.eq_of_not hno, hb.eq_of_not hno] at htab
    rw [htab, hg]
    rfl

end Sys2Proof.Machine
end

section
/-! SUPPORT. What the rise request of every zone in use leaves of the zones and of the chain (R80, R84, R85). -/

namespace Sys2Proof.Machine

/-! ### One zone -/

theorem State.zone_setZone (s : State) (z : ZoneId) (x : Zone) : (s.setZone z x).zone z = x := by
  cases z <;> rfl

theorem State.zone_setZone_ne (s : State) {y z : ZoneId} (x : Zone) (h : y ≠ z) :
    (s.setZone z x).zone y = s.zone y := by
  revert h; cases y <;> cases z <;> intro h
  all_goals first | rfl | exact absurd rfl h

/-- The chain is ON, or goes there with the first rise (R80). -/
def State.Supplied (s : State) : Prop :=
  s.chain.state = .on ∨ (s.chain.state = .off ∧ s.pins.drdy = true)

/-- The chain waits for DRDY, or comes to wait with the first rise (R80). -/
def State.Waits (s : State) : Prop :=
  s.chain.state = .wait ∨ (s.chain.state = .off ∧ s.pins.drdy = false)

theorem State.chain_cases {s : State} (h : s.chain.state ≠ .failed) : s.Supplied ∨ s.Waits := by
  unfold State.Supplied State.Waits
  cases hc : s.chain.state <;> cases hd : s.pins.drdy <;> simp_all

theorem State.anyRisePending_eq_false {s : State} :
    s.anyRisePending = false ↔ ∀ y, (s.zone y).risePending = false := by
  refine ⟨fun h y => ?_, fun h => ?_⟩
  · have := List.any_eq_false.mp h y (by cases y <;> decide)
    simpa using this
  · exact List.any_eq_false.mpr fun y _ => by simp [h y]

theorem State.pendRise_supplied {s : State} (z : ZoneId) (h : s.Supplied) :
    ∃ c, c.state = .on ∧ s.pendRise z =
      ((s.setZone z { s.zone z with risePending := true }).withChain c).beginRises := by
  unfold State.pendRise
  obtain h | ⟨h, hd⟩ := h
  · simp only [h]
    exact ⟨s.chain, h, rfl⟩
  · simp only [h, hd, if_true]
    exact ⟨_, rfl, rfl⟩

theorem State.pendRise_waits {s : State} (z : ZoneId) (h : s.Waits) :
    ∃ c, c.state = .wait ∧
      (s.chain.state = .off ∨ (∀ y, (s.zone y).risePending = false) ∨ s.chain.readyTimer = 0 →
        c.readyTimer = 0) ∧
      s.pendRise z = (s.setZone z { s.zone z with risePending := true }).withChain c := by
  unfold State.pendRise
  obtain h | ⟨h, hd⟩ := h
  · simp only [h]
    by_cases hp : s.anyRisePending = true
    · rw [if_neg (by simp [hp])]
      refine ⟨s.chain, h, fun hn => ?_, rfl⟩
      obtain hn | hn | hn := hn
      · cases hn
      · rw [State.anyRisePending_eq_false.mpr hn] at hp; cases hp
      · exact hn
    · rw [if_pos (by simpa using hp)]
      exact ⟨_, rfl, fun _ => rfl, rfl⟩
  · simp only [h, hd]
    exact ⟨_, rfl, fun _ => rfl, rfl⟩

/-- Nothing drops a rise request (R80, R84). -/
structure State.Rises (s : State) : Prop where
  free : s.braking = false
  able : s.chain.state ≠ .failed

section
variable {s : State} {z : ZoneId}

theorem State.riseZone_rest (hr : s.Rises) (hu : s.inUse z = true) (h : (s.zone z).atRest = true) :
    s.riseZone z = s.pendRise z := by
  unfold State.riseZone
  rw [if_neg (by simp [hu, hr.free, hr.able])]
  obtain h | h := (s.zone z).atRest_iff.mp h <;> rw [h]

theorem State.riseZone_falling (hr : s.Rises) (hu : s.inUse z = true) (h : (s.zone z).state = .falling) :
    s.riseZone z = s.setZone z (s.takeover z (s.zone z)) := by
  unfold State.riseZone
  rw [if_neg (by simp [hu, hr.free, hr.able]), h]

theorem State.riseZone_moving (h : (s.zone z).state = .rising ∨ (s.zone z).state = .running) :
    s.riseZone z = s := by
  unfold State.riseZone; split
  · rfl
  · obtain h | h := h <;> rw [h]

theorem State.riseZone_dropped (h : s.braking = true ∨ s.chain.state = .failed) : s.riseZone z = s := by
  refine if_pos ?_
  obtain h | h := h <;> simp [h]

/-- The forms a rise request takes (R80, R84, R85). -/
theorem State.riseZone_cases (s : State) (z : ZoneId) :
    s.riseZone z = s ∨ (s.Rises ∧ s.riseZone z = s.pendRise z) ∨
      (s.Rises ∧ s.riseZone z = s.setZone z (s.takeover z (s.zone z))) := by
  by_cases hd : s.braking = true ∨ s.chain.state = .failed
  · exact .inl (State.riseZone_dropped hd)
  · have hr : s.Rises := ⟨by simpa using fun h => hd (.inl h), fun h => hd (.inr h)⟩
    by_cases hu : s.inUse z = true
    · cases hs : (s.zone z).state with
      | idle => exact .inr (.inl ⟨hr, State.riseZone_rest hr hu (by simp [Zone.atRest, hs])⟩)
      | braked => exact .inr (.inl ⟨hr, State.riseZone_rest hr hu (by simp [Zone.atRest, hs])⟩)
      | rising => exact .inl (State.riseZone_moving (.inl hs))
      | running => exact .inl (State.riseZone_moving (.inr hs))
      | falling => exact .inr (.inr ⟨hr, State.riseZone_falling hr hu hs⟩)
    · exact .inl (if_pos (by simp [hu]))

/-- The rise request of another zone leaves a zone that has no rise pending, and in WAIT every other. -/
theorem State.riseZone_other {y : ZoneId} (hne : y ≠ z) (h : (s.zone z).risePending = false ∨ s.Waits) :
    (s.riseZone y).zone z = s.zone z := by
  obtain he | ⟨hr, he⟩ | ⟨-, he⟩ := s.riseZone_cases y
  · rw [he]
  · rw [he]
    obtain hs | hw := State.chain_cases hr.able
    · obtain ⟨c, -, hp⟩ := s.pendRise_supplied y hs
      have hz : ((s.setZone y { s.zone y with risePending := true }).withChain c).zone z = s.zone z :=
        s.zone_setZone_ne _ hne.symm
      rw [hp, State.beginRises, State.mapZones_zone, hz, if_neg]
      obtain h | h := h
      · simp [h]
      · obtain hs | ⟨hs, hd⟩ := hs <;> obtain hw | ⟨hw, hd'⟩ := h <;> simp_all
    · obtain ⟨c, -, -, hp⟩ := s.pendRise_waits y hw
      rw [hp]
      exact s.zone_setZone_ne _ hne.symm
  · rw [he]
    exact s.zone_setZone_ne _ hne.symm

theorem State.riseZone_supplied (h : s.Supplied) :
    (s.riseZone z).Supplied ∧ (s.chain.state = .on → (s.riseZone z).chain.state = .on) := by
  obtain he | ⟨-, he⟩ | ⟨-, he⟩ := s.riseZone_cases z
  · rw [he]; exact ⟨h, id⟩
  · obtain ⟨c, hc, hp⟩ := s.pendRise_supplied z h
    rw [he, hp]
    exact ⟨.inl hc, fun _ => hc⟩
  · rw [he]; exact ⟨h, id⟩

end

/-- A chain that waits keeps waiting, and its ready timer reads 0 behind the first rise that waits (R80). -/
theorem State.riseZone_waits {s : State} {z : ZoneId} (h : s.Waits) : (s.riseZone z).Waits ∧
    (s.chain.state = .wait → (s.riseZone z).chain.state = .wait) ∧
    (s.chain.state = .off ∨ (∀ y, (s.zone y).risePending = false) ∨ s.chain.readyTimer = 0 →
      (s.riseZone z).chain.state = .off ∨ (∀ y, ((s.riseZone z).zone y).risePending = false) ∨
        (s.riseZone z).chain.readyTimer = 0) ∧
    (s.chain.readyTimer = 0 → (s.riseZone z).chain.readyTimer = 0) := by
  obtain he | ⟨-, he⟩ | ⟨-, he⟩ := s.riseZone_cases z
  · rw [he]; exact ⟨h, id, id, id⟩
  · obtain ⟨c, hc, ht, hp⟩ := s.pendRise_waits z h
    rw [he, hp]
    exact ⟨.inl hc, fun _ => hc, fun hn => .inr (.inr (ht hn)), fun hn => ht (.inr (.inr hn))⟩
  · rw [he]
    refine ⟨h, id, fun hn => hn.imp_right (Or.imp_left fun hy y => ?_), id⟩
    by_cases hyz : y = z
    · rw [hyz, s.zone_setZone]; rfl
    · rw [s.zone_setZone_ne _ hyz]; exact hy y

/-! ### The zones in turn -/

/-- `u` is `s` but for the zones and the chain. -/
def ZonesOnly (s u : State) : Prop := u = { s with zones := u.zones, chain := u.chain }

namespace ZonesOnly

variable {s u : State} {z : ZoneId}

theorem refl (s : State) : ZonesOnly s s := rfl

theorem of_eq {zs : Trio Zone} {c : Chain} (h : u = { s with zones := zs, chain := c }) :
    ZonesOnly s u := by subst h; rfl

theorem step (h : ZonesOnly s u) (y : ZoneId) : ZonesOnly s (u.riseZone y) := by
  have hu : ∃ zs c, u.riseZone y = { u with zones := zs, chain := c } := by
    obtain he | ⟨hr, he⟩ | ⟨-, he⟩ := u.riseZone_cases y
    · exact ⟨_, _, he⟩
    · obtain hs | hw := State.chain_cases hr.able
      · obtain ⟨c, -, hp⟩ := u.pendRise_supplied y hs
        exact ⟨_, _, he.trans hp⟩
      · obtain ⟨c, -, -, hp⟩ := u.pendRise_waits y hw
        exact ⟨_, _, he.trans hp⟩
    · exact ⟨_, _, he⟩
  obtain ⟨zs, c, hu⟩ := hu
  exact of_eq (hu.trans (by rw [h]))

theorem inUse (h : ZonesOnly s u) : u.inUse z = s.inUse z := by rw [h]; rfl

theorem pins (h : ZonesOnly s u) : u.pins = s.pins := by rw [h]

theorem takeover (h : ZonesOnly s u) (x : Zone) : u.takeover z x = s.takeover z x := by rw [h]; rfl

theorem rises (h : ZonesOnly s u) (hb : s.braking = false) (hc : u.Supplied ∨ u.Waits) : u.Rises := by
  refine ⟨by rw [h]; exact hb, fun hf => ?_⟩
  rw [State.Supplied, State.Waits, hf] at hc
  simp at hc

theorem begun (h : ZonesOnly s u) (hz : u.zone z = s.zone z) : u.begun z = s.begun z := by
  rw [State.begun, hz, h]; rfl

end ZonesOnly

/-- The zones are asked in turn: what `z` finds, and what the others leave of its answer. -/
theorem State.riseAll_of_turn {P Q : State → Prop} {s : State} (z : ZoneId) (hs : P s)
    (before : ∀ u y, y ≠ z → P u → P (u.riseZone y)) (turn : ∀ u, P u → Q (u.riseZone z))
    (after : ∀ u y, y ≠ z → Q u → Q (u.riseZone y)) : Q s.riseAll := by
  unfold State.riseAll
  cases z with
  | z1 => exact after _ _ (by decide) (after _ _ (by decide) (turn _ hs))
  | z2 => exact after _ _ (by decide) (turn _ (before _ _ (by decide) hs))
  | z3 => exact turn _ (before _ _ (by decide) (before _ _ (by decide) hs))

section
variable {s : State} {z : ZoneId}

/-- A zone that is at its turn the first time its rise is asked begins it with the chain ON (R80, R84). -/
theorem State.riseAll_begins (hb : s.braking = false) (hs : s.Supplied) (hu : s.inUse z = true)
    (hr : (s.zone z).atRest = true) (hp : (s.zone z).risePending = false) :
    s.riseAll.zone z = s.begun z ∧ s.riseAll.chain.state = .on := by
  refine State.riseAll_of_turn (P := fun u => ZonesOnly s u ∧ u.Supplied ∧ u.zone z = s.zone z)
    (Q := fun u => u.zone z = s.begun z ∧ u.chain.state = .on) z ⟨.refl s, hs, rfl⟩ ?_ ?_ ?_
  · rintro u y hne ⟨ho, hs, hz⟩
    exact ⟨ho.step y, (State.riseZone_supplied hs).1,
      (State.riseZone_other hne (.inl (by rw [hz]; exact hp))).trans hz⟩
  · rintro u ⟨ho, hs, hz⟩
    obtain ⟨c, hc, he⟩ := u.pendRise_supplied z hs
    rw [State.riseZone_rest (ho.rises hb (.inl hs)) (by rw [ho.inUse, hu]) (by rw [hz]; exact hr), he]
    refine ⟨?_, hc⟩
    have hset : ((u.setZone z { u.zone z with risePending := true }).withChain c).zone z =
        { u.zone z with risePending := true } := u.zone_setZone z _
    rw [State.beginRises, State.mapZones_zone, hset, if_pos rfl, ← ho.begun hz]
    rfl
  · rintro u y hne ⟨hz, hc⟩
    exact ⟨(State.riseZone_other hne (.inl (by rw [hz]; rfl))).trans hz,
      (State.riseZone_supplied (.inl hc)).2 hc⟩

theorem State.riseAll_waits (hb : s.braking = false) (hs : s.Waits) (hu : s.inUse z = true)
    (hr : (s.zone z).atRest = true) :
    s.riseAll.zone z = { s.zone z with risePending := true } ∧ s.riseAll.chain.state = .wait ∧
      (s.chain.state = .off ∨ (∀ y, (s.zone y).risePending = false) → s.riseAll.chain.readyTimer = 0) := by
  refine State.riseAll_of_turn
    (P := fun u => ZonesOnly s u ∧ u.Waits ∧ u.zone z = s.zone z ∧
      (s.chain.state = .off ∨ (∀ y, (s.zone y).risePending = false) →
        u.chain.state = .off ∨ (∀ y, (u.zone y).risePending = false) ∨ u.chain.readyTimer = 0))
    (Q := fun u => u.zone z = { s.zone z with risePending := true } ∧ u.chain.state = .wait ∧
      (s.chain.state = .off ∨ (∀ y, (s.zone y).risePending = false) → u.chain.readyTimer = 0))
    z ⟨.refl s, hs, rfl, Or.imp_right .inl⟩ ?_ ?_ ?_
  · rintro u y hne ⟨ho, hs, hz, ht⟩
    obtain ⟨hw, -, htimer, -⟩ := State.riseZone_waits (z := y) hs
    exact ⟨ho.step y, hw, (State.riseZone_other hne (.inr hs)).trans hz, fun h => htimer (ht h)⟩
  · rintro u ⟨ho, hs, hz, ht⟩
    obtain ⟨c, hc, htimer, he⟩ := u.pendRise_waits z hs
    rw [State.riseZone_rest (ho.rises hb (.inr hs)) (by rw [ho.inUse, hu]) (by rw [hz]; exact hr), he]
    exact ⟨(u.zone_setZone z _).trans (by rw [hz]), hc, fun h => htimer (ht h)⟩
  · rintro u y hne ⟨hz, hc, ht⟩
    obtain ⟨-, hwait, -, htimer⟩ := State.riseZone_waits (z := y) (.inl hc)
    exact ⟨(State.riseZone_other hne (.inr (.inl hc))).trans hz, hwait hc, fun h => htimer (ht h)⟩

theorem State.riseAll_moving (hm : (s.zone z).state = .rising ∨ (s.zone z).state = .running)
    (hp : (s.zone z).risePending = false) : s.riseAll.zone z = s.zone z := by
  have other : ∀ (u : State) (y : ZoneId), y ≠ z → u.zone z = s.zone z → (u.riseZone y).zone z = s.zone z :=
    fun u y hne hz => (State.riseZone_other hne (.inl (by rw [hz]; exact hp))).trans hz
  refine State.riseAll_of_turn (P := fun u => u.zone z = s.zone z) (Q := fun u => u.zone z = s.zone z) z
    rfl other (fun u hz => ?_) other
  rw [State.riseZone_moving (by rw [hz]; exact hm)]
  exact hz

theorem State.riseAll_takes (hb : s.braking = false) (hc : s.chain.state ≠ .failed)
    (hu : s.inUse z = true) (hf : (s.zone z).state = .falling) (hp : (s.zone z).risePending = false) :
    s.riseAll.zone z = s.takeover z (s.zone z) := by
  refine State.riseAll_of_turn
    (P := fun u => ZonesOnly s u ∧ (u.Supplied ∨ u.Waits) ∧ u.zone z = s.zone z)
    (Q := fun u => u.zone z = s.takeover z (s.zone z)) z ⟨.refl s, State.chain_cases hc, rfl⟩ ?_ ?_ ?_
  · rintro u y hne ⟨ho, hs, hz⟩
    exact ⟨ho.step y, hs.imp (fun h => (State.riseZone_supplied h).1) fun h => (State.riseZone_waits h).1,
      (State.riseZone_other hne (.inl (by rw [hz]; exact hp))).trans hz⟩
  · rintro u ⟨ho, hs, hz⟩
    rw [State.riseZone_falling (ho.rises hb hs) (by rw [ho.inUse, hu]) (by rw [hz]; exact hf),
      u.zone_setZone, hz, ho.takeover]
  · exact fun u y hne hz => (State.riseZone_other hne (.inl (by rw [hz]; rfl))).trans hz

/-- A takeover of a fall (R85). -/
theorem State.takeover_takes (s : State) (z : ZoneId) : TakenOver s z (s.takeover z (s.zone z)) := by
  cases he : s.findEntry (s.zoneCfg z).riseStart (s.zoneCfg z).riseEnd
      fun v => (s.zone z).output ≤ v with
  | some i =>
    have ht : s.takeover z (s.zone z) = s.riseAt z i (s.zone z) := by simp only [State.takeover, he]; rfl
    obtain ⟨hlo, hhi, hp, hfirst⟩ := State.findEntry_some he
    rw [ht]
    refine ⟨rfl, fun j hj hje hout hbefore => ?_, fun hnone => ?_⟩
    · have hij : i = j := by
        have h1 : ¬ i < j := fun h => absurd (hbefore i hlo h) (by simpa using hp)
        have h2 : ¬ j < i := fun h => absurd (hfirst j hj h) (by simpa using hout)
        omega
      subst hij
      exact ⟨rfl, rfl, rfl⟩
    · exact absurd (hnone i hlo hhi) (by simpa using hp)
  | none =>
    have ht : s.takeover z (s.zone z) = s.riseAt z (s.zoneCfg z).riseEnd (s.zone z) := by
      simp only [State.takeover, he]; rfl
    rw [ht]
    refine ⟨rfl, fun j hj hje hout _ => ?_, fun _ => ⟨if_pos rfl, rfl⟩⟩
    exact absurd hout (by simpa using State.findEntry_none he j hj hje)

end

/-- The rise request of every zone in use, where nothing drops it (R80, R84). -/
theorem State.riseAll_asked {s : State} (hb : s.braking = false) : RisesAsked s s.riseAll :=
  ⟨fun hs _ => State.riseAll_begins hb hs, fun hs _ hu hr _ => State.riseAll_waits hb hs hu hr,
    fun _ => State.riseAll_moving⟩

theorem State.riseAll_dropped {s : State} (h : s.braking = true ∨ s.chain.state = .failed) :
    s.riseAll = s := by
  simp only [State.riseAll, State.riseZone_dropped h]

end Sys2Proof.Machine
end

section
/-! SUPPORT and the proof of PassTaken. -/

namespace Sys2Proof.Machine

/-! ### A PASS discarded -/

/-- A command that moves no notice's condition latches none (R191). -/
theorem latchNew_same {s t : State} (h : t.condition = s.condition) : latchNew s t = t := by
  unfold latchNew
  rw [h]
  induction Notice.all with
  | nil => rfl
  | cons n l ih => rw [List.foldl_cons, if_neg (by simp)]; exact ih

theorem State.condition_rx (s : State) (rest : List Frame) (stale : Nat) :
    (s.withLine { s.line with rx := rest, stale := stale }).condition = s.condition := by
  funext n; cases n <;> rfl

theorem done_took (s : State) (rest : List Frame) : done s (s.took rest) = .next (s.took rest) :=
  congrArg Host.Outcome.next (latchNew_same (s.condition_rx rest s.line.stale))

theorem done_stale (s : State) (rest : List Frame) :
    done s (s.took rest).countStale = .next (s.tookStale rest) := by
  have h : (s.took rest).countStale = s.tookStale rest := rfl
  rw [h]
  exact congrArg Host.Outcome.next (latchNew_same (s.condition_rx rest (min 255 (s.line.stale + 1))))

/-- PASS_TAKEN of a PASS at the front of the receive queue (R182). -/
theorem exec_passTaken {s : State} {f : Frame} {rest : List Frame} (h : Front s .pass f rest) :
    exec .passTaken s = done s ((s.took rest).passFrom f) := by
  have ht : s.takeFrame .pass = some (f, s.took rest) := by
    rw [State.takeFrame, h.queue]
    dsimp only
    rw [if_pos (by simp [h.configured, h.kind])]
    rfl
  show execPassTaken s = _
  rw [execPassTaken, ht]

theorem State.isUpstream_iff (s : State) (seg : Nat) : s.isUpstream seg = true ↔
    seg ≠ 0 ∧ (seg = s.cfg.upstream.a.segment ∨ seg = s.cfg.upstream.b.segment) := by
  simp only [State.isUpstream, Bool.and_eq_true, bne_iff_ne, Bool.or_eq_true, beq_iff_eq]
  exact and_congr Iff.rfl (or_congr eq_comm eq_comm)

theorem SheetRecord.inRange_iff (r : SheetRecord) : r.inRange = true ↔
    r.dest ≠ 0 ∧ 1000 ≤ r.nominal ∧ r.nominal ≤ 4800 ∧ r.side2.isSome = r.page2.isSome := by
  simp [SheetRecord.inRange, and_assoc]

section
variable {s : State} {f : Frame}

/-- A PASS to another node or from elsewhere is discarded (R8, case 1). -/
theorem State.passFrom_discards (h : field f.payload 0 7 4 ≠ s.cfg.segment ∨ f.origin = 0 ∨
    (f.origin ≠ s.cfg.upstream.a.segment ∧ f.origin ≠ s.cfg.upstream.b.segment) ∨
    byteAt f.payload 1 = 0) : s.passFrom f = s := by
  unfold State.passFrom
  by_cases hd : field f.payload 0 7 4 = s.cfg.segment
  · rw [if_neg (by simp [passReceiver, hd]), if_pos]
    have hup := s.isUpstream_iff f.origin
    rw [Bool.or_eq_true, Bool.not_eq_true', beq_iff_eq, ← Bool.not_eq_true, hup]
    obtain h | h | ⟨h1, h2⟩ | h := h
    · exact absurd hd h
    · exact .inl fun hn => hn.1 h
    · exact .inl fun hn => hn.2.elim h1 h2
    · exact .inr h
  · rw [if_pos (by simp [passReceiver, hd])]

/-- A PASS to this node from an upstream segment, by its record (R8). -/
theorem State.passFrom_upstream (hd : field f.payload 0 7 4 = s.cfg.segment) (h0 : f.origin ≠ 0)
    (hup : f.origin = s.cfg.upstream.a.segment ∨ f.origin = s.cfg.upstream.b.segment)
    (hs : byteAt f.payload 1 ≠ 0) :
    (passRecord f.payload = none → s.passFrom f = s.countStale) ∧
    (∀ r, passRecord f.payload = some r →
      (r.inRange = false → s.passFrom f = s.countStale) ∧
      (r.inRange = true → s.passFrom f = s.takePass r f.origin)) := by
  have hin : s.isUpstream f.origin = true := (s.isUpstream_iff _).mpr ⟨h0, hup⟩
  unfold State.passFrom
  rw [if_neg (by simp [passReceiver, hd]), if_neg (by simp [hin, hs])]
  refine ⟨fun hr => by rw [hr], fun r hr => ⟨fun h => ?_, fun h => ?_⟩⟩
  · rw [hr]; dsimp only; rw [if_neg (by simp [h])]
  · rw [hr]; dsimp only; rw [if_pos h]

end

/-! ### The arrival queue -/

theorem replaceArrival_at {a b : Arrival} {l front back : List Arrival}
    (h : FirstIn (fun b : Arrival => b.record.sheet = a.record.sheet) l front b back) :
    replaceArrival a l = front ++ a :: back := by
  obtain ⟨rfl, hb, hf⟩ := h
  induction front with
  | nil => exact if_pos hb
  | cons c front ih =>
    rw [List.cons_append, replaceArrival, if_neg (hf c List.mem_cons_self),
      ih fun y hy => hf y (List.mem_cons_of_mem _ hy)]
    rfl

section
variable {s : State} (p : PathState) (r : SheetRecord) (origin : Nat)

/-- The sheet's arrival entry is replaced (R8, case 4). -/
theorem State.announceArrival_replaces {front back : List Arrival} {a : Arrival}
    (h : FirstIn (fun b : Arrival => b.record.sheet = r.sheet) s.track.arrivals front a back) :
    s.announceArrival p r origin =
      (s.withArrivals (front ++ s.arrivalOf r origin :: back)).arrived := by
  unfold State.announceArrival; dsimp only
  rw [if_pos, replaceArrival_at h]
  exact List.any_eq_true.mpr ⟨a, by rw [h.split]; simp, beq_iff_eq.mpr h.meets⟩

section
variable (h : ∀ b ∈ s.track.arrivals, b.record.sheet ≠ r.sheet)
include h

/-- A new arrival entry finds a place (R8, case 5). -/
theorem State.announceArrival_appends (hroom : s.track.arrivals.length < 4) :
    s.announceArrival p r origin =
      (s.withArrivals (s.track.arrivals ++ [s.arrivalOf r origin])).arrived := by
  unfold State.announceArrival; dsimp only
  rw [if_neg, if_neg (by simpa [arrivalCap] using hroom)]
  simpa using h

/-- A new arrival entry finds no place (R8, case 6). -/
theorem State.announceArrival_full (hfull : 4 ≤ s.track.arrivals.length) :
    s.announceArrival p r origin = s.raiseFrom p .queue 2 r.sheet := by
  unfold State.announceArrival; dsimp only
  rw [if_neg, if_pos (by exact hfull)]
  simpa using h

end

theorem State.announceArrival_holds (s : State) :
    (s.announceArrival p r origin).track.table = s.track.table ∧
      (s.announceArrival p r origin).track.orphan = s.track.orphan := by
  have harr : ∀ l, (s.withArrivals l).arrived.track.table = s.track.table ∧
      (s.withArrivals l).arrived.track.orphan = s.track.orphan := fun l =>
    ⟨(s.withArrivals l).arrived_keeps.table, (s.withArrivals l).arrived_keeps.orphan⟩
  unfold State.announceArrival; dsimp only; split
  · exact harr _
  · split
    · exact ⟨(s.raiseFrom_keeps _ _ _ _).table, (s.raiseFrom_keeps _ _ _ _).orphan⟩
    · exact harr _

theorem State.arrived_stopped (h : s.Stopped) : s.arrived = s := by
  have hi : s.stop.path ≠ .idle ∧ s.stop.path ≠ .flush := by
    obtain h | h | h := h <;> rw [h] <;> decide
  rw [State.arrived, if_neg hi.1, State.haltAheadTest_stopped h, State.drainTest, if_neg fun hn => hi.2 hn.1]

/-- QUEUE of a command that has itself begun a stop in RUN joins it (R52; log 40). -/
theorem State.raiseFrom_queue_stopped (h : s.Stopped) (ho : s.stop.own ≠ none) (place sheet : Nat) :
    s.raiseFrom .run .queue place sheet = s.joinSite .queue place sheet := by
  have hp : (s.joinSite .queue place sheet).stop.path = s.stop.path := by
    rw [s.joinSite_stop, StopUnit.addSite_keeps]
    show (s.stop.setOwn .queue place sheet).path = _
    rw [StopUnit.setOwn_keeps]
  unfold State.raiseFrom
  obtain h | h | h := h
  · rw [if_neg (by rw [h]; decide), State.raise, if_pos (by rw [h]; rfl)]
    simp only [h]
    rw [State.joinStop, State.afterJoin, if_neg (by rw [hp, h]; decide), if_neg fun hn => ho hn.1]
  · exact if_pos (by rw [h]; rfl)
  · exact if_pos (by rw [h]; rfl)

/-- Behind a stop that the same command has begun in RUN, cases 4 to 6 of R8 leave the stop, or QUEUE
joins it. -/
theorem State.announceArrival_stopped (h : s.Stopped) (ho : s.stop.own ≠ none) :
    StandsAs s (s.announceArrival .run r origin) ∨
      s.announceArrival .run r origin = s.joinSite .queue 2 r.sheet := by
  have harr : ∀ l, StandsAs s (s.withArrivals l).arrived := fun l => by
    rw [State.arrived_stopped (s := s.withArrivals l) (h.of_stop rfl)]
    exact .of_only (s.withArrivals_only l)
  unfold State.announceArrival; dsimp only; split
  · exact .inl (harr _)
  · split
    · exact .inr (State.raiseFrom_queue_stopped h ho _ _)
    · exact .inl (harr _)

end

/-- What follows a new arrival entry in IDLE: the rise of every zone in use, or nothing where it is dropped
(R84, R147). -/
theorem State.arrived_rises {s v : State} {track : TrackUnit} {line : LineUnit}
    (hv : v = { s with track := track, line := line }) (hi : s.stop.path = .idle) :
    v.arrived.track.idlePass = true ∧ v.arrived.stop = s.stop ∧
    (s.braking = false → s.chain.state ≠ .failed → RisesAsked s v.arrived ∧
      ∀ z, s.inUse z = true → (s.zone z).state = .falling → (s.zone z).risePending = false →
        TakenOver s z (v.arrived.zone z)) ∧
    (s.braking = true ∨ s.chain.state = .failed →
      v.arrived.zones = s.zones ∧ v.arrived.chain = s.chain) := by
  have he : v.arrived = v.riseAll.withTrack { v.riseAll.track with idlePass := true } :=
    if_pos (by rw [hv]; exact hi)
  rw [he]
  refine ⟨rfl, v.riseAll_only.stop.trans (by rw [hv]), fun hb hc => ?_, fun hd => ?_⟩
  · have hrises := State.riseAll_asked (s := v) (by rw [hv]; exact hb)
    have htakes := fun z => State.riseAll_takes (s := v) (z := z) (by rw [hv]; exact hb) (by rw [hv]; exact hc)
    generalize v.riseAll = t at *
    subst hv
    refine ⟨{ hrises with }, fun z hu hf hp => ?_⟩
    have hz : t.zone z = s.takeover z (s.zone z) := htakes z hu hf hp
    show TakenOver s z (t.zone z)
    rw [hz]
    exact s.takeover_takes z
  · rw [State.riseAll_dropped (s := v) (by rw [hv]; exact hd), hv]
    exact ⟨rfl, rfl⟩

/-! ### The cases of R8 -/

theorem State.takePass_tracked {s : State} {r : SheetRecord} (origin : Nat)
    (h : ∃ e ∈ s.track.table, e.record.sheet = r.sheet) : s.takePass r origin = s := by
  obtain ⟨e, he, hs⟩ := h
  refine if_pos ?_
  exact List.find?_isSome.mpr ⟨e, he, beq_iff_eq.mpr hs⟩

section
variable {s : State} {r : SheetRecord} {origin : Nat}
  (hfresh : ∀ e ∈ s.track.table, e.record.sheet ≠ r.sheet)
include hfresh

theorem State.takePass_announces (ho : s.track.orphan = none) :
    s.takePass r origin = s.announceArrival s.stop.path r origin := by
  rw [State.takePass, State.entryOf_none hfresh, ho]; rfl

/-- A PASS with an orphan held, by its hold tracker and the table (R8, R12, R13). -/
theorem State.takePass_orphan {h : Nat} (ho : s.track.orphan = some h) : s.takePass r origin =
    if s.cfg.orphanHold < h then s.endOrphan.announceArrival s.stop.path r origin
    else if s.track.table.length < 8 then s.adopt r origin h
    else (((s.withOrphan none).raise .queue 1 r.sheet).leftTests).announceArrival s.stop.path r
      origin := by
  rw [State.takePass, State.entryOf_none hfresh, ho]; rfl

/-- An orphan past its hold distance ends with STRAY before the PASS is dealt with (R12). -/
theorem State.takePass_expired {h : Nat} (ho : s.track.orphan = some h) (hh : s.cfg.orphanHold < h) :
    (s.takePass r origin).track.orphan = none ∧
    (s.takePass r origin).track.table = s.track.table ∧
    (s.track.arrivals.length < 4 → (∀ b ∈ s.track.arrivals, b.record.sheet ≠ r.sheet) →
      (s.takePass r origin).track.arrivals.map (fun b => (b.record, b.sender)) =
        s.track.arrivals.map (fun b => (b.record, b.sender)) ++ [(r, origin)]) ∧
    (Clear s → StopBegun s .stray 1 0 (s.takePass r origin)) := by
  rw [State.takePass_orphan hfresh ho, if_pos hh]
  have hk := s.endOrphan_keeps
  have hb := State.endOrphan_begins (.refl _ s)
  have hcfg : s.endOrphan.cfg = s.cfg := s.endOrphan_only.cfg
  have harr : s.endOrphan.track.arrivals = s.track.arrivals := hk.arrivals
  generalize s.endOrphan = m at *
  obtain ⟨htab, horph⟩ := m.announceArrival_holds s.stop.path r origin
  refine ⟨horph.trans hk.orphan, htab.trans hk.table, fun hlen hnew => ?_, fun hc => ?_⟩
  · rw [State.announceArrival_appends _ _ _ (by rw [harr]; exact hnew) (by rw [harr]; exact hlen), harr,
      (State.arrived_keeps _).arrivals]
    exact List.map_append
  · have hbegun := hb (.inl hc.path) hc.own hc.room
    rw [hc.path]
    obtain hst | hj := State.announceArrival_stopped r origin hbegun.stopped (by rw [hbegun.own]; exact nofun)
    · exact hbegun.stands hst
    · rw [hj]
      exact hbegun.joined hcfg rfl (by decide) _ _

/-- An orphan that finds no place in the table ends with QUEUE (R13). -/
theorem State.takePass_crowded {h : Nat} (ho : s.track.orphan = some h) (hh : h ≤ s.cfg.orphanHold)
    (hfull : 8 ≤ s.track.table.length) (hc : Clear s) :
    (s.takePass r origin).track.orphan = none ∧
    (s.takePass r origin).stop.epoch = nextEpoch s.stop.epoch ∧
    (s.takePass r origin).stop.own = some ⟨.queue, 1, r.sheet, false⟩ := by
  rw [State.takePass_orphan hfresh ho, if_neg (by omega), if_neg (by omega), hc.path]
  have hb := hc.raise (u := s.withOrphan none) (.of_only (s.withOrphan_only _)) (c := .queue) rfl 1 r.sheet
  have hk := (s.withOrphan none).raise_keeps .queue 1 r.sheet
  rw [State.leftTests_stopped hb.stopped]
  generalize (s.withOrphan none).raise .queue 1 r.sheet = m at *
  refine ⟨(m.announceArrival_holds _ r origin).2.trans hk.orphan, ?_⟩
  obtain hst | hj := State.announceArrival_stopped r origin hb.stopped (by rw [hb.own]; exact nofun)
  · rw [hst.stop]
    exact ⟨hb.epoch, hb.own⟩
  · rw [hj, m.joinSite_stop, StopUnit.addSite_keeps]
    show (m.stop.setOwn .queue 2 r.sheet).epoch = _ ∧ (m.stop.setOwn .queue 2 r.sheet).own = _
    rw [StopUnit.setOwn, hb.own]
    exact ⟨hb.epoch, rfl⟩

end

/-! ### The adoption of the orphan -/

/-- `s` as a node that starts no release pulse, so that what stands beside a followed entry stays as it is. -/
def State.unreleasing (s : State) : State := { s with cfg := { s.cfg with kind := none } }

theorem State.not_releaseReady_unreleasing (s : State) (x : Nat) : ¬ s.unreleasing.releaseReady x :=
  fun h => nomatch h.1

theorem State.imagedEntry_keeps (s : State) (e : Entry) :
    s.imagedEntry e = { e with record := (s.imagedEntry e).record } := by
  unfold State.imagedEntry; split <;> rfl

/-- The state in which the orphan's entry has joined the table (R13). -/
def State.adopting (s : State) (r : SheetRecord) (origin hold : Nat) : State :=
  s.withTrack { s.track with
    table := s.track.table ++ [s.newEntry r origin hold], orphan := none }

theorem State.adopt_eq (s : State) (r : SheetRecord) (origin hold : Nat) : s.adopt r origin hold =
    ((((s.adopting r origin hold).claimAt .s1 r.sheet).imageAt .s1 r.sheet).haltAheadTest).leftTests :=
  rfl

/-- What the rest of an adoption leaves of the state behind its claim. -/
theorem State.adopt_behind (s : State) (r : SheetRecord) (origin hold : Nat) :
    ∃ u, u = (s.adopting r origin hold).claimAt .s1 r.sheet ∧
      (s.adopt r origin hold).gate = u.gate ∧ (s.adopt r origin hold).stations = s.stations ∧
      (s.adopt r origin hold).track.orphan = none ∧
      (s.adopt r origin hold).track.arrivals = s.track.arrivals ∧
      (u.Stopped → StandsAs u (s.adopt r origin hold)) := by
  have hq := (s.adopting r origin hold).claimAt_queue .s1 r.sheet
  have hst := ((s.adopting r origin hold).claimAt_only .s1 r.sheet).stations
  refine ⟨_, rfl, ?_⟩
  rw [State.adopt_eq]
  generalize (s.adopting r origin hold).claimAt .s1 r.sheet = u at *
  have hi := u.imageAt_only .s1 r.sheet
  have hiq := u.imageAt_queue .s1 r.sheet
  have his := fun h => State.imageAt_stopped (s := u) h .s1 r.sheet
  generalize u.imageAt .s1 r.sheet = w at *
  have hk := w.haltAheadTest_keeps.trans (State.leftTests_keeps _)
  refine ⟨hk.only.gate.trans hi.gate, hk.only.stations.trans (hi.stations.trans hst),
    hk.orphan.trans (hiq.orphan.trans hq.orphan), hk.arrivals.trans (hiq.arrivals.trans hq.arrivals),
    fun h => ?_⟩
  have hw := h.of_stop (his h).stop
  rw [State.haltAheadTest_stopped hw, State.leftTests_stopped hw]
  exact his h

section
variable {s : State} {r : SheetRecord} {origin hold : Nat}
  (hfresh : ∀ e ∈ s.track.table, e.record.sheet ≠ r.sheet)
include hfresh

theorem State.adopting_tracks : Tracks s.unreleasing s.track.table [] (s.adopting r origin hold)
    (s.newEntry r origin hold) :=
  .start rfl fun g hg => by
    rw [List.append_nil] at hg
    exact hfresh g hg

/-- The adopted entry stands behind the table as it was, with the claim and the image of a leading edge at
S1 (R13, R20, R90). -/
theorem State.adopt_entry : ∃ e, (s.adopt r origin hold).track.table = s.track.table ++ [e] ∧
    e = { s.newEntry r origin hold with record := s.imaged .s1 r, claimed := e.claimed } ∧
    (s.hasGate = false ∨ s.cfg.gateSet ≠ .s1 → e.claimed = 0) ∧
    (∀ p, s.hasGate = true → s.cfg.gateSet = .s1 → s.routeFor r.leg = some p →
      (s.gate.claims.length < 2 → e.claimed = p.next) ∧
      (2 ≤ s.gate.claims.length → e.claimed = 0)) := by
  have htr := State.adopting_tracks (origin := origin) (hold := hold) hfresh
  obtain ⟨f, hf⟩ : ∃ f, f = s.newEntry r origin hold := ⟨_, rfl⟩
  have hsheet : f.record.sheet = r.sheet := by rw [hf]; rfl
  have hzero : f.claimed = 0 := by rw [hf]; rfl
  have htrail : f.trail < s.cfg.gateStation.num := by
    rw [hf]
    show 0 < s.cfg.gateStation.num
    cases s.cfg.gateStation <;> decide
  rw [← hf] at htr ⊢
  obtain ⟨v, hv⟩ : ∃ v, v = s.adopting r origin hold := ⟨_, rfl⟩
  have hcfg : v.cfg = s.cfg := by rw [hv]; rfl
  have hgate : v.gate = s.gate := by rw [hv]; rfl
  have hhas : v.hasGate = s.hasGate := by rw [hv]; rfl
  have hroute : v.routeFor = s.routeFor := by rw [hv]; rfl
  rw [← hv] at htr
  obtain ⟨n, hclaim, hno, hyes⟩ := htr.claimAt .s1
  rw [hhas, hcfg] at hno hyes
  rw [hroute, hgate, show f.record.leg = r.leg by rw [hf]; rfl] at hyes
  have himage := hclaim.imageAt .s1
  have hucfg : (v.claimAt .s1 f.record.sheet).cfg = s.cfg := (v.claimAt_only _ _).cfg.trans hcfg
  rw [hucfg, State.imagedEntry_congr hucfg] at himage
  have hrec := State.imagedEntry_record (s := s) (k := .s1) (f := { f with claimed := n })
    (by rw [hf]; rfl)
  obtain ⟨e, he⟩ : ∃ e, e = if StationId.s1 = s.cfg.imageStation then
      s.imagedEntry { f with claimed := n } else { f with claimed := n } := ⟨_, rfl⟩
  have hshape : e = { f with record := e.record, claimed := n } := by
    rw [he]; split
    · exact s.imagedEntry_keeps _
    · rfl
  rw [← he] at himage hrec
  obtain ⟨ahead, behind, htab, ha, hb⟩ := (himage.keeps
    ((State.haltAheadTest_keeps _).trans (State.leftTests_keeps _))).split
  rw [ha.eq_of_not s.not_releaseReady_unreleasing, hb.nil] at htab
  have hn : e.claimed = n := by rw [hshape]
  refine ⟨e, ?_, ?_, fun h => by rw [hn, hno h, hzero], fun p hg hk hr => ⟨fun h => ?_, fun h => ?_⟩⟩
  · rw [State.adopt_eq, ← hv, ← hsheet]
    exact htab
  · rw [hn, hshape, hrec, hf]
    rfl
  · rw [hn, (hyes p hg hk hr).1 htrail h]
  · rw [hn, (hyes p hg hk hr).2.1 htrail h, hzero]

/-- The claim of an adopted sheet where S1 is the gate-set station, and its GATE with two claims standing
(R13, R90). -/
theorem State.adopt_gate : (s.hasGate = false ∨ s.cfg.gateSet ≠ .s1 →
      (s.adopt r origin hold).gate = s.gate) ∧
    (∀ p, s.hasGate = true → s.cfg.gateSet = .s1 → s.routeFor r.leg = some p →
      (s.gate.claims.length < 2 → ClaimMade s (s.adopt r origin hold) r.sheet p.gate) ∧
      (2 ≤ s.gate.claims.length → (s.adopt r origin hold).gate = s.gate ∧
        (Clear s → StopBegun s .gate s.cfg.gateStation.num r.sheet (s.adopt r origin hold)))) := by
  obtain ⟨u, hu, hgate, hst, -, -, hstop⟩ := s.adopt_behind r origin hold
  have he := (State.adopting_tracks (origin := origin) (hold := hold) hfresh).entryOf
  rw [State.newEntry_record] at he
  have hlt : (s.newEntry r origin hold).trail < s.cfg.gateStation.num := by
    show 0 < s.cfg.gateStation.num
    cases s.cfg.gateStation <;> decide
  generalize s.adopt r origin hold = t at *
  have hstands : StandsAs s (s.adopting r origin hold) := .of_only (s.withTrack_only _)
  refine ⟨fun h => ?_, fun p hg hk hr => ?_⟩
  · rw [hgate, hu, State.claimAt_elsewhere (u := s.adopting r origin hold) h]; rfl
  · rw [State.claimAt_here (u := s.adopting r origin hold) hg hk] at hu
    refine ⟨fun hfew => ?_, fun hfull => ?_⟩
    · exact ClaimMade.of_makeClaim (s := s) (u := s.adopting r origin hold) rfl rfl rfl hst he hr hlt hfew
        (hgate.trans (by rw [hu]))
    · rw [State.makeClaim_full he hr hlt hfull] at hu
      refine ⟨?_, fun hc => ?_⟩
      · rw [hgate, hu, (State.raise_only _ _ _ _).gate]; rfl
      · have hb := hc.raise hstands (c := .gate) rfl s.cfg.gateStation.num r.sheet
        have hb' : StopBegun s .gate s.cfg.gateStation.num r.sheet u := by rw [hu]; exact hb
        exact hb'.stands (hstop hb'.stopped)

/-- An orphan within its hold distance is adopted where the table has room (R8, R13). -/
theorem State.takePass_adopts {h : Nat} (ho : s.track.orphan = some h) (hh : h ≤ s.cfg.orphanHold)
    (hroom : s.track.table.length < 8) :
    ∃ e, (s.takePass r origin).track.table = s.track.table ++ [e] ∧
    (s.takePass r origin).track.orphan = none ∧
    (s.takePass r origin).track.arrivals = s.track.arrivals ∧
    e = { s.newEntry r origin h with record := s.imaged .s1 r, claimed := e.claimed } ∧
    (s.hasGate = false ∨ s.cfg.gateSet ≠ .s1 →
      e.claimed = 0 ∧ (s.takePass r origin).gate = s.gate) ∧
    (∀ p, s.hasGate = true → s.cfg.gateSet = .s1 → s.routeFor r.leg = some p →
      (s.gate.claims.length < 2 →
        e.claimed = p.next ∧ ClaimMade s (s.takePass r origin) r.sheet p.gate) ∧
      (2 ≤ s.gate.claims.length → e.claimed = 0 ∧ (s.takePass r origin).gate = s.gate ∧
        (Clear s → StopBegun s .gate s.cfg.gateStation.num r.sheet (s.takePass r origin)))) := by
  rw [State.takePass_orphan hfresh ho, if_neg (Nat.not_lt.mpr hh), if_pos hroom]
  obtain ⟨e, htab, he, hno, hyes⟩ := State.adopt_entry (origin := origin) (hold := h) hfresh
  obtain ⟨hgno, hgyes⟩ := State.adopt_gate (origin := origin) (hold := h) hfresh
  obtain ⟨-, -, -, -, horph, harr, -⟩ := s.adopt_behind r origin h
  refine ⟨e, htab, horph, harr, he, fun hg => ⟨hno hg, hgno hg⟩, fun p hg hk hr => ?_⟩
  obtain ⟨hnext, hzero⟩ := hyes p hg hk hr
  obtain ⟨hmade, hfull⟩ := hgyes p hg hk hr
  exact ⟨fun h2 => ⟨hnext h2, hmade h2⟩, fun h2 => ⟨hzero h2, hfull h2⟩⟩

end

/-! ### The statement -/

theorem State.took_stands (s : State) (rest : List Frame) : StandsAs s (s.took rest) :=
  ⟨rfl, rfl, rfl, rfl, rfl⟩

theorem Clear.took {s : State} (h : Clear s) (rest : List Frame) : Clear (s.took rest) :=
  h.of_stands (s.took_stands rest)

/-- Settles O49: the discarded and the stale frames one by one, and then the cases of R8 by the orphan and
the arrival queue. -/
theorem passTaken : Obligations.PassTaken := by
  intro s f rest hfront
  have hexec := exec_passTaken hfront
  have hst := s.took_stands rest
  refine ⟨fun h => ?_, fun hd h0 hup hsheet => ?_⟩
  · rw [hexec, State.passFrom_discards (s := s.took rest) h, done_took]
  obtain ⟨hnone, hsome⟩ := State.passFrom_upstream (s := s.took rest) hd h0 hup hsheet
  refine ⟨fun hr => by rw [hexec, hnone hr, done_stale], fun r hr => ⟨fun h => ?_, fun h1 h2 h3 h4 => ?_⟩⟩
  · have hout : r.inRange = false := by
      rw [← Bool.not_eq_true, r.inRange_iff]
      rintro ⟨h1, h2, h3, h4⟩
      obtain h | h | h | h := h
      · exact h1 h
      · omega
      · omega
      · exact h h4
    rw [hexec, (hsome r hr).1 hout, done_stale]
  rw [hexec, (hsome r hr).2 (r.inRange_iff.mpr ⟨h1, h2, h3, h4⟩)]
  refine ⟨fun htracked => ?_, fun hfresh => ?_⟩
  · rw [State.takePass_tracked (s := s.took rest) f.origin htracked, done_took]
  obtain ⟨n, hn⟩ := done_eq s ((s.took rest).takePass r f.origin)
  rw [hn]
  refine ⟨fun h ho hh => ?_, fun h ho hh hroom => ?_, fun h ho hh hfull hc => ?_, fun ho new hnew => ?_⟩
  · obtain ⟨horph, htab, harr, hstray⟩ := State.takePass_expired (s := s.took rest) (origin := f.origin)
      hfresh ho hh
    exact ⟨_, rfl, horph, htab, harr, fun hc => ((hstray (hc.took rest)).of_source hst).noted n⟩
  · obtain ⟨e, htab, horph, harr, he, hno, hyes⟩ := State.takePass_adopts (s := s.took rest)
      (origin := f.origin) hfresh ho hh hroom
    generalize (s.took rest).takePass r f.origin = t at *
    refine ⟨_, e, rfl, htab, horph, harr, by rw [he]; rfl, by rw [he]; rfl, by rw [he]; rfl, by rw [he]; rfl,
      by rw [he]; rfl, by rw [he]; rfl, by rw [he]; rfl, hno, fun p hg hk hp => ?_⟩
    obtain ⟨hfew, hfull⟩ := hyes p hg hk hp
    refine ⟨fun h2 => ⟨(hfew h2).1, { (hfew h2).2 with }⟩, fun h2 => ?_⟩
    obtain ⟨hclaimed, hgate, hstop⟩ := hfull h2
    exact ⟨hclaimed, hgate, fun hc => ((hstop (hc.took rest)).of_source hst).noted n⟩
  · obtain ⟨horph, hepoch, hown⟩ := State.takePass_crowded (s := s.took rest) (origin := f.origin)
      hfresh ho hh hfull (hc.took rest)
    exact ⟨_, rfl, horph, hepoch, hown⟩
  · have harrival : new = (s.took rest).arrivalOf r f.origin := hnew
    rw [State.takePass_announces (s := s.took rest) hfresh ho]
    refine ⟨fun front a back hfirst => ⟨_, rfl, ?_⟩, fun hother => ?_⟩
    · rw [State.announceArrival_replaces (s := s.took rest) _ r f.origin hfirst, ← harrival]
      exact ⟨(State.arrived_keeps _).arrivals, (State.arrived_keeps _).table⟩
    · refine ⟨fun hroom => ⟨_, rfl, ?_⟩, fun hfull hc => ⟨_, rfl, ?_⟩⟩
      · rw [State.announceArrival_appends (s := s.took rest) _ r f.origin hother hroom, ← harrival]
        have hk := ((s.took rest).withArrivals (s.track.arrivals ++ [new])).arrived_keeps
        have hrises := State.arrived_rises (s := s)
          (v := (s.took rest).withArrivals (s.track.arrivals ++ [new])) rfl
        rw [show (s.took rest).track.arrivals = s.track.arrivals from rfl]
        generalize ((s.took rest).withArrivals (s.track.arrivals ++ [new])).arrived = t at *
        refine ⟨hk.arrivals, hk.table, fun hi => ?_⟩
        obtain ⟨hmark, hstop, hasked, hdropped⟩ := hrises hi
        refine ⟨hmark, hstop, fun hb hc => ?_, hdropped⟩
        obtain ⟨hall, htaken⟩ := hasked hb hc
        exact ⟨{ hall with }, htaken⟩
      · have hu := hc.took rest
        rw [State.announceArrival_full (s := s.took rest) _ r f.origin hother hfull, State.raiseFrom_first]
        exact ⟨((hu.raise (.refl _) rfl 2 r.sheet).of_source hst).noted n,
          (State.raise_keeps _ _ _ _).arrivals⟩

end Sys2Proof.Machine
end

section
/-! SUPPORT and the proof of EveryCommandAnswersWithinItsFrame: each command answers a next state, and its
effects stay within the parts that its operations name. -/

namespace Sys2Proof.Machine

-- One proof at a time: elaborated together they ask for more threads than the check's memory limit grants.
set_option Elab.async false

/-! ### Answers within a frame -/

/-- One operation after another, each within parts of `n`. -/
theorem changesOnly.andThen {l m n : List Part} {s t u : State} (h : changesOnly l s t)
    (k : changesOnly m t u) (hl : l ⊆ n := by decide) (hm : m ⊆ n := by decide) :
    changesOnly n s u := h.comp k hl hm

/-- The outcome is a next state, which leaves every part outside `l` as it was. -/
def Within (l : List Part) (s : State) (o : Host.Outcome State Fault Refusal) : Prop :=
  ∃ t, o = .next t ∧ changesOnly l s t

namespace Within

variable {l m : List Part} {s u : State}

theorem next (h : changesOnly m s u) (hm : m ⊆ l := by decide) : Within l s (.next u) :=
  ⟨u, rfl, h.mono hm⟩

theorem stays (l : List Part) (s : State) : Within l s (.next s) := ⟨s, rfl, .refl l s⟩

/-- A command's end latches notices (R191). -/
theorem ends {r : State} (h : changesOnly l s u) (hn : [.notices] ⊆ l := by decide) :
    Within l s (done r u) :=
  ⟨latchNew r u, rfl, h.trans ((latchNew_only r u).mono hn)⟩

theorem done {r : State} (h : changesOnly m s u) (hm : m ⊆ l := by decide)
    (hn : [.notices] ⊆ l := by decide) : Within l s (done r u) := ends (h.mono hm) hn

theorem ite {c : Prop} [Decidable c] {a b : Host.Outcome State Fault Refusal}
    (ha : c → Within l s a) (hb : ¬ c → Within l s b) : Within l s (if c then a else b) := by
  split
  · exact ha ‹_›
  · exact hb ‹_›

theorem decline (s : State) (why : Status) (hr : [.reply] ⊆ l := by decide) :
    Within l s (s.decline why) := next (s.answer_only _) hr

/-- A local command without data (R188, R189). -/
theorem command {n : Nat} {act : Host.Outcome State Fault Refusal} (h : Within l s act)
    (hr : [.reply] ⊆ l := by decide) : Within l s (s.command n act) :=
  ite (fun _ => stays l s) fun _ => ite (fun _ => decline s _ hr) fun _ => h

/-- A command that takes a frame and acts on it (R182). -/
theorem frameTaken {k : FrameKind} {act : Frame → State → State}
    (h : ∀ f t, changesOnly m t (act f t)) (hm : m ⊆ l := by decide) (hl : [.line] ⊆ l := by decide)
    (hn : [.notices] ⊆ l := by decide) :
    Within l s (match s.takeFrame k with
      | some (f, s1) => Machine.done s (act f s1)
      | none => .next s) := by
  split
  · exact ends ((State.takeFrame_only ‹_›).comp (h _ _) hl hm) hn
  · exact stays l s

end Within

theorem State.takeDeliver_only {s t : State} {p : Nat → Bool} {f : Frame}
    (h : s.takeDeliver p = some (f, t)) : changesOnly [.line] s t := by
  unfold State.takeDeliver at h; split at h
  · split at h
    · cases h; exact State.takeFrame_only ‹_›
    · cases h
  · cases h

/-- A DELIVER that one of the three commands takes (R142, R143). -/
theorem Within.delivered {s : State} {p : Nat → Bool} {act : Frame → State → State}
    (h : ∀ f t, changesOnly sinkParts t (act f t)) :
    Within [.feed, .zones, .chain, .line, .notices] s (match s.takeDeliver p with
      | some (f, s1) => Machine.done s (act f s1)
      | none => .next s) := by
  split
  · exact .done (((State.takeDeliver_only ‹_›).mono (by decide)).trans (h _ _))
  · exact .stays _ s

/-! ### Resets and the local port -/

theorem State.powerOn_only (s : State) (high : Bool) :
    changesOnly (mayChange .resetnLow) s (s.powerOn high) := by
  intro p hp; cases p <;> first | rfl | simp [mayChange] at hp

/-- The start values keep the configuration, the pins, the supply monitor, the notices and the queue
(R186). -/
theorem State.startValues_only (s : State) :
    changesOnly [.stop, .stations, .zones, .chain, .track, .gate, .pulses, .tags, .clear, .feed, .plan,
      .deliv, .line, .reply] s s.startValues := by
  intro p hp; cases p <;> first | rfl | simp at hp

theorem State.enterIdle_only (s : State) (brake : Bool) :
    changesOnly (mayChange (.start 0)) s (s.enterIdle brake) :=
  (s.startValues_only.mono (by decide)).trans <| ((State.markCycle_only _).mono (by decide)).trans <|
    ((State.brakeIf_only _ _).mono (by decide)).trans <| ((State.push_only _ _).mono (by decide)).trans
    ((State.resendInputs_only _).mono (by decide))

theorem execConfigWrite_within (item : ConfigItem) (v : ConfigValue) (s : State) :
    Within [.cfg, .supply, .reply] s (execConfigWrite item v s) := by
  refine .ite (fun _ => .stays _ s) fun _ => .ite (fun _ => .decline s _) fun _ =>
    .ite (fun _ => .decline s _) fun _ => ?_
  split
  · exact .decline s _
  · next c _ =>
    have h : changesOnly [.cfg, .supply, .reply] s ((s.withCfg c).answer (accept 0 .noData)) :=
      .andThen (s.withCfg_only c) (State.answer_only _ _)
    dsimp only; split
    · exact .next (h.trans ((State.superviseSupply_only _).mono (by decide)))
    · exact .next h

theorem execConfigRead_within (item : ConfigItem) (n : Nat) (s : State) :
    Within [.reply] s (execConfigRead item n s) := by
  refine .command ?_
  split
  · exact .decline s _
  · exact .next (s.answer_only _)

theorem execStart_within (n : Nat) (s : State) :
    Within (mayChange (.start 0)) s (execStart n s) := by
  refine .command (.ite (fun _ => .decline s _) fun _ => ?_)
  split
  · exact .next (s.answer_only _)
  · exact .done ((s.enterIdle_only _).trans ((State.answer_only _ _).mono (by decide)))

theorem execRestart_within (n : Nat) (s : State) :
    Within (mayChange (.start 0)) s (execRestart n s) :=
  .command <| .ite
    (fun _ => .next <| (s.enterIdle_only _).trans <|
      ((State.withNotices_only _ _).mono (by decide)).trans ((State.answer_only _ _).mono (by decide)))
    fun _ => .decline s _

/-- The parts that a command on the feed unit's queues may change. -/
def queueParts : List Part := [.feed, .zones, .chain, .notices, .reply]

theorem execPageSubmit_within (data : List Byte) (s : State) :
    Within queueParts s (execPageSubmit data s) := by
  refine .ite (fun _ => .stays _ s) fun _ => .ite (fun _ => .decline s _) fun _ => ?_
  split
  · exact .decline s _
  · exact .done (s.addPage_only _)

/-- What follows an accepted change of the feed unit's queues: the reply and the issue test (R141). -/
theorem State.queuesChanged_only (s : State) (f : FeedUnit) (r : Reply) :
    changesOnly queueParts s ((s.withFeed f).answer r).feedTest :=
  ((s.withFeed_only f).mono (by decide)).trans <| ((State.answer_only _ _).mono (by decide)).trans
    ((State.feedTest_only _).mono (by decide))

theorem execStreamCancel_within (stream n : Nat) (s : State) :
    Within queueParts s (execStreamCancel stream n s) := by
  refine .command ?_
  split
  · exact .decline s _
  · exact .done (s.queuesChanged_only _ _)

theorem execStreamRelease_within (stream n : Nat) (s : State) :
    Within queueParts s (execStreamRelease stream n s) := by
  refine .command ?_
  split
  · exact .decline s _
  · exact .ite (fun _ => .done (s.queuesChanged_only _ _)) fun _ => .decline s _

theorem execRead_within (c : Collection) (i n : Nat) (s : State) :
    Within [.reply] s (execRead c i n s) :=
  .command <| .ite (fun _ => .decline s _) fun _ => .ite (fun _ => .decline s _) fun _ =>
    .next (s.answer_only _)

theorem State.zeroCounters_only (s : State) : changesOnly [.stop, .line] s s.zeroCounters :=
  .andThen (s.withStop_only _) (State.withLine_only _ _)

theorem execReadCounters_within (n : Nat) (s : State) :
    Within [.stop, .line, .reply] s (execReadCounters n s) :=
  .command <| .next <|
    .andThen (n := [.stop, .line, .reply]) s.zeroCounters_only (State.answer_only _ _)

/-- A notice command rewrites the notices and replies (R191, R192). -/
theorem State.noticesAnswered_within (s : State) (n : Nat) (f : Notice → NoticeState → NoticeState)
    (r : Reply) : Within [.notices, .reply] s (s.command n (.next ((s.mapNotices f).answer r))) :=
  .command <| .next <|
    .andThen (n := [.notices, .reply]) (s.mapNotices_only f) (State.answer_only _ _)

/-! ### Edges and passing on -/

theorem execEncoderCountedEdge_within (z : ZoneId) (rising : Bool) (s : State) :
    Within [.pins, .zones, .stations, .track, .pulses, .feed, .notices] s
      (execEncoderCountedEdge z rising s) := by
  have h : changesOnly [.pins] s (s.setEnc z rising) := s.withPins_only _
  exact .ite (fun _ => .ends (.andThen h (State.countEdge_only _ _)))
    fun _ => .next h

theorem execSensorRawChange_within (k : StationId) (high : Bool) (s : State) :
    Within (.pins :: edgeParts) s (execSensorRawChange k high s) := by
  have h : changesOnly (.pins :: edgeParts) s (s.setSns k high) := (s.withPins_only _).mono (by decide)
  exact .ite
    (fun _ => .ite (fun _ => .done (h.trans ((State.takeEdge_only _ _ _).mono (by decide))))
      fun _ => .done (h.trans ((State.setStation_only _ _ _).mono (by decide))))
    fun _ => .next h

theorem execPassPointReached_within (i : Nat) (s : State) :
    Within leaveParts s (execPassPointReached i s) := by
  unfold execPassPointReached; split
  · exact .ite (fun _ => .done (s.passPoint_only _)) fun _ => .stays _ s
  · exact .stays _ s

theorem execDeferredPass_within (i : Nat) (s : State) : Within leaveParts s (execDeferredPass i s) := by
  unfold execDeferredPass; split
  · exact .ite (fun _ => .done (s.sendPass_only _ _)) fun _ => .stays _ s
  · exact .stays _ s

/-! ### Window and guard tests -/

theorem execLateAtStation_within (i : Nat) (s : State) :
    Within stopParts s (execLateAtStation i s) := by
  unfold execLateAtStation; split
  · exact .ite (fun _ => .done (s.raise_only _ _ _)) fun _ => .stays _ s
  · exact .stays _ s

theorem execLateAtS1_within (i : Nat) (s : State) : Within stopParts s (execLateAtS1 i s) := by
  unfold execLateAtS1; split
  · exact .ite (fun _ => .done (s.raise_only _ _ _)) fun _ => .stays _ s
  · exact .stays _ s

theorem execGateGuardFail_within (i : Nat) (s : State) :
    Within stopParts s (execGateGuardFail i s) := by
  unfold execGateGuardFail; split
  · exact .ite (fun _ => .done (s.raise_only _ _ _)) fun _ => .stays _ s
  · exact .stays _ s

/-! ### Feeding -/

theorem execIssue_within (s : State) : Within stopParts s (execIssue s) := by
  unfold execIssue; split
  · exact .done (s.issuePage_only _)
  · exact .stays _ s

/-- The start test holds in IDLE alone, where LINE is dropped (R45, R145). -/
theorem State.raise_line_of_startTest {s t : State} (h : s.startTest = true) (ht : t.stop = s.stop)
    (place sheet : Nat) : t.raise .line place sheet = t := by
  have hp : s.stop.path = .idle := by
    simp only [State.startTest, State.startReady, Bool.and_eq_true, beq_iff_eq] at h
    exact h.1.1.1.1.2
  exact t.raise_dropped _ _ _ (by rw [ht, hp]; rfl)

theorem execStartGo_within (s : State) : Within [.line, .feed, .notices] s (execStartGo s) := by
  refine .ite (fun h => .ite (fun _ => .done ?_ (List.Subset.refl _)) fun _ => ?_) fun _ => .stays _ s
  · exact .andThen (s.push_only _) (State.withFeed_only _ _)
  · rw [State.raise_line_of_startTest h (by exact rfl)]
    exact .done (s.withLine_only _)

theorem execRestTimerExpiry_within (s : State) : Within stopParts s (execRestTimerExpiry s) :=
  .ite (fun _ => .done (((s.withFeed_only _).mono (by decide)).trans (State.queueFrame_only _ _ _)))
    fun _ => .stays _ s

theorem execRestTaken_within (s : State) :
    Within [.stop, .zones, .chain, .track, .pulses, .feed, .line, .notices] s (execRestTaken s) := by
  unfold execRestTaken; split
  · have h := State.takeFrame_only ‹_›
    exact .ite (fun _ => .ends (.andThen h (State.rest_only _)))
      fun _ => .done h
  · exact .stays _ s

/-! ### Drive -/

theorem execDrdyPresent_within (s : State) :
    Within [.pins, .chain, .zones, .notices] s (execDrdyPresent s) := by
  have h : changesOnly [.pins, .chain, .zones] s (s.setDrdy true) := (s.withPins_only _).mono (by decide)
  exact .ite
    (fun _ => .done <| h.trans <| ((State.withChain_only _ _).mono (by decide)).trans <|
      ((State.beginRises_only _).mono (by decide)).trans ((State.feedTest_only _).mono (by decide)))
    fun _ => .next h

theorem execReadyTimerExpiry_within (s : State) : Within stopParts s (execReadyTimerExpiry s) :=
  .ite (fun _ => .done <| (s.withdrawRises_only.mono (by decide)).trans <|
    ((State.withChain_only _ _).mono (by decide)).trans (State.chainFails_only _)) fun _ => .stays _ s

theorem execDrdyLost_within (s : State) : Within (.pins :: stopParts) s (execDrdyLost s) := by
  have h : changesOnly (.pins :: stopParts) s (s.setDrdy false) := (s.withPins_only _).mono (by decide)
  exact .ite
    (fun _ => .ite
      (fun _ => .done <| h.trans <| ((State.brakeMoving_only _).mono (by decide)).trans
        ((State.chainFails_only _).mono (by decide)))
      fun _ => .done (h.trans ((State.withChain_only _ _).mono (by decide))))
    fun _ => .next h

theorem execZoneStep_within (z : ZoneId) (s : State) : Within stopParts s (execZoneStep z s) := by
  have h : changesOnly stopParts s (s.setZone z (s.stepZone z (s.zone z))).zonesChanged :=
    ((s.setZone_only _ _).mono (by decide)).trans (State.zonesChanged_only _)
  refine .ite (fun _ => ?_) fun _ => .stays _ s
  dsimp only; split
  · exact .done (h.trans ((State.feedTest_only _).mono (by decide)))
  · exact .done h

theorem execSilenceTimeout_within (z : ZoneId) (s : State) :
    Within stopParts s (execSilenceTimeout z s) :=
  .ite (fun _ => .done (.foldl _ (fun t y => t.silence_only _ y) _ s)) fun _ => .stays _ s

/-! ### Tags and supply -/

theorem execInputPinChange_within (i : InputId) (high : Bool) (s : State) :
    Within [.pins, .tags] s (execInputPinChange i high s) := by
  have h : changesOnly [.pins] s (s.setInp i high) := s.withPins_only _
  exact .ite (fun _ => .next (.andThen (n := [.pins, .tags]) h (State.setInput_only _ _ _)))
    fun _ => .next h

theorem execTagHoldExpiry_within (i : InputId) (s : State) :
    Within stopParts s (execTagHoldExpiry i s) :=
  .ite (fun _ => .done (((s.setInput_only _ _).mono (by decide)).trans (State.queueFrame_only _ _ _)))
    fun _ => .stays _ s

theorem execVsenseChange_within (v : Nat) (s : State) :
    Within [.pins, .supply] s (execVsenseChange v s) := by
  have h : changesOnly [.pins] s (s.withPins { s.pins with vsense := v }) := s.withPins_only _
  exact .ite
    (fun _ => .next (.andThen (n := [.pins, .supply]) h (State.superviseSupply_only _)))
    fun _ => .next h

/-! ### Delivery, survey and plan -/

theorem execFdone_within (high : Bool) (s : State) :
    Within ([.pins, .gate, .deliv] ++ stopParts) s (execFdone high s) := by
  have h : changesOnly ([.pins, .gate, .deliv] ++ stopParts) s (s.setFdone high) :=
    (s.withPins_only _).mono (by decide)
  exact .ite (fun _ => .done (h.trans ((State.opDone_only _).mono (by decide)))) fun _ => .next h

theorem execOperationTimeout_within (s : State) :
    Within [.deliv, .clear, .notices] s (execOperationTimeout s) := by
  have h : changesOnly [.deliv, .clear] s
      (s.withDeliv { s.deliv with opTimer := operationMs }).opFailed :=
    ((s.withDeliv_only _).trans (State.opFailed_only _)).mono (by decide)
  exact .ite (fun _ => .stays _ s) fun _ => .ite
    (fun _ => .done (h.trans ((State.residualFound_only _).mono (by decide)))) fun _ => .done h

theorem execAnnouncementQueued_within (s : State) :
    Within [.deliv, .line, .notices] s (execAnnouncementQueued s) := by
  unfold execAnnouncementQueued; split
  · exact .stays _ s
  · exact .ite (fun _ => .ends (.andThen (s.push_only _) (State.withDeliv_only _ _))) fun _ => .stays _ s

theorem execPlanFrameQueued_within (s : State) :
    Within [.plan, .line, .notices] s (execPlanFrameQueued s) := by
  unfold execPlanFrameQueued; split
  · exact .stays _ s
  · exact .ite (fun _ => .ends (.andThen (s.push_only _) (State.withPlan_only _ _))) fun _ => .stays _ s

theorem execPlanGoQueued_within (s : State) :
    Within [.plan, .line, .notices] s (execPlanGoQueued s) :=
  .ite (fun _ => .ends (.andThen (s.push_only _) (State.withPlan_only _ _))) fun _ => .stays _ s

/-- The parts that PLAN may change. -/
def planParts : List Part := [.track, .clear, .line, .notices]

theorem execPlanPurge_within (s : State) : Within planParts s (execPlanPurge s) := by
  unfold execPlanPurge; split
  · exact .ite (fun _ => .stays _ s) fun _ => .done <| ((State.takeFrame_only ‹_›).mono (by decide)).trans
      (State.planFrom_only _ _ _ fun t => t.planPurge_only _)
  · exact .stays _ s

theorem execPlanBind_within (s : State) : Within planParts s (execPlanBind s) := by
  unfold execPlanBind; split
  · exact .ite (fun _ => .done <| ((State.takeFrame_only ‹_›).mono (by decide)).trans
      (State.planFrom_only _ _ _ fun t => t.planBind_only _ _)) fun _ => .stays _ s
  · exact .stays _ s

theorem execReportTaken_within (s : State) :
    Within [.plan, .line, .notices] s (execReportTaken s) :=
  .frameTaken (act := fun f t => if s.isKind .feed then t.report f else t) (m := [.plan]) fun f t => by
    split
    · exact t.report_only f
    · exact .refl _ t

theorem execReadyTaken_within (s : State) :
    Within [.feed, .plan, .line, .notices] s (execReadyTaken s) :=
  .frameTaken (act := fun f t => if s.isKind .feed then t.readyFrom f else t) (m := [.feed, .plan])
    fun f t => by
      split
      · exact t.readyFrom_only f
      · exact .refl _ t

theorem execReportQueued_within (s : State) :
    Within [.clear, .line, .notices] s (execReportQueued s) := by
  unfold execReportQueued; split
  · exact .stays _ s
  · exact .ite (fun _ => .ends (.andThen (s.push_only _) (State.withClear_only _ _))) fun _ => .stays _ s

theorem execReadyQueued_within (s : State) :
    Within ([.line, .clear, .plan] ++ enterParts) s (execReadyQueued s) :=
  .ite (fun _ => .ite
      (fun _ => .ends (.andThen (s.push_only _) (State.withClear_only _ _)))
      fun _ => .ite (fun _ => .done s.announceReady_only) fun _ => .stays _ s)
    fun _ => .stays _ s

/-! ### The line -/

theorem execTransmitError_within (s : State) : Within stopParts s (execTransmitError s) := by
  unfold execTransmitError; split
  · exact .stays _ s
  · exact .done (s.limitTest_only.trans ((State.withLine_only _ _).mono (by decide)))

theorem execFrameSent_within (s : State) : Within stopParts s (execFrameSent s) := by
  unfold execFrameSent; split
  · exact .stays _ s
  · exact .done (s.limitTest_only.trans (State.sent_only _ _ _))

theorem execFrameReceived_within (bits : List Bool) (s : State) :
    Within stopParts s (execFrameReceived bits s) := by
  refine .ite (fun _ => ?_) fun _ => .stays _ s
  split
  · exact .next s.countCrc_only
  · exact .next s.countStale_only
  · exact .done (s.receive_only _ _)

/-! ### Every command -/

theorem exec_within (c : Instr) (s : State) : Within (mayChange c) s (exec c s) := by
  cases c with
  | powerOnReset =>
    exact .next ((s.powerOn_only true).trans ((State.superviseSupply_only _).mono (by decide)))
  | configWrite item v => exact execConfigWrite_within item v s
  | configRead item n => exact execConfigRead_within item n s
  | start n => exact execStart_within n s
  | restart n => exact execRestart_within n s
  | pageSubmit data => exact execPageSubmit_within data s
  | streamCancel st n => exact execStreamCancel_within st n s
  | streamRelease st n => exact execStreamRelease_within st n s
  | read c i n => exact execRead_within c i n s
  | readCounters n => exact execReadCounters_within n s
  | noticeRead n => exact Within.command (l := [.reply]) (.next (s.answer_only _))
  | noticeClear names fits => exact s.noticesAnswered_within _ _ _
  | noticeSetup enable level fits => exact s.noticesAnswered_within _ _ _
  | encoderCountedEdge z rising => exact execEncoderCountedEdge_within z rising s
  | sensorRawChange k high => exact execSensorRawChange_within k high s
  | filterCountComplete k =>
    exact Within.ite (l := edgeParts) (fun _ => .done (s.takeEdge_only k false)) fun _ => .stays _ s
  | stillEdge k =>
    exact Within.ite (l := edgeParts) (fun _ => .done (s.takeEdge_only k true)) fun _ => .stays _ s
  | passPointReached i => exact execPassPointReached_within i s
  | deferredPass i => exact execDeferredPass_within i s
  | lateAtStation i => exact execLateAtStation_within i s
  | lateAtS1 i => exact execLateAtS1_within i s
  | stall k =>
    exact Within.ite (l := stopParts) (fun _ => .done (s.raise_only _ _ _)) fun _ => .stays _ s
  | orphanHoldExpiry =>
    exact Within.ite (l := stopParts) (fun _ => .done s.endOrphan_only) fun _ => .stays _ s
  | gateGuardFail i => exact execGateGuardFail_within i s
  | pulseDelayComplete p => exact Within.done (l := stopParts) (s.completeDelay_only p)
  | pulseWidthEnd p => exact Within.done (l := stopParts) (s.endWidth_only p)
  | paceGapReached =>
    exact Within.ite (l := [.zones, .chain, .notices]) (fun _ => .done s.feedTest_only)
      fun _ => .stays _ s
  | issue => exact execIssue_within s
  | startGo => exact execStartGo_within s
  | restTimerExpiry => exact execRestTimerExpiry_within s
  | drdyPresent => exact execDrdyPresent_within s
  | readyTimerExpiry => exact execReadyTimerExpiry_within s
  | drdyLost => exact execDrdyLost_within s
  | zoneStep z => exact execZoneStep_within z s
  | silenceTimeout z => exact execSilenceTimeout_within z s
  | inputPinChange i high => exact execInputPinChange_within i high s
  | tagHoldExpiry i => exact execTagHoldExpiry_within i s
  | vsenseChange v => exact execVsenseChange_within v s
  | supplyHoldExpiry =>
    exact Within.ite (l := .supply :: stopParts) (fun _ => .done s.supplyTurns_only) fun _ => .stays _ s
  | fdone high => exact execFdone_within high s
  | operationTimeout => exact execOperationTimeout_within s
  | announcementQueued => exact execAnnouncementQueued_within s
  | jamcallTaken =>
    exact Within.frameTaken (l := stopParts) (act := fun f t => t.jamcallFrom f) fun f t =>
      t.jamcallFrom_only f
  | stopstateTaken =>
    exact Within.frameTaken (l := stopParts) (act := fun f t => t.stopstateFrom f) fun f t =>
      t.stopstateFrom_only f
  | tagstateTaken =>
    exact Within.frameTaken (l := delivParts) (act := fun f t => t.tagFrom f) fun f t => t.tagFrom_only f
  | passTaken =>
    exact Within.frameTaken (l := leaveParts) (act := fun f t => t.passFrom f) fun f t =>
      t.passFrom_only f
  | deliverFinal =>
    exact Within.delivered (act := fun f t => t.deliverFinal f) fun f t => t.deliverFinal_only f
  | deliverCompiled =>
    exact Within.delivered (act := fun f t => t.deliverCompiled f) fun f t => t.deliverCompiled_only f
  | deliverPurge =>
    exact Within.delivered (act := fun f t => t.deliverPurge f) fun f t => t.deliverPurge_only f
  | setcloseTaken =>
    exact Within.frameTaken (l := [.feed, .zones, .chain, .line, .notices])
      (act := fun f t => t.setclose f) fun f t => t.setclose_only f
  | reportTaken => exact execReportTaken_within s
  | readyTaken => exact execReadyTaken_within s
  | planFrameQueued => exact execPlanFrameQueued_within s
  | planGoQueued => exact execPlanGoQueued_within s
  | planPurge => exact execPlanPurge_within s
  | planBind => exact execPlanBind_within s
  | goTaken =>
    exact Within.frameTaken (l := goParts) (act := fun f t => t.goFrom f) fun f t => t.goFrom_only f
  | restTaken => exact execRestTaken_within s
  | surveyStart =>
    exact Within.ite (l := [.stop, .chain, .track, .gate, .clear, .feed, .deliv, .notices])
      (fun _ => .done s.survey_only) fun _ => .stays _ s
  | reportQueued => exact execReportQueued_within s
  | readyQueued =>
    obtain ⟨t, ht, h⟩ := execReadyQueued_within s
    exact ⟨t, ht, h.mono (by decide)⟩
  | frameTransmitStart =>
    exact Within.ite (l := [.line]) (fun _ => .next (s.withLine_only _)) fun _ => .stays _ s
  | arbitrationLost => exact Within.next (l := [.line]) (s.withLine_only _)
  | transmitError => exact execTransmitError_within s
  | errorLimitReached =>
    exact Within.ite (l := stopParts) (fun _ => .done s.limitTest_only) fun _ => .stays _ s
  | frameSent => exact execFrameSent_within s
  | frameReceived bits => exact execFrameReceived_within bits s
  | resetnLow => exact .next (s.powerOn_only false)
  | frameCutShort => exact Within.ite (l := [.line]) (fun _ => .next s.countCrc_only) fun _ => .stays _ s

/-- Settles O3: each command's operations stay within the parts that it names. -/
theorem everyCommandAnswersWithinItsFrame : Obligations.EveryCommandAnswersWithinItsFrame := exec_within

end Sys2Proof.Machine
end

section
/-! SUPPORT. How the stop controller moves in any operation that no frame of the path line directs: it
stays, a stop in hand goes on, or a cause begins one. -/

namespace Sys2Proof.Machine

set_option Elab.async false

/-! ### Moves of the stop controller -/

/-- Sites have joined a list, which keeps the law of R47 and loses none. -/
structure SitesJoin (l l' : List Site) : Prop where
  few : l.length ≤ siteCap → l'.length ≤ siteCap
  distinct : (l.map Site.segment).Nodup → (l'.map Site.segment).Nodup
  listed : l ≠ [] → l' ≠ []

theorem SitesJoin.refl (l : List Site) : SitesJoin l l := ⟨id, id, id⟩

theorem SitesJoin.trans {l l' l'' : List Site} (h : SitesJoin l l') (k : SitesJoin l' l'') :
    SitesJoin l l'' := ⟨k.few ∘ h.few, k.distinct ∘ h.distinct, k.listed ∘ h.listed⟩

theorem StopUnit.addSite_joins (u : StopUnit) (x : Site) : SitesJoin u.sites (u.addSite x).sites := by
  refine ⟨u.addSite_few x, ?_, ?_⟩ <;> unfold StopUnit.addSite
  · split
    · exact id
    · next hnew =>
      split
      · intro hd
        rw [List.map_append, List.nodup_append]
        refine ⟨hd, List.nodup_singleton _, fun a ha b hb => ?_⟩
        obtain ⟨y, hy, rfl⟩ := List.mem_map.mp ha
        rw [List.map_singleton, List.mem_singleton] at hb
        exact fun heq => hnew (List.any_eq_true.mpr ⟨y, hy, beq_iff_eq.mpr (heq.trans hb)⟩)
      · exact id
  · split
    · exact id
    · split
      · simp
      · exact id

/-- The survey phase stays, or the survey has ended. -/
def PhaseEnds (s t : State) : Prop :=
  t.clear.phase = .noSurvey ∨ t.clear.phase = s.clear.phase

theorem PhaseEnds.trans {s t u : State} (h : PhaseEnds s t) (k : PhaseEnds t u) : PhaseEnds s u := by
  obtain k | k := k
  · exact .inl k
  · exact h.imp k.trans k.trans

theorem PhaseEnds.noSurvey {s t : State} (h : PhaseEnds s t) (hs : s.clear.phase = .noSurvey) :
    t.clear.phase = .noSurvey := h.elim id fun h => h.trans hs

/-- The stop in hand keeps its epoch and its sites, and others may have joined. -/
structure Joined (s t : State) : Prop where
  epoch : t.stop.epoch = s.stop.epoch
  sites : SitesJoin s.stop.sites t.stop.sites
  phase : PhaseEnds s t

theorem Joined.refl (s : State) : Joined s s := ⟨rfl, .refl _, .inr rfl⟩

theorem Joined.trans {s t u : State} (h : Joined s t) (k : Joined t u) : Joined s u :=
  ⟨k.epoch.trans h.epoch, h.sites.trans k.sites, h.phase.trans k.phase⟩

theorem Joined.of_only {l : List Part} {s t : State} (h : changesOnly l s t)
    (hs : .stop ∉ l := by decide) (hc : .clear ∉ l := by decide) : Joined s t :=
  have hclear : t.clear = s.clear := h .clear hc
  ⟨by rw [h.stop hs], by rw [h.stop hs]; exact .refl _, .inr (by rw [hclear])⟩

/-- The path states of a stop short of READY. -/
def haltPaths : List PathState := [.flush, .halting, .halted, .clearing]

/-- A stop has begun under the epoch, with some site and no survey in hand. -/
structure Begun (epoch : Nat) (t : State) : Prop where
  epoch : t.stop.epoch = epoch
  path : t.stop.path ∈ haltPaths
  few : t.stop.sites.length ≤ siteCap
  distinct : (t.stop.sites.map Site.segment).Nodup
  listed : t.stop.sites ≠ []
  phase : t.clear.phase = .noSurvey

theorem Begun.goesOn {epoch : Nat} {s t : State} (h : Begun epoch s) (k : Joined s t)
    (hp : t.stop.path ∈ haltPaths) : Begun epoch t :=
  ⟨k.epoch.trans h.epoch, hp, k.sites.few h.few, k.sites.distinct h.distinct, k.sites.listed h.listed,
    k.phase.noSurvey h.phase⟩

/-- What an operation does to the stop controller and to the survey: nothing that R47 and R48 speak of, or a
stop goes on, and CLEARING is not left, or in RUN or IDLE a cause begins one under the next epoch. -/
inductive StopMoves (s t : State) : Prop
  | stays (path : t.stop.path = s.stop.path) (epoch : t.stop.epoch = s.stop.epoch)
      (sites : t.stop.sites = s.stop.sites) (own : t.stop.own = s.stop.own) (phase : PhaseEnds s t)
  | goesOn (within : s.stop.path.stopped = true)
      (clearing : s.stop.path = .clearing → t.stop.path = .clearing)
      (path : t.stop.path ∈ haltPaths) (joined : Joined s t)
  | begins (quiet : s.stop.path = .run ∨ s.stop.path = .idle) (begun : Begun (nextEpoch s.stop.epoch) t)

theorem PathState.stopped_of_halt {p : PathState} (h : p ∈ haltPaths) : p.stopped = true := by
  revert h; cases p <;> decide

theorem PathState.quiet_not_stopped {p : PathState} (h : p = .run ∨ p = .idle) : p.stopped = false := by
  obtain rfl | rfl := h <;> rfl

namespace StopMoves

variable {s t u : State}

theorem refl (s : State) : StopMoves s s := .stays rfl rfl rfl rfl (.inr rfl)

theorem of_stop (h : t.stop = s.stop) (hp : PhaseEnds s t) : StopMoves s t :=
  .stays (by rw [h]) (by rw [h]) (by rw [h]) (by rw [h]) hp

theorem of_only {l : List Part} (h : changesOnly l s t) (hs : .stop ∉ l := by decide)
    (hc : .clear ∉ l := by decide) : StopMoves s t :=
  have hclear : t.clear = s.clear := h .clear hc
  of_stop (h.stop hs) (.inr (by rw [hclear]))

/-- A stop in hand moves on as a stop: no cause begins another in it. -/
theorem joined (h : StopMoves s t) (hs : s.stop.path.stopped = true) : Joined s t := by
  cases h with
  | stays _ epoch sites _ phase => exact ⟨epoch, by rw [sites]; exact .refl _, phase⟩
  | goesOn _ _ _ joined => exact joined
  | begins quiet _ => rw [PathState.quiet_not_stopped quiet] at hs; cases hs

theorem path (h : StopMoves s t) (hs : s.stop.path ∈ haltPaths) : t.stop.path ∈ haltPaths := by
  cases h with
  | stays path => rw [path]; exact hs
  | goesOn _ _ path _ => exact path
  | begins _ begun => exact begun.path

theorem phase (h : StopMoves s t) : PhaseEnds s t := by
  cases h with
  | stays _ _ _ _ phase => exact phase
  | goesOn _ _ _ joined => exact joined.phase
  | begins _ begun => exact .inl begun.phase

theorem trans (h : StopMoves s t) (k : StopMoves t u) : StopMoves s u := by
  cases h with
  | stays path epoch sites own phase =>
    cases k with
    | stays path' epoch' sites' own' phase' =>
      exact .stays (path'.trans path) (epoch'.trans epoch) (sites'.trans sites) (own'.trans own)
        (phase.trans phase')
    | goesOn within clearing path' joined =>
      rw [path] at within clearing
      exact .goesOn within clearing path'
        (.trans ⟨epoch, by rw [sites]; exact .refl _, phase⟩ joined)
    | begins quiet begun =>
      rw [path] at quiet
      rw [epoch] at begun
      exact .begins quiet begun
  | goesOn within clearing path joined =>
    have hk := k.joined (PathState.stopped_of_halt path)
    refine .goesOn within (fun hc => ?_) (k.path path) (joined.trans hk)
    cases k with
    | stays path' => exact path'.trans (clearing hc)
    | goesOn _ clearing' _ _ => exact clearing' (clearing hc)
    | begins quiet _ => rw [clearing hc] at quiet; obtain quiet | quiet := quiet <;> cases quiet
  | begins quiet begun =>
    have hk := k.joined (PathState.stopped_of_halt begun.path)
    exact .begins quiet (begun.goesOn hk (k.path begun.path))

theorem foldl {α : Type} (f : State → α → State) (h : ∀ s a, StopMoves s (f s a)) (as : List α)
    (s : State) : StopMoves s (as.foldl f s) := by
  induction as generalizing s with
  | nil => exact refl s
  | cons a as ih => exact (h s a).trans (ih (f s a))

end StopMoves

/-! ### Entering the path states of a stop -/

theorem State.enter_joined (s : State) (p : PathState) : Joined s (s.enter p) := by
  have hclear : (s.enter p).clear = s.clear := s.enter_only p .clear (by decide)
  refine ⟨?_, ?_, .inr (by rw [hclear])⟩ <;> rw [s.enter_stop]
  exact .refl _

theorem State.joinSite_joined (s : State) (c : Cause) (place sheet : Nat) :
    Joined s (s.joinSite c place sheet) := by
  have hclear : (s.joinSite c place sheet).clear = s.clear :=
    s.joinSite_only c place sheet .clear (by decide)
  refine ⟨?_, ?_, .inr (by rw [hclear])⟩ <;> rw [s.joinSite_stop]
  · rw [StopUnit.addSite_keeps]
    show (s.stop.setOwn c place sheet).epoch = _
    rw [StopUnit.setOwn_keeps]
  · have h := StopUnit.addSite_joins ((s.stop.setOwn c place sheet).count c) (s.siteOf c place sheet)
    rwa [StopUnit.count_sites, StopUnit.setOwn_sites] at h

theorem State.announceStance_joined (s : State) (st : Stance) : Joined s (s.announceStance st) := by
  unfold State.announceStance; split
  · exact .of_only (s.push_only _)
  · have h : Joined s (s.withLine { s.line with txOverflow := true }) := .of_only (s.withLine_only _)
    dsimp only; split
    · exact h.trans (State.joinSite_joined _ _ _ _)
    · exact h

theorem State.openedAtHalt_joined (s : State) : Joined s s.openedAtHalt := by
  unfold State.openedAtHalt; split
  · exact s.enter_joined _
  · exact .refl s

theorem State.enterHalted_joined (s : State) : Joined s s.enterHalted :=
  (s.enter_joined _).trans <| (Joined.of_only (State.dropDelays_only _)).trans <|
    (State.announceStance_joined _ _).trans (State.openedAtHalt_joined _)

theorem State.haltTest_joined (s : State) : Joined s s.haltTest := by
  unfold State.haltTest; split
  · exact s.enterHalted_joined
  · exact s.announceStance_joined _

theorem State.enterHalting_joined (s : State) : Joined s s.enterHalting :=
  (s.enter_joined _).trans <| (Joined.of_only (State.restZones_only _)).trans (State.haltTest_joined _)

theorem State.enterHalted_halts (s : State) : s.enterHalted.stop.path ∈ haltPaths := by
  obtain h | h := s.enterHalted_path <;> rw [h] <;> decide

theorem State.enterHalting_halts (s : State) : s.enterHalting.stop.path ∈ haltPaths := by
  obtain ⟨h, -⟩ | h | h := s.enterHalting_path <;> rw [h] <;> decide

/-- In FLUSH the node turns to HALTING. -/
theorem State.enterHalting_moves {s : State} (h : s.stop.path = .flush) :
    StopMoves s s.enterHalting :=
  .goesOn (by rw [h]; rfl) (fun hc => by rw [h] at hc; cases hc) s.enterHalting_halts s.enterHalting_joined

theorem State.haltAheadTest_moves (s : State) : StopMoves s s.haltAheadTest := by
  unfold State.haltAheadTest; split
  · next h => exact State.enterHalting_moves h.1
  · exact .refl s

theorem State.drainTest_moves (s : State) : StopMoves s s.drainTest := by
  unfold State.drainTest; split
  · next h => exact State.enterHalting_moves h.1
  · exact .refl s

theorem State.zonesChanged_moves (s : State) : StopMoves s s.zonesChanged := by
  unfold State.zonesChanged; split
  · next h =>
    exact .goesOn (by rw [h.1]; rfl) (fun hc => by rw [h.1] at hc; cases hc) s.enterHalted_halts
      s.enterHalted_joined
  · exact .of_only s.releaseChain_only

/-! ### A cause joins or begins a stop -/

/-- A cause joins a stop in hand at its path state, READY excepted (R52). -/
theorem State.joinSite_moves {s : State} (h : s.stop.path ∈ haltPaths) (c : Cause) (place sheet : Nat) :
    StopMoves s (s.joinSite c place sheet) := by
  have hp := s.joinSite_path c place sheet
  exact .goesOn (PathState.stopped_of_halt h) (fun hc => hp.trans hc) (by rw [hp]; exact h)
    (s.joinSite_joined c place sheet)

theorem State.afterJoin_moves (s : State) (before : Option OwnCause) :
    StopMoves s (s.afterJoin before) := by
  unfold State.afterJoin; split
  · exact State.enterHalting_moves ‹_›
  · split
    · exact (StopMoves.of_only s.brakeAll_only).trans (State.zonesChanged_moves _)
    · exact .refl s

theorem State.joinStop_moves {s : State} (h : s.stop.path ∈ haltPaths) (c : Cause) (place sheet : Nat) :
    StopMoves s (s.joinStop c place sheet) :=
  (State.joinSite_moves h c place sheet).trans (State.afterJoin_moves _ _)

theorem State.announceFlush_moves {s : State} (h : s.stop.path = .flush) :
    StopMoves s s.announceFlush := by
  unfold State.announceFlush; split
  · exact .of_only (s.push_only _)
  · exact (StopMoves.of_only (s.withLine_only _)).trans
      (State.joinStop_moves (by show s.stop.path ∈ _; rw [h]; decide) _ _ _)

/-- The stance that a stop's start takes (R66) leaves epoch and sites, and the node is in the stop. -/
theorem State.takeStance_joined (s : State) (p : PathState) :
    Joined s (s.takeStance p) ∧ (s.takeStance p).stop.path ∈ haltPaths := by
  unfold State.takeStance; split
  · exact ⟨s.enterHalting_joined, s.enterHalting_halts⟩
  · have hp : (s.enter .flush).stop.path = .flush := s.enter_path _
    have hm : StopMoves (s.enter .flush) s.enterFlush :=
      (State.announceFlush_moves hp).trans <| (State.haltAheadTest_moves _).trans
        (State.drainTest_moves _)
    exact ⟨(s.enter_joined _).trans (hm.joined (by rw [hp]; rfl)), hm.path (by rw [hp]; decide)⟩

theorem ClearUnit.endWork_phase (c : ClearUnit) : c.endWork.phase = .noSurvey := by
  unfold ClearUnit.endWork; split
  · rfl
  · next h => by_contra hp; exact h (.inl hp)

theorem StopUnit.begin_eq (u : StopUnit) (epoch : Nat) (x : Site) : u.begin epoch x =
    { u with
      epoch := epoch, sites := [x], overflow := false, stances := Vector.replicate 15 .unknown } := rfl

/-- Every stop start begins a stop under its epoch (R50). -/
theorem State.stopStart_begun (s : State) (epoch : Nat) (x : Site) :
    Begun epoch (s.stopStart epoch x) := by
  obtain ⟨hj, hp⟩ := (s.newStop epoch x).takeStance_joined s.stop.path
  have hs : (s.newStop epoch x).stop.sites = [x] := by
    show (s.stop.begin epoch x).sites = _; rw [StopUnit.begin_eq]
  have he : (s.newStop epoch x).stop.epoch = epoch := by
    show (s.stop.begin epoch x).epoch = _; rw [StopUnit.begin_eq]
  exact
    { epoch := hj.epoch.trans he
      path := hp
      few := hj.sites.few (by rw [hs]; exact (by decide : 1 ≤ siteCap))
      distinct := hj.sites.distinct (by rw [hs]; exact List.nodup_singleton _)
      listed := hj.sites.listed (by rw [hs]; exact List.cons_ne_nil _ _)
      phase := hj.phase.noSurvey s.clear.endWork_phase }

theorem State.startStop_begun (s : State) (c : Cause) (place sheet : Nat) :
    Begun (nextEpoch s.stop.epoch) (s.startStop c place sheet) := by
  have h := State.stopStart_begun (s.ownCause c place sheet) (nextEpoch s.stop.epoch)
    (s.siteOf c place sheet)
  have ho := State.jamcall_only ((s.ownCause c place sheet).stopStart (nextEpoch s.stop.epoch)
    (s.siteOf c place sheet)) (s.siteOf c place sheet)
  exact h.goesOn (.of_only ho) (by rw [State.startStop, ho.stop]; exact h.path)

theorem State.raise_moves (s : State) (c : Cause) (place sheet : Nat) :
    StopMoves s (s.raise c place sheet) := by
  unfold State.raise; split
  · split
    · next h => exact .begins (.inr h) (s.startStop_begun c place sheet)
    · next h => exact .begins (.inl h) (s.startStop_begun c place sheet)
    · next h => exact State.joinStop_moves (by rw [h]; decide) c place sheet
    · next h => exact State.joinStop_moves (by rw [h]; decide) c place sheet
    all_goals exact .refl s
  · exact .refl s

theorem State.raiseFrom_moves (s : State) (p : PathState) (c : Cause) (place sheet : Nat) :
    StopMoves s (s.raiseFrom p c place sheet) := by
  unfold State.raiseFrom; split
  · next h =>
    simp only [Cause.joinsAtRest, Bool.and_eq_true, Bool.or_eq_true, beq_iff_eq] at h
    refine State.joinSite_moves ?_ c place sheet
    obtain h | h := h.2 <;> rw [h] <;> decide
  · exact s.raise_moves c place sheet

theorem State.queueFrame_moves (s : State) (p : PathState) (f : Frame) :
    StopMoves s (s.queueFrame p f) := by
  unfold State.queueFrame; split
  · exact .of_only (s.push_only f)
  · exact (StopMoves.of_only (s.withLine_only _)).trans (State.raiseFrom_moves _ _ _ _ _)

/-! ### The tests that follow -/

theorem State.leftTests_moves (s : State) : StopMoves s s.leftTests :=
  s.drainTest_moves.trans <| (StopMoves.of_only (State.idleFallTest_only _)).trans
    (.of_only (State.feedTest_only _))

theorem State.arrived_moves (s : State) : StopMoves s s.arrived := by
  unfold State.arrived; split
  · exact (StopMoves.of_only s.riseAll_only).trans (.of_only (State.withTrack_only _ _))
  · exact s.haltAheadTest_moves.trans (State.drainTest_moves _)

theorem State.silence_moves (s : State) (p : PathState) (z : ZoneId) : StopMoves s (s.silence p z) :=
  (StopMoves.of_only (s.stopSilence_only z)).trans (State.raiseFrom_moves _ _ _ _ _)

theorem State.chainFails_moves (s : State) : StopMoves s s.chainFails :=
  (StopMoves.of_only (s.withChain_only _)).trans <| (State.raise_moves _ _ _ _).trans
    (State.zonesChanged_moves _)

end Sys2Proof.Machine
end

section
/-! SUPPORT. How the operations of each unit move the stop controller, in the order of the model. -/

namespace Sys2Proof.Machine

set_option Elab.async false

open StopMoves (of_only)

/-! ### Gate and pulses -/

theorem State.makeClaim_moves (s : State) (sheet : Nat) : StopMoves s (s.makeClaim sheet) := by
  unfold State.makeClaim; split
  · exact .refl s
  · split
    · exact .refl s
    · split
      · split
        · exact of_only (s.withGate_only _)
        · exact .refl s
      · split
        · exact s.raise_moves _ _ _
        · exact (of_only (s.withGate_only _)).trans <| (of_only (State.mapEntry_only _ _ _)).trans
            (of_only (State.gateService_only _))

theorem State.guardAtEdge_moves (s : State) (sheet : Nat) : StopMoves s (s.guardAtEdge sheet) := by
  unfold State.guardAtEdge; split
  · exact s.raise_moves _ _ _
  · exact .refl s

theorem State.guardTests_moves (s : State) : StopMoves s s.guardTests := by
  refine .foldl _ (fun t c => ?_) _ _
  split
  · exact t.raise_moves _ _ _
  · exact .refl t

theorem State.imageRule_moves (s : State) (sheet : Nat) : StopMoves s (s.imageRule sheet) := by
  unfold State.imageRule; split
  · exact .refl s
  · split
    · exact (of_only (s.mapEntry_only _ _)).trans (State.haltAheadTest_moves _)
    · exact .refl s

theorem State.startPulse_moves (s : State) (p : PulseId) (d : PulseDelay) :
    StopMoves s (s.startPulse p d) := by
  unfold State.startPulse; dsimp only; split
  · exact (of_only (s.setPulse_only _ _)).trans <| (of_only (State.mapEntry_only _ _ _)).trans
      (State.imageRule_moves _ _)
  · exact of_only (s.setPulse_only _ _)

theorem State.completeDelay_moves (s : State) (p : PulseId) : StopMoves s (s.completeDelay p) := by
  unfold State.completeDelay; split
  · split
    · exact s.startPulse_moves _ _
    · exact .refl s
  · exact .refl s

theorem State.takeTrigger_moves (s : State) (p : PulseId) (a b sheet : Nat) :
    StopMoves s (s.takeTrigger p a b sheet) := by
  unfold State.takeTrigger; split
  · exact s.raise_moves _ _ _
  · exact (of_only (s.setPulse_only _ _)).trans (State.completeDelay_moves _ _)

theorem State.trigger_moves (s : State) (p : PulseId) (a b sheet : Nat) :
    StopMoves s (s.trigger p a b sheet) :=
  (s.completeDelay_moves p).trans (State.takeTrigger_moves _ _ _ _ _)

theorem State.stationTrigger_moves (s : State) (p : PulseId) (k : StationId) (edge : TriggerEdge)
    (r : SheetRecord) : StopMoves s (s.stationTrigger p k edge r) := by
  unfold State.stationTrigger; dsimp only; split
  · exact s.trigger_moves _ _ _ _
  · exact .refl s

theorem State.edgeTriggers_moves (s : State) (k : StationId) (edge : TriggerEdge) (sheet : Nat) :
    StopMoves s (s.edgeTriggers k edge sheet) := by
  unfold State.edgeTriggers; split
  · exact .refl s
  · exact (s.stationTrigger_moves _ _ _ _).trans (State.stationTrigger_moves _ _ _ _ _)

theorem State.endWidth_moves (s : State) (p : PulseId) : StopMoves s (s.endWidth p) := by
  unfold State.endWidth; split
  · exact .refl s
  · exact (of_only (s.setPulse_only _ _)).trans (State.completeDelay_moves _ _)

/-! ### Delivery -/

theorem State.announce_moves (s : State) (p : PathState) (a : Announcement) :
    StopMoves s (s.announce p a) := by
  unfold State.announce; split
  · exact of_only (s.withDeliv_only _)
  · exact s.raiseFrom_moves _ _ _ _

theorem State.compileSheet_moves (s : State) (p : PathState) (r : SheetRecord) :
    StopMoves s (s.compileSheet p r) := by
  unfold State.compileSheet; split
  · exact s.raise_moves _ _ _
  · exact (of_only (s.withDeliv_only _)).trans <| (State.announce_moves _ _ _).trans
      (of_only (State.stapleTest_only _))

theorem State.takeRecord_moves (s : State) (p : PathState) (r : SheetRecord) :
    StopMoves s (s.takeRecord p r) := by
  have hr (why : RejectReason) : StopMoves s (s.reject r why) := of_only (s.reject_only r why)
  unfold State.takeRecord; split
  · exact hr _
  · split
    · exact s.announce_moves _ _
    · split
      · exact hr _
      · split
        · exact hr _
        · exact s.announce_moves _ _
    · split
      · exact hr _
      · split
        · exact hr _
        · exact s.compileSheet_moves _ _
    all_goals exact .refl s

theorem State.stapleDone_moves (s : State) : StopMoves s s.stapleDone := by
  have h : StopMoves s (s.endOp.withDeliv
      { s.endOp.deliv with compile := s.deliv.compile.drop s.deliv.stapleCount }) :=
    (of_only s.endOp_only).trans (of_only (State.withDeliv_only _ _))
  unfold State.stapleDone; dsimp only; split
  · exact h.trans (of_only (State.stapleTest_only _))
  · exact h.trans ((State.announce_moves _ _ _).trans (of_only (State.stapleTest_only _)))

/-! ### Edges -/

theorem State.removeEntry_moves (s : State) (sheet : Nat) : StopMoves s (s.removeEntry sheet) :=
  (of_only (s.withTable_only _)).trans <| (of_only (State.leaveClaim_only _ _)).trans
    (State.leftTests_moves _)

theorem State.handOn_moves (s : State) (sheet : Nat) : StopMoves s (s.handOn sheet) := by
  unfold State.handOn; split
  · exact .refl s
  · split
    · exact of_only (s.mapEntry_only _ _)
    · exact s.removeEntry_moves _

theorem State.sendPass_moves (s : State) (p : PathState) (e : Entry) : StopMoves s (s.sendPass p e) :=
  (s.queueFrame_moves _ _).trans (State.handOn_moves _ _)

theorem State.claimAt_moves (s : State) (k : StationId) (sheet : Nat) :
    StopMoves s (s.claimAt k sheet) := by
  unfold State.claimAt; split
  · exact s.makeClaim_moves _
  · exact .refl s

theorem State.imageAt_moves (s : State) (k : StationId) (sheet : Nat) :
    StopMoves s (s.imageAt k sheet) := by
  unfold State.imageAt; split
  · exact s.imageRule_moves _
  · exact .refl s

theorem State.afterLead_moves (s : State) (k : StationId) (sheet : Nat) :
    StopMoves s (s.afterLead k sheet) :=
  (s.claimAt_moves k sheet).trans <| (State.guardAtEdge_moves _ _).trans <|
    (State.edgeTriggers_moves _ _ _ _).trans <| (State.imageAt_moves _ _ _).trans <|
    (State.haltAheadTest_moves _).trans (State.leftTests_moves _)

theorem State.discardTests_moves (s : State) (l : List Arrival) : StopMoves s (s.discardTests l) := by
  unfold State.discardTests; split
  · exact .refl s
  · exact s.leftTests_moves

theorem State.leadS1_moves (s : State) (p : PathState) : StopMoves s (s.leadS1 p) := by
  unfold State.leadS1; split
  · exact (of_only (s.withTrack_only _)).trans (State.afterLead_moves _ _ _)
  · exact (of_only (s.withArrivals_only _)).trans (State.raiseFrom_moves _ _ _ _ _)
  · split
    · exact (of_only (s.withArrivals_only _)).trans (State.raise_moves _ _ _ _)
    · exact (of_only (s.withTrack_only _)).trans (State.discardTests_moves _ _)

theorem State.leadBeyond_moves (s : State) (k : StationId) : StopMoves s (s.leadBeyond k) := by
  unfold State.leadBeyond; split
  · exact s.raise_moves _ _ _
  · exact (of_only (s.mapEntry_only _ _)).trans (State.afterLead_moves _ _ _)

theorem State.gapTest_moves (s : State) (k : StationId) (gap sheet : Nat) :
    StopMoves s (s.gapTest k gap sheet) := by
  unfold State.gapTest; split
  · exact s.raise_moves _ _ _
  · exact .refl s

theorem State.matchLead_moves (s : State) (p : PathState) (k : StationId) :
    StopMoves s (s.matchLead p k) := by
  unfold State.matchLead; split
  · exact s.leadS1_moves _
  all_goals exact s.leadBeyond_moves _

theorem State.leadingEdge_moves (s : State) (k : StationId) (still : Bool) :
    StopMoves s (s.leadingEdge k still) :=
  (of_only (s.setStation_only _ _)).trans <| (State.gapTest_moves _ _ _ _).trans
    (State.matchLead_moves _ _ _)

theorem State.measure_moves (s : State) (k : StationId) (still : Bool) (e : Entry) :
    StopMoves s (s.measure k still e) := by
  unfold State.measure; dsimp only; split
  · split
    · exact (of_only (s.storeLength_only _ _)).trans (State.raise_moves _ _ _ _)
    · exact of_only (s.storeLength_only _ _)
  · exact .refl s

theorem State.fixRule_moves (s : State) (k : StationId) (sheet : Nat) :
    StopMoves s (s.fixRule k sheet) := by
  unfold State.fixRule; split
  · exact (of_only (s.mapEntry_only _ _)).trans (State.haltAheadTest_moves _)
  · exact .refl s

theorem State.heldPass_moves (s : State) (p : PathState) (sheet : Nat) :
    StopMoves s (s.heldPass p sheet) := by
  unfold State.heldPass; split
  · exact .refl s
  · split
    · exact s.sendPass_moves _ _
    · exact .refl s

theorem State.turnRule_moves (s : State) (p : PathState) (k : StationId) (sheet : Nat) :
    StopMoves s (s.turnRule p k sheet) := by
  unfold State.turnRule; split
  · split
    · exact .refl s
    · split
      · exact (of_only (s.mapEntry_only _ _)).trans (State.heldPass_moves _ _ _)
      · exact .refl s
  · exact .refl s

theorem State.atLast_moves (s : State) (p : PathState) (sheet : Nat) :
    StopMoves s (s.atLast p sheet) := by
  unfold State.atLast; split
  · exact .refl s
  · split
    · exact (s.takeRecord_moves _ _).trans (State.removeEntry_moves _ _)
    · split
      · exact s.removeEntry_moves _
      · exact .refl s
      · split
        · exact s.removeEntry_moves _
        · exact .refl s

theorem State.endAt_moves (s : State) (p : PathState) (k : StationId) (sheet : Nat) :
    StopMoves s (s.endAt p k sheet) := by
  unfold State.endAt; split
  · exact s.atLast_moves _ _
  · exact .refl s

theorem State.trailEffects_moves (s : State) (k : StationId) (still : Bool) (e : Entry) :
    StopMoves s (s.trailEffects k still e) :=
  (of_only (s.passTrail_only _ _)).trans <| (State.measure_moves _ _ _ _).trans <|
    (State.fixRule_moves _ _ _).trans <| (of_only (State.clearClaim_only _ _ _)).trans <|
    (State.edgeTriggers_moves _ _ _ _).trans <| (State.turnRule_moves _ _ _ _).trans
    (State.endAt_moves _ _ _ _)

theorem State.endOrphan_moves (s : State) : StopMoves s s.endOrphan :=
  (of_only (s.withOrphan_only _)).trans <| (State.raise_moves _ _ _ _).trans (State.leftTests_moves _)

theorem State.matchTrail_moves (s : State) (k : StationId) (still : Bool) :
    StopMoves s (s.matchTrail k still) := by
  unfold State.matchTrail; split
  · exact s.endOrphan_moves
  · split
    · exact .refl s
    · exact (s.trailEffects_moves _ _ _).trans (of_only (State.holdStalls_only _ _))

theorem State.takeEdge_moves (s : State) (k : StationId) (still : Bool) :
    StopMoves s (s.takeEdge k still) := by
  unfold State.takeEdge; split
  · exact s.leadingEdge_moves _ _
  · exact (of_only (s.setStation_only _ _)).trans <| (of_only (State.restartPace_only _ _)).trans <|
      (State.matchTrail_moves _ _ _).trans <| (of_only (State.gateClears_only _ _)).trans
      (of_only (State.feedTest_only _))

/-! ### PASS -/

theorem State.passPoint_moves (s : State) (e : Entry) : StopMoves s (s.passPoint e) := by
  unfold State.passPoint; split
  · exact of_only (s.mapEntry_only _ _)
  · exact s.sendPass_moves _ _

theorem State.announceArrival_moves (s : State) (p : PathState) (r : SheetRecord) (origin : Nat) :
    StopMoves s (s.announceArrival p r origin) := by
  unfold State.announceArrival; dsimp only; split
  · exact (of_only (s.withArrivals_only _)).trans (State.arrived_moves _)
  · split
    · exact s.raiseFrom_moves _ _ _ _
    · exact (of_only (s.withArrivals_only _)).trans (State.arrived_moves _)

theorem State.adopt_moves (s : State) (r : SheetRecord) (origin hold : Nat) :
    StopMoves s (s.adopt r origin hold) :=
  (of_only (s.withTrack_only _)).trans <| (State.claimAt_moves _ _ _).trans <|
    (State.imageAt_moves _ _ _).trans <| (State.haltAheadTest_moves _).trans (State.leftTests_moves _)

theorem State.takePass_moves (s : State) (r : SheetRecord) (origin : Nat) :
    StopMoves s (s.takePass r origin) := by
  unfold State.takePass; split
  · exact .refl s
  · split
    · split
      · exact s.endOrphan_moves.trans (State.announceArrival_moves _ _ _ _)
      · split
        · exact s.adopt_moves _ _ _
        · exact (of_only (s.withOrphan_only _)).trans <| (State.raise_moves _ _ _ _).trans <|
            (State.leftTests_moves _).trans (State.announceArrival_moves _ _ _ _)
    · exact s.announceArrival_moves _ _ _

theorem State.passFrom_moves (s : State) (f : Frame) : StopMoves s (s.passFrom f) := by
  unfold State.passFrom; split
  · exact .refl s
  · split
    · exact .refl s
    · split
      · exact of_only s.countStale_only
      · split
        · exact s.takePass_moves _ _
        · exact of_only s.countStale_only

/-! ### Feeding, and the tests of GO -/

theorem State.issuePage_moves (s : State) (d : PageDesc) : StopMoves s (s.issuePage d) := by
  have h (t : State) (r : SheetRecord) : StopMoves t (t.addPick r) := by
    unfold State.addPick; split
    · exact of_only (t.withArrivals_only _)
    · exact t.raise_moves _ _ _
  exact (of_only (s.withFeed_only _)).trans <| (h _ _).trans (State.trigger_moves _ _ _ _ _)

theorem State.repeatPasses_moves (s : State) (l : List Entry) : StopMoves s (s.repeatPasses l) :=
  .foldl _ (fun t _ => t.queueFrame_moves _ _) l s

theorem State.returnHeld_moves (s : State) : StopMoves s s.returnHeld :=
  (of_only (s.withTable_only _)).trans (State.repeatPasses_moves _ _)

theorem State.windowTests_moves (s : State) : StopMoves s s.windowTests := by
  have ha : StopMoves s s.arrivalTests := by
    refine .foldl _ (fun t a => ?_) _ _
    split
    · exact t.raise_moves _ _ _
    · exact .refl t
  have he (s : State) : StopMoves s s.entryTests := by
    refine .foldl _ (fun t a => ?_) _ _
    split
    · exact t.raise_moves _ _ _
    · exact .refl t
  have hk (s : State) : StopMoves s s.stallTests := by
    refine .foldl _ (fun t a => ?_) _ _
    split
    · exact t.raise_moves _ _ _
    · exact .refl t
  exact ha.trans ((he _).trans (hk _))

theorem State.interlockTest_moves (s : State) : StopMoves s s.interlockTest := by
  unfold State.interlockTest; split
  · exact s.raiseFrom_moves _ _ _ _
  · split
    · exact s.raiseFrom_moves _ _ _ _
    · exact .refl s

theorem State.runTests_moves (s : State) : StopMoves s s.runTests :=
  s.windowTests_moves.trans <| (State.interlockTest_moves _).trans <|
    (State.guardTests_moves _).trans <| (of_only (State.gateService_only _)).trans
    (of_only (State.feedTest_only _))

/-! ### Tags and supply -/

theorem State.resendInputs_moves (s : State) : StopMoves s s.resendInputs := by
  refine .foldl _ (fun t i => ?_) _ _
  split
  · exact t.queueFrame_moves _ _
  · exact .refl t

theorem State.interlocks_moves (s : State) (p : PathState) (l : List Nat) :
    StopMoves s (s.interlocks p l) := .foldl _ (fun t _ => t.raiseFrom_moves _ _ _ _) l s

theorem ClearUnit.panelOpened_phase (c : ClearUnit) :
    c.panelOpened.phase = .noSurvey ∨ c.panelOpened.phase = c.phase := by
  unfold ClearUnit.panelOpened; split
  · exact .inl rfl
  · split
    · exact .inl rfl
    · exact .inr rfl
  · exact .inr rfl

theorem State.surveyOpened_phase (s : State) : PhaseEnds s s.surveyOpened := s.clear.panelOpened_phase

theorem State.surveyOpened_stop (s : State) : s.surveyOpened.stop = s.stop := s.surveyOpened_only.stop

theorem State.withdrawReady_phase (s : State) : PhaseEnds s s.withdrawReady := by
  unfold State.withdrawReady; split <;> exact .inr rfl

/-- The panel group's opening takes HALTED and READY to CLEARING (R116). -/
theorem State.enterClearing_moves {s u : State} (hs : s.stop.path = .halted ∨ s.stop.path = .ready)
    (hstop : u.stop = s.stop) (hp : PhaseEnds s u) : StopMoves s (u.enter .clearing) := by
  have hj : Joined s u := ⟨by rw [hstop], by rw [hstop]; exact .refl _, hp⟩
  refine .goesOn ?_ (fun _ => u.enter_path _) (by rw [u.enter_path]; decide)
    (hj.trans (u.enter_joined _))
  obtain h | h := hs <;> rw [h] <;> rfl

theorem State.groupOpens_moves (s : State) : StopMoves s s.groupOpens := by
  unfold State.groupOpens; split
  · next h => exact State.enterClearing_moves (.inl h) s.surveyOpened_stop s.surveyOpened_phase
  · next h =>
    exact State.enterClearing_moves (.inr h)
      ((State.withdrawReady_only _).stop.trans s.surveyOpened_stop)
      (s.surveyOpened_phase.trans (State.withdrawReady_phase _))
  · exact .of_stop s.surveyOpened_stop s.surveyOpened_phase
  all_goals exact .of_stop s.surveyOpened_stop s.surveyOpened_phase

theorem State.tagChange_moves (s : State) (tag : Nat) (asserted : Bool) :
    StopMoves s (s.tagChange tag asserted) := by
  have ho (t : State) (b : Bool) : StopMoves t (t.openIf b) := by
    unfold State.openIf; split
    · exact t.groupOpens_moves
    · exact .refl t
  exact (of_only (s.hearTag_only _ _)).trans <| (of_only (State.markCycle_only _)).trans <|
    (of_only (State.brakeIf_only _ _)).trans <| (State.interlocks_moves _ _ _).trans <|
    (State.interlocks_moves _ _ _).trans <| (State.zonesChanged_moves _).trans <|
    (ho _ _).trans (of_only (State.feedTest_only _))

theorem State.tagFrom_moves (s : State) (f : Frame) : StopMoves s (s.tagFrom f) := by
  unfold State.tagFrom; dsimp only; split
  · exact of_only s.countStale_only
  · split
    · split
      · exact .refl s
      · exact s.resendInputs_moves
    · split
      · exact .refl s
      · exact s.tagChange_moves _ _

theorem State.supplyTurns_moves (s : State) : StopMoves s s.supplyTurns := by
  have h : StopMoves s (s.withSupply { ok := s.comparatorOk, hold := none }) :=
    of_only (s.withSupply_only _)
  unfold State.supplyTurns; dsimp only; split
  · exact h
  · exact h.trans <| (of_only (State.brakeAll_only _)).trans <| (State.raise_moves _ _ _ _).trans
      (State.zonesChanged_moves _)

/-! ### STOPSTATE, and the line port -/

theorem State.stance_moves (s : State) (seg : Nat) (st : Stance) : StopMoves s (s.stance seg st) := by
  have h : StopMoves s (s.withStop (s.stop.setStance seg st)) := by
    unfold StopUnit.setStance; split <;> exact .stays rfl rfl rfl rfl (.inr rfl)
  exact h.trans <| (of_only (State.unresolve_only _ _ _)).trans <|
    (State.haltAheadTest_moves _).trans (State.drainTest_moves _)

theorem State.stopstateFrom_moves (s : State) (f : Frame) : StopMoves s (s.stopstateFrom f) := by
  unfold State.stopstateFrom; split
  · exact of_only s.countStale_only
  · split
    · exact of_only s.countStale_only
    · exact s.stance_moves _ _

theorem State.limitTest_moves (s : State) : StopMoves s s.limitTest := by
  unfold State.limitTest; split
  · exact (of_only (s.withLine_only _)).trans (State.raise_moves _ _ _ _)
  · exact .refl s

theorem State.rxOverflows_moves (s : State) (p : PathState) : StopMoves s (s.rxOverflows p) :=
  (of_only (s.withLine_only _)).trans (State.raiseFrom_moves _ _ _ _ _)

theorem State.receive_moves (s : State) (p : PathState) (f : Frame) : StopMoves s (s.receive p f) := by
  unfold State.receive; split
  · exact of_only (s.withLine_only _)
  · exact s.rxOverflows_moves _

theorem State.sent_moves (s : State) (p : PathState) (f : Frame) : StopMoves s (s.sent p f) := by
  have h : StopMoves s (s.withLine
      { s.line.release with tx := s.line.tx.erase f, errorRun := 0 }) := of_only (s.withLine_only _)
  unfold State.sent; dsimp only; split
  · exact h.trans (State.receive_moves _ _ _)
  · split
    · exact h.trans ((State.rxOverflows_moves _ _).trans (of_only (State.goDropped_only _)))
    · exact h.trans (State.rxOverflows_moves _ _)

end Sys2Proof.Machine
end

section
/-! SUPPORT and the proofs of StepKeepsTheSiteLaw and EpochMovesByItsEvents: what each command does to the
epoch, the site list and the survey. -/

namespace Sys2Proof.Machine

set_option Elab.async false

/-! ### The laws that a command keeps -/

/-- The survey law is kept, and with it the site-list law. -/
structure Lawful (s t : State) : Prop where
  survey : surveyLaw s → surveyLaw t
  sites : surveyLaw s → SiteLaw s → SiteLaw t

/-- The ways in which a command may move the epoch. -/
def EpochMoves (c : Instr) (s t : State) : Prop :=
  t.stop.epoch = s.stop.epoch ∨
  (t.stop.epoch = nextEpoch s.stop.epoch ∧ t.stop.path.stopped = true) ∨
  (c = .jamcallTaken ∧ t.stop.path.stopped = true ∧
    ∃ f rest, Front s .jamcall f rest ∧ t.stop.epoch = f.epoch) ∨
  (c = .goTaken ∧ s.stop.path = .idle ∧ ∃ f rest, Front s .go f rest ∧
    ((t.stop.epoch = f.epoch ∧ t.stop.path = .run) ∨
      (t.stop.epoch = nextEpoch f.epoch ∧ t.stop.path.stopped = true))) ∨
  ((c = .powerOnReset ∨ c = .resetnLow ∨ ∃ n, c = .start n ∨ c = .restart n) ∧ t.stop.epoch = 0)

theorem Lawful.trans {s t u : State} (h : Lawful s t) (k : Lawful t u) : Lawful s u :=
  ⟨k.survey ∘ h.survey, fun hs hl => k.sites (h.survey hs) (h.sites hs hl)⟩

/-- No survey is in hand outside CLEARING. -/
theorem surveyLaw.noSurvey {s : State} (h : surveyLaw s) (hp : s.stop.path ≠ .clearing) :
    s.clear.phase = .noSurvey := by
  by_contra hc
  exact hp (h hc)

theorem surveyLaw.of_phase {t : State} (h : t.clear.phase = .noSurvey) : surveyLaw t :=
  fun hne => absurd h hne

/-- A list that holds no site, with no own-cause record, where no stop is in hand. -/
theorem SiteLaw.of_quiet {t : State} (hs : t.stop.sites = []) (ho : t.stop.own = none)
    (hp : t.stop.path.stopped = false) : SiteLaw t :=
  { few := by rw [hs]; exact Nat.zero_le _
    distinct := by rw [hs]; exact List.nodup_nil
    quiet := fun _ => hs
    stopped := fun h => by rw [hp] at h; cases h
    ownAbsent := fun _ => ho }

/-- In FLUSH, HALTING, HALTED and CLEARING the law asks for some sites, few and distinct. -/
theorem SiteLaw.of_halt {t : State} (hp : t.stop.path ∈ haltPaths)
    (few : t.stop.sites.length ≤ siteCap) (distinct : (t.stop.sites.map Site.segment).Nodup)
    (listed : t.stop.sites ≠ []) : SiteLaw t :=
  { few := few, distinct := distinct
    quiet := fun h => by rw [haltPaths] at hp; obtain h | h := h <;> rw [h] at hp <;> simp at hp
    stopped := fun _ => listed
    ownAbsent := fun h => by
      rw [haltPaths] at hp; obtain h | h | h := h <;> rw [h] at hp <;> simp at hp }

/-- The law speaks of path state, sites and own-cause record alone. -/
theorem SiteLaw.congr {s t : State} (h : SiteLaw s) (hp : t.stop.path = s.stop.path)
    (hs : t.stop.sites = s.stop.sites) (ho : t.stop.own = s.stop.own) : SiteLaw t := by
  constructor
  · rw [hs]; exact h.few
  · rw [hs]; exact h.distinct
  · rw [hs, hp]; exact h.quiet
  · rw [hs, hp]; exact h.stopped
  · rw [ho, hp]; exact h.ownAbsent

theorem Begun.lawful {epoch : Nat} {s t : State} (h : Begun epoch t) : Lawful s t :=
  ⟨fun _ => .of_phase h.phase, fun _ _ => .of_halt h.path h.few h.distinct h.listed⟩

theorem StopMoves.lawful {s t : State} (h : StopMoves s t) : Lawful s t := by
  cases h with
  | stays path _ sites own phase =>
    refine ⟨fun hs => ?_, fun _ hl => hl.congr path sites own⟩
    obtain phase | phase := phase
    · exact .of_phase phase
    · intro hne; rw [path]; exact hs (by rwa [← phase])
  | goesOn within clearing path joined =>
    refine ⟨fun hs => ?_, fun _ hl => .of_halt path (joined.sites.few hl.few)
      (joined.sites.distinct hl.distinct) (joined.sites.listed (hl.stopped within))⟩
    obtain phase | phase := joined.phase
    · exact .of_phase phase
    · intro hne; exact clearing (hs (by rwa [← phase]))
  | begins _ begun => exact begun.lawful

/-! ### What a command does -/

/-- What a command `c` does to the epoch, and that it keeps the two laws. -/
structure Events (c : Instr) (s t : State) : Prop where
  epoch : EpochMoves c s t
  lawful : Lawful s t

/-- The two laws are kept, and the epoch stays or is the next one, in a stop: what an operation does that no
frame or reset gives an epoch. -/
structure Succeeds (s t : State) : Prop where
  epoch : t.stop.epoch = s.stop.epoch ∨
    (t.stop.epoch = nextEpoch s.stop.epoch ∧ t.stop.path.stopped = true)
  lawful : Lawful s t

theorem Succeeds.events {s t : State} (h : Succeeds s t) (c : Instr) : Events c s t :=
  ⟨h.epoch.imp_right .inl, h.lawful⟩

theorem Succeeds.of_lawful {s t : State} (he : t.stop.epoch = s.stop.epoch) (h : Lawful s t) :
    Succeeds s t := ⟨.inl he, h⟩

theorem StopMoves.succeeds {s t : State} (h : StopMoves s t) : Succeeds s t := by
  refine ⟨?_, h.lawful⟩
  cases h with
  | stays _ epoch => exact .inl epoch
  | goesOn _ _ _ joined => exact .inl joined.epoch
  | begins _ begun => exact .inr ⟨begun.epoch, PathState.stopped_of_halt begun.path⟩

theorem StopMoves.events {s t : State} (c : Instr) (h : StopMoves s t) : Events c s t :=
  h.succeeds.events c

/-- A stop begun under the next epoch, in whatever path state. -/
theorem Begun.succeeds {s t : State} (h : Begun (nextEpoch s.stop.epoch) t) : Succeeds s t :=
  ⟨.inr ⟨h.epoch, PathState.stopped_of_halt h.path⟩, h.lawful⟩

/-- An operation ahead of it that leaves the stop controller. -/
theorem Succeeds.after {s t u : State} {l : List Part} (k : Succeeds t u) (h : changesOnly l s t)
    (hs : .stop ∉ l := by decide) (hc : .clear ∉ l := by decide) : Succeeds s u :=
  ⟨h.stop hs ▸ k.epoch, (StopMoves.of_only h hs hc).lawful.trans k.lawful⟩

/-- The notices have no part in it. -/
theorem Events.latch {c : Instr} {s t : State} (h : Events c s t) (before : State) :
    Events c s (latchNew before t) := by
  obtain ⟨n, hn⟩ := latchNew_eq before t
  rw [hn]
  exact ⟨h.epoch, h.lawful.survey, fun hs hl => (h.lawful.sites hs hl).congr rfl rfl rfl⟩

section
variable {c : Instr} {s u : State}

theorem Answers.events_done {before : State} (h : Events c s u) : Answers (Events c s) (done before u) :=
  .next (h.latch before)

/-- A command that moves the stop controller as any operation does. -/
theorem Answers.moved {before : State} (h : StopMoves s u) : Answers (Events c s) (done before u) :=
  .events_done (h.events c)

theorem Answers.moved_next (h : StopMoves s u) : Answers (Events c s) (.next u) := .next (h.events c)

theorem Answers.idles : Answers (Events c s) (.next s) := .moved_next (.refl s)

theorem Answers.events_command {n : Nat} {act : Host.Outcome State Fault Refusal}
    (h : Answers (Events c s) act) : Answers (Events c s) (s.command n act) :=
  .ite (fun _ => .idles) fun _ => .ite (fun _ => .moved_next (.of_only (s.answer_only _))) fun _ => h

/-- A command that takes a frame and moves the stop controller as any operation does. -/
theorem Answers.frameMoved {k : FrameKind} {act : Frame → State → State}
    (h : ∀ f t, StopMoves t (act f t)) :
    Answers (Events c s) (match s.takeFrame k with
      | some (f, s1) => done s (act f s1)
      | none => .next s) := by
  split
  · exact .moved ((StopMoves.of_only (State.takeFrame_only ‹_›)).trans (h _ _))
  · exact .idles

/-- A command whose frame leaves out the stop controller and the clearing unit. -/
theorem exec_events_of_frame (c : Instr) (s : State) (hs : .stop ∉ mayChange c)
    (hc : .clear ∉ mayChange c) : Answers (Events c s) (exec c s) := by
  intro t ht
  obtain ⟨u, hu, ho⟩ := exec_within c s
  cases hu.symm.trans ht
  exact (StopMoves.of_only ho hs hc).events c

end

/-! ### Edges, passing on and window tests -/

theorem execSensorRawChange_events (k : StationId) (high : Bool) (s : State) :
    Answers (Events (.sensorRawChange k high) s) (execSensorRawChange k high s) := by
  have h : StopMoves s (s.setSns k high) := .of_only (s.withPins_only _)
  exact .ite
    (fun _ => .ite (fun _ => .moved (h.trans (State.takeEdge_moves _ _ _)))
      fun _ => .moved (h.trans (.of_only (State.setStation_only _ _ _))))
    fun _ => .moved_next h

theorem execPassPointReached_events (i : Nat) (s : State) :
    Answers (Events (.passPointReached i) s) (execPassPointReached i s) := by
  unfold execPassPointReached; split
  · exact .ite (fun _ => .moved (s.passPoint_moves _)) fun _ => .idles
  · exact .idles

theorem execDeferredPass_events (i : Nat) (s : State) :
    Answers (Events (.deferredPass i) s) (execDeferredPass i s) := by
  unfold execDeferredPass; split
  · exact .ite (fun _ => .moved (s.sendPass_moves _ _)) fun _ => .idles
  · exact .idles

theorem execLateAtStation_events (i : Nat) (s : State) :
    Answers (Events (.lateAtStation i) s) (execLateAtStation i s) := by
  unfold execLateAtStation; split
  · exact .ite (fun _ => .moved (s.raise_moves _ _ _)) fun _ => .idles
  · exact .idles

theorem execLateAtS1_events (i : Nat) (s : State) :
    Answers (Events (.lateAtS1 i) s) (execLateAtS1 i s) := by
  unfold execLateAtS1; split
  · exact .ite (fun _ => .moved (s.raise_moves _ _ _)) fun _ => .idles
  · exact .idles

theorem execGateGuardFail_events (i : Nat) (s : State) :
    Answers (Events (.gateGuardFail i) s) (execGateGuardFail i s) := by
  unfold execGateGuardFail; split
  · exact .ite (fun _ => .moved (s.raise_moves _ _ _)) fun _ => .idles
  · exact .idles

/-! ### Feeding, drive, tags and the line -/

theorem execIssue_events (s : State) : Answers (Events .issue s) (execIssue s) := by
  unfold execIssue; split
  · exact .moved (s.issuePage_moves _)
  · exact .idles

theorem execRestTimerExpiry_events (s : State) :
    Answers (Events .restTimerExpiry s) (execRestTimerExpiry s) :=
  .ite (fun _ => .moved ((StopMoves.of_only (s.withFeed_only _)).trans (State.queueFrame_moves _ _ _)))
    fun _ => .idles

theorem execReadyTimerExpiry_events (s : State) :
    Answers (Events .readyTimerExpiry s) (execReadyTimerExpiry s) :=
  .ite (fun _ => .moved <| (StopMoves.of_only s.withdrawRises_only).trans <|
    (StopMoves.of_only (State.withChain_only _ _)).trans (State.chainFails_moves _)) fun _ => .idles

theorem execDrdyLost_events (s : State) : Answers (Events .drdyLost s) (execDrdyLost s) := by
  have h : StopMoves s (s.setDrdy false) := .of_only (s.withPins_only _)
  exact .ite
    (fun _ => .ite
      (fun _ => .moved <| h.trans <| (StopMoves.of_only (State.brakeMoving_only _)).trans
        (State.chainFails_moves _))
      fun _ => .moved (h.trans (.of_only (State.withChain_only _ _))))
    fun _ => .moved_next h

theorem execZoneStep_events (z : ZoneId) (s : State) :
    Answers (Events (.zoneStep z) s) (execZoneStep z s) := by
  have h : StopMoves s (s.setZone z (s.stepZone z (s.zone z))).zonesChanged :=
    (StopMoves.of_only (s.setZone_only _ _)).trans (State.zonesChanged_moves _)
  refine .ite (fun _ => ?_) fun _ => .idles
  dsimp only; split
  · exact .moved (h.trans (.of_only (State.feedTest_only _)))
  · exact .moved h

theorem execSilenceTimeout_events (z : ZoneId) (s : State) :
    Answers (Events (.silenceTimeout z) s) (execSilenceTimeout z s) :=
  .ite (fun _ => .moved (.foldl _ (fun t y => t.silence_moves _ y) _ s)) fun _ => .idles

theorem execTagHoldExpiry_events (i : InputId) (s : State) :
    Answers (Events (.tagHoldExpiry i) s) (execTagHoldExpiry i s) :=
  .ite (fun _ => .moved ((StopMoves.of_only (s.setInput_only _ _)).trans (State.queueFrame_moves _ _ _)))
    fun _ => .idles

theorem execTransmitError_events (s : State) :
    Answers (Events .transmitError s) (execTransmitError s) := by
  unfold execTransmitError; split
  · exact .idles
  · exact .moved (s.limitTest_moves.trans (.of_only (State.withLine_only _ _)))

theorem execFrameSent_events (s : State) : Answers (Events .frameSent s) (execFrameSent s) := by
  unfold execFrameSent; split
  · exact .idles
  · exact .moved (s.limitTest_moves.trans (State.sent_moves _ _ _))

theorem execFrameReceived_events (bits : List Bool) (s : State) :
    Answers (Events (.frameReceived bits) s) (execFrameReceived bits s) := by
  refine .ite (fun _ => ?_) fun _ => .idles
  split
  · exact .moved_next (.of_only s.countCrc_only)
  · exact .moved_next (.of_only s.countStale_only)
  · exact .moved (s.receive_moves _ _)

/-! ### Resets and START -/

/-- Every block at its power-on or start value: the epoch is 0 and no stop is in hand (R186 to R188). -/
theorem Events.of_reset {c : Instr} {s t : State}
    (hc : c = .powerOnReset ∨ c = .resetnLow ∨ ∃ n, c = .start n ∨ c = .restart n)
    (he : t.stop.epoch = 0) (hs : t.stop.sites = []) (ho : t.stop.own = none)
    (hp : t.stop.path.stopped = false) (hphase : t.clear.phase = .noSurvey) : Events c s t :=
  ⟨.inr (.inr (.inr (.inr ⟨hc, he⟩))), fun _ => .of_phase hphase, fun _ _ => .of_quiet hs ho hp⟩

/-- A frame without a place raises nothing where LINE takes no effect, as in IDLE and READY (R45, R181). -/
theorem State.queueFrame_dropped {s : State} {p : PathState} (hp : s.stop.path = p)
    (h : Cause.line.takesEffect p = false) (f : Frame) : (s.queueFrame p f).stop = s.stop := by
  unfold State.queueFrame; split
  · rfl
  · have hd : Cause.line.joinsAtRest p s.loseFrame.stop.path = false := by rw [Cause.joinsAtRest, h]; rfl
    have hl : Cause.line.takesEffect s.loseFrame.stop.path = false := by
      rw [← hp] at h; exact h
    rw [State.raiseFrom, hd, State.raise_dropped _ _ _ _ hl]
    rfl

theorem State.resendInputs_idle {s : State} (h : s.stop.path = .idle) :
    s.resendInputs.stop = s.stop := by
  unfold State.resendInputs
  refine List.foldlRecOn (motive := fun t : State => t.stop = s.stop) _ _ rfl fun t ht i _ => ?_
  split
  · rw [← ht] at h ⊢
    exact State.queueFrame_dropped rfl (by rw [h]; rfl) _
  · exact ht

/-- IDLE is entered with the stop controller's start values (R186). -/
theorem State.enterIdle_stop (s : State) (brake : Bool) :
    (s.enterIdle brake).stop = { StopUnit.reset with path := .idle } := by
  have h : (s.startValues.markCycle.brakeIf brake).startAnnouncement.stop = s.startValues.stop :=
    (State.push_only _ _).stop.trans <| (State.brakeIf_only _ _).stop.trans (State.markCycle_only _).stop
  exact (State.resendInputs_idle (by rw [h]; rfl)).trans h

theorem State.enterIdle_phase (s : State) (brake : Bool) :
    (s.enterIdle brake).clear.phase = .noSurvey := by
  have h : StopMoves s.startValues (s.enterIdle brake) :=
    (StopMoves.of_only (State.markCycle_only _)).trans <|
      (StopMoves.of_only (State.brakeIf_only _ _)).trans <|
      (StopMoves.of_only (State.push_only _ _)).trans (State.resendInputs_moves _)
  exact h.phase.noSurvey rfl

theorem State.enterIdle_events {c : Instr} (s : State) (brake : Bool) {t : State}
    (hc : ∃ n, c = .start n ∨ c = .restart n)
    (hs : t.stop = (s.enterIdle brake).stop) (hclear : t.clear = (s.enterIdle brake).clear) :
    Events c s t := by
  rw [s.enterIdle_stop brake] at hs
  exact .of_reset (.inr (.inr hc)) (by rw [hs]; rfl) (by rw [hs]; rfl) (by rw [hs]; rfl)
    (by rw [hs]; rfl) (by rw [hclear]; exact s.enterIdle_phase brake)

theorem execStart_events (n : Nat) (s : State) : Answers (Events (.start n) s) (execStart n s) := by
  refine .events_command (.ite (fun _ => .moved_next (.of_only (s.answer_only _))) fun _ => ?_)
  split
  · exact .moved_next (.of_only (s.answer_only _))
  · exact .events_done <| s.enterIdle_events _ ⟨n, .inl rfl⟩ (State.answer_only _ _).stop
      (State.answer_only _ _ .clear (by decide))

theorem execRestart_events (n : Nat) (s : State) :
    Answers (Events (.restart n) s) (execRestart n s) := by
  refine .events_command (.ite (fun _ => .next ?_) fun _ => .moved_next (.of_only (s.answer_only _)))
  have h := changesOnly.andThen (n := [.notices, .reply])
    (State.withNotices_only (s.enterIdle s.startValues.aggregate) noticesOff)
    (State.answer_only _ (accept 0 .noData))
  exact s.enterIdle_events _ ⟨n, .inr rfl⟩ h.stop (h .clear (by decide))

/-! ### Survey, reports and READY -/

/-- The node is in CLEARING, from HALTED or CLEARING, with its epoch, sites and own cause as they were. -/
theorem Lawful.clearing {s t : State} (hs : s.stop.path = .halted ∨ s.stop.path = .clearing)
    (ht : t.stop = { s.stop with path := .clearing }) : Lawful s t := by
  refine ⟨fun _ _ => by rw [ht], fun _ hl =>
    .of_halt (by rw [ht]; show PathState.clearing ∈ haltPaths; decide) ?_ ?_ ?_⟩ <;> rw [ht]
  · exact hl.few
  · exact hl.distinct
  · exact hl.stopped (by obtain hs | hs := hs <;> rw [hs] <;> rfl)

theorem State.survey_stop {s : State} (h : s.stop.path = .halted ∨ s.stop.path = .clearing) :
    s.survey.stop = { s.stop with path := .clearing } := by
  have he : s.enterClearing.stop = { s.stop with path := .clearing } := by
    unfold State.enterClearing; split
    · exact s.enter_stop _
    · next hn => rw [← h.resolve_left hn]
  exact (State.surveyForm_only _).stop.trans he

theorem execSurveyStart_events (s : State) :
    Answers (Events .surveyStart s) (execSurveyStart s) := by
  refine .ite (fun h => ?_) fun _ => .idles
  have hp : s.stop.path = .halted ∨ s.stop.path = .clearing := by
    simp only [State.surveyReady, Bool.and_eq_true, Bool.or_eq_true, beq_iff_eq] at h
    obtain ⟨⟨⟨⟨⟨⟨hp, -⟩, -⟩, -⟩, -⟩, -⟩, -⟩ := h
    exact hp
  have ht := State.survey_stop hp
  exact .events_done (Succeeds.events (.of_lawful (by rw [ht]) (.clearing hp ht)) _)

/-- A void that a survey waits for ends in CLEARING, where the survey goes on (R119). -/
theorem State.voidDone_lawful {s : State} (h : s.clear.phase = .voidWait) : Lawful s s.voidDone := by
  have hs : s.voidDone.stop = s.stop := s.voidDone_only.stop
  refine ⟨fun hl _ => ?_, fun _ hl => hl.congr (by rw [hs]) (by rw [hs]) (by rw [hs])⟩
  rw [hs]
  exact hl (by rw [h]; decide)

theorem State.opDone_succeeds (s : State) : Succeeds s s.opDone := by
  unfold State.opDone; split
  · exact (StopMoves.refl s).succeeds
  · exact s.stapleDone_moves.succeeds
  · split
    · exact .of_lawful (by rw [s.voidDone_only.stop]) (State.voidDone_lawful ‹_›)
    · exact (StopMoves.of_only s.opFailed_only).succeeds

theorem execFdone_events (high : Bool) (s : State) :
    Answers (Events (.fdone high) s) (execFdone high s) := by
  have h : changesOnly _ s (s.setFdone high) := s.withPins_only _
  exact .ite (fun _ => .events_done (((s.setFdone high).opDone_succeeds.after h).events _))
    fun _ => .moved_next (.of_only h)

theorem execOperationTimeout_events (s : State) :
    Answers (Events .operationTimeout s) (execOperationTimeout s) := by
  have h : StopMoves s (s.withDeliv { s.deliv with opTimer := operationMs }).opFailed :=
    (StopMoves.of_only (s.withDeliv_only _)).trans (.of_only (State.opFailed_only _))
  exact .ite (fun _ => .idles) fun _ => .ite (fun _ => .moved (h.trans (.of_stop rfl (.inl rfl))))
    fun _ => .moved h

theorem ClearUnit.afterReport_phase (c : ClearUnit) (rest : List Report) :
    (c.afterReport rest).phase = .noSurvey ∨ (c.afterReport rest).phase = c.phase := by
  unfold ClearUnit.afterReport; split
  · exact .inl rfl
  · exact .inr rfl

theorem execReportQueued_events (s : State) :
    Answers (Events .reportQueued s) (execReportQueued s) := by
  unfold execReportQueued; split
  · exact .idles
  · exact .ite (fun _ => .moved (.of_stop rfl (s.clear.afterReport_phase _))) fun _ => .idles

/-- READY is entered from CLEARING, where the reports of a survey in hand have gone out, and the own-cause
record with it (R48, R125). -/
theorem State.announceReady_succeeds {s : State} (h : s.readyDue = true) :
    Succeeds s s.announceReady := by
  have hphase : s.clear.phase = .reporting := by
    simp only [State.readyDue, Bool.and_eq_true, beq_iff_eq] at h
    exact h.1.1.1.1
  obtain ⟨u, hu⟩ : ∃ u : State, u = ((s.push (s.readyFrame false)).withClear
    { s.clear with phase := .noSurvey }).withStop { s.stop with own := none } := ⟨_, rfl⟩
  have ht : s.announceReady = (u.enter .ready).planTest := by rw [hu]; rfl
  have hstop : s.announceReady.stop = { s.stop with path := .ready, own := none } := by
    rw [ht, (State.planTest_only _).stop, u.enter_stop, hu]; rfl
  have hclear : s.announceReady.clear.phase = .noSurvey := by
    have h1 : s.announceReady.clear = u.clear := by
      rw [ht]
      exact ((State.planTest_only _) .clear (by decide)).trans ((u.enter_only _) .clear (by decide))
    rw [h1, hu]; rfl
  refine .of_lawful (by rw [hstop]) ⟨fun _ => .of_phase hclear, fun hl hs => ?_⟩
  have hp : s.stop.path = .clearing := hl (by rw [hphase]; decide)
  constructor <;> rw [hstop]
  · exact hs.few
  · exact hs.distinct
  · exact fun h => by obtain h | h := h <;> cases h
  · exact fun _ => hs.stopped (by rw [hp]; rfl)
  · exact fun _ => rfl

theorem execReadyQueued_events (s : State) : Answers (Events .readyQueued s) (execReadyQueued s) :=
  .ite (fun _ => .ite (fun _ => .moved (.of_stop rfl (.inr rfl)))
      fun _ => .ite (fun h => .events_done ((State.announceReady_succeeds h).events _)) fun _ => .idles)
    fun _ => .idles

/-! ### PLAN -/

theorem State.planFrom_moves (s : State) (f : Frame) (act : State → State)
    (h : ∀ t, StopMoves t (act t)) : StopMoves s (s.planFrom f act) := by
  unfold State.planFrom; split
  · exact .of_only s.countStale_only
  · split
    · exact .refl s
    · split
      · exact .of_only s.countStale_only
      · split
        · exact h s
        · exact .refl s

theorem State.planBind_moves (s : State) (sheet : Nat) (d : PageDesc) :
    StopMoves s (s.planBind sheet d) := by
  have hphase : (s.clear.addBind sheet).phase = s.clear.phase := by
    unfold ClearUnit.addBind; split <;> rfl
  unfold State.planBind; split
  · exact .refl s
  · split
    · exact .of_stop rfl (.inr hphase)
    · exact .refl s

theorem execPlanPurge_events (s : State) : Answers (Events .planPurge s) (execPlanPurge s) := by
  unfold execPlanPurge; split
  · exact .ite (fun _ => .idles) fun _ => .moved <|
      (StopMoves.of_only (State.takeFrame_only ‹_›)).trans
        (State.planFrom_moves _ _ _ fun t => .of_stop rfl (.inr rfl))
  · exact .idles

theorem execPlanBind_events (s : State) : Answers (Events .planBind s) (execPlanBind s) := by
  unfold execPlanBind; split
  · exact .ite (fun _ => .moved <| (StopMoves.of_only (State.takeFrame_only ‹_›)).trans
      (State.planFrom_moves _ _ _ fun t => t.planBind_moves _ _)) fun _ => .idles
  · exact .idles

/-! ### REST, GO and JAMCALL -/

/-- REST ends the stop's records in RUN (R59, R147). -/
theorem State.rest_stop (s : State) :
    s.rest.stop = { s.stop with path := .idle, sites := [], overflow := false, own := none } := by
  rw [State.rest, (State.dropDelays_only _).stop, State.enter_stop]
  show { s.fallAll.clearSites.stop with path := PathState.idle } = _
  rw [show s.fallAll.clearSites.stop = { s.fallAll.stop with sites := [], overflow := false, own := none }
    from rfl, s.fallAll_only.stop]

theorem execRestTaken_events (s : State) : Answers (Events .restTaken s) (execRestTaken s) := by
  unfold execRestTaken; split
  · next f t ht =>
    have h : StopMoves s t := .of_only (State.takeFrame_only ht)
    refine .ite (fun hr => .events_done ?_) fun _ => .moved h
    have hclear : t.rest.clear = s.clear :=
      (t.rest_only .clear (by decide)).trans (State.takeFrame_only ht .clear (by decide))
    have hstop : t.stop = s.stop := (State.takeFrame_only ht).stop
    have hrest := t.rest_stop
    refine Succeeds.events (.of_lawful (by rw [hrest, hstop]) ⟨fun hl => .of_phase ?_, fun _ _ =>
      .of_quiet (by rw [hrest]) (by rw [hrest]) (by rw [hrest]; rfl)⟩) _
    rw [hclear]
    exact hl.noSurvey (by rw [hr.1]; decide)
  · exact .idles

/-- RUN as GO enters it, ahead of the tests of entry: no site and no own cause (R59, R129, R130). -/
structure Runs (epoch : Nat) (u : State) : Prop where
  path : u.stop.path = .run
  epoch : u.stop.epoch = epoch
  sites : u.stop.sites = []
  own : u.stop.own = none

/-- Entry to RUN, and what its tests then do (R129, R130). -/
theorem State.enterRun_runs (s : State) : ∃ u, Runs s.stop.epoch u ∧
    u.clear.phase = s.clear.phase ∧ StopMoves u s.enterRun := by
  obtain ⟨v, hv⟩ : ∃ v : State, v = (s.emptyBinds.clearSites).restartGaps.planGo.riseAll := ⟨_, rfl⟩
  have hvstop : v.stop = s.emptyBinds.clearSites.stop := by
    rw [hv]
    exact (State.riseAll_only _).stop.trans <|
      (State.planGo_only _).stop.trans (State.restartGaps_only _).stop
  have hvclear : v.clear = s.emptyBinds.clear := by
    rw [hv]
    exact ((State.riseAll_only _) .clear (by decide)).trans <|
      ((State.planGo_only _) .clear (by decide)).trans <|
      (State.restartGaps_only _ .clear (by decide)).trans (State.clearSites_only _ .clear (by decide))
  refine ⟨v.enter .run, ?_, ?_, ?_⟩
  · constructor <;> rw [v.enter_stop, hvstop] <;> rfl
  · rw [show (v.enter .run).clear = v.clear from v.enter_only _ .clear (by decide), hvclear]; rfl
  · rw [State.enterRun, ← hv]
    exact (StopMoves.of_only (State.resolveArrivals_only _)).trans (State.runTests_moves _)

/-- The epoch after GO has brought the node to RUN or begun a stop there. -/
theorem Runs.epoch_moves {e : Nat} {u t : State} (h : Runs e u) (k : StopMoves u t) :
    (t.stop.epoch = e ∧ t.stop.path = .run) ∨
      (t.stop.epoch = nextEpoch e ∧ t.stop.path.stopped = true) := by
  cases k with
  | stays path epoch => exact .inl ⟨epoch.trans h.epoch, path.trans h.path⟩
  | goesOn within => rw [h.path] at within; cases within
  | begins _ begun => exact .inr ⟨h.epoch ▸ begun.epoch, PathState.stopped_of_halt begun.path⟩

/-- Entry to RUN from a path state in which no survey is in hand keeps the laws. -/
theorem State.enterRun_lawful {s : State} (h : s.stop.path ≠ .clearing) : Lawful s s.enterRun := by
  obtain ⟨u, hu, hphase, hm⟩ := s.enterRun_runs
  have hl (hs : surveyLaw s) : surveyLaw u := .of_phase (hphase.trans (hs.noSurvey h))
  exact ⟨fun hs => hm.lawful.survey (hl hs), fun hs _ =>
    hm.lawful.sites (hl hs) (.of_quiet hu.sites hu.own (by rw [hu.path]; rfl))⟩

/-- In READY a frame without a place raises nothing, so the node is still in READY (R45, R129). -/
theorem State.repeatPasses_ready {s : State} (h : s.stop.path = .ready) (l : List Entry) :
    (s.repeatPasses l).stop = s.stop := by
  unfold State.repeatPasses
  refine List.foldlRecOn (motive := fun t : State => t.stop = s.stop) _ _ rfl fun t ht e _ => ?_
  rw [← ht] at h ⊢
  exact State.queueFrame_dropped h rfl _

theorem State.returnHeld_ready {s : State} (h : s.stop.path = .ready) :
    s.returnHeld.stop = s.stop :=
  State.repeatPasses_ready (s := s.withTable (s.track.table.map s.resume)) h _

/-- GO carried out in READY, or turned away by the supply (R53, R129). -/
theorem State.goReady_succeeds {s : State} (hp : s.stop.path = .ready) : Succeeds s s.goReady := by
  unfold State.goReady; split
  · have hr := State.returnHeld_ready hp
    obtain ⟨u, hu, -, hm⟩ := s.returnHeld.enterRun_runs
    rw [hr] at hu
    exact ⟨(hu.epoch_moves hm).imp_left And.left,
      s.returnHeld_moves.lawful.trans (State.enterRun_lawful (by rw [hr, hp]; decide))⟩
  · exact (s.startStop_begun _ _ _).succeeds

theorem State.goCurrent_succeeds (s : State) : Succeeds s s.goCurrent := by
  unfold State.goCurrent; split
  · next hp => exact (State.goReady_succeeds (s.openPace_only.stop ▸ hp)).after s.openPace_only
  · exact (s.startStop_begun _ _ _).succeeds
  · exact (s.startStop_begun _ _ _).succeeds
  · exact (StopMoves.of_only s.countStale_only).succeeds
  · exact (StopMoves.of_only s.countStale_only).succeeds
  all_goals exact (StopMoves.refl s).succeeds

/-- GO in IDLE brings the frame's epoch, and RUN or a stop under the next one (R53, R130). -/
theorem State.goIdle_epoch {s u : State} (hu : u.stop = s.stop) :
    (u.go.stop.epoch = s.stop.epoch ∧ u.go.stop.path = .run) ∨
      (u.go.stop.epoch = nextEpoch s.stop.epoch ∧ u.go.stop.path.stopped = true) := by
  rw [← hu]
  unfold State.go; split
  · obtain ⟨v, hv, -, hm⟩ := u.enterRun_runs
    exact hv.epoch_moves hm
  · have h := u.startStop_begun .supply 0 0
    exact .inr ⟨h.epoch, PathState.stopped_of_halt h.path⟩

theorem State.go_lawful {s : State} (h : s.stop.path = .idle) : Lawful s s.go := by
  unfold State.go; split
  · exact State.enterRun_lawful (by rw [h]; decide)
  · exact (s.startStop_begun _ _ _).lawful

theorem execGoTaken_events (s : State) : Answers (Events .goTaken s) (execGoTaken s) := by
  unfold execGoTaken; split
  · next f t ht =>
    have ho := State.takeFrame_only ht
    refine .events_done ?_
    unfold State.goFrom; split
    · next hp =>
      obtain ⟨v, hv⟩ : ∃ v, v = t.withStop { t.stop with epoch := f.epoch } := ⟨_, rfl⟩
      have hvp : v.stop.path = .idle := by rw [hv]; exact hp
      have hve : v.stop.epoch = f.epoch := by rw [hv]; rfl
      have hpace := v.openPace_only
      obtain ⟨rest, hfront, -⟩ := State.takeFrame_front ht
      rw [← hv]
      have hl : Lawful t v := by
        rw [hv]
        exact ⟨id, fun _ hl => hl.congr rfl rfl rfl⟩
      have hgo := State.goIdle_epoch hpace.stop
      rw [hve] at hgo
      exact ⟨.inr (.inr (.inr (.inl ⟨rfl, ho.stop ▸ hp, f, rest, hfront, hgo⟩))),
        (StopMoves.of_only ho).lawful.trans <| hl.trans <|
          (StopMoves.of_only hpace).lawful.trans (State.go_lawful (hpace.stop ▸ hvp))⟩
    · split
      · exact (t.goCurrent_succeeds.after ho).events _
      · exact ((StopMoves.of_only t.countStale_only).succeeds.after ho).events _
  · exact .idles

/-- A JAMCALL that joins the stop in hand leaves the epoch (R56). -/
theorem State.jamcallJoins_succeeds {s : State} (h : s.stop.path.stopped = true) (x : Site) :
    Succeeds s (s.withStop (s.stop.addSite x)).haltAheadTest := by
  obtain ⟨u, hu⟩ : ∃ u, u = s.withStop (s.stop.addSite x) := ⟨_, rfl⟩
  have hstop : u.stop = s.stop.addSite x := by rw [hu]; rfl
  have hadd := s.stop.addSite_keeps x
  have hpath : u.stop.path = s.stop.path := by rw [hstop, hadd]
  have hown : u.stop.own = s.stop.own := by rw [hstop, hadd]
  have hepoch : u.stop.epoch = s.stop.epoch := by rw [hstop, hadd]
  have hclear : u.clear = s.clear := by rw [hu]; rfl
  have hm := u.haltAheadTest_moves
  rw [← hu]
  refine .of_lawful ((hm.joined (hpath ▸ h)).epoch.trans hepoch)
    (.trans ⟨fun hl => ?_, fun _ hl => ?_⟩ hm.lawful)
  · intro hc
    rw [hclear] at hc
    exact hpath.trans (hl hc)
  · have hj := hstop ▸ s.stop.addSite_joins x
    constructor
    · exact hj.few hl.few
    · exact hj.distinct hl.distinct
    · rw [hpath]
      intro hq
      obtain hq | hq := hq <;> rw [hq] at h <;> cases h
    · exact fun _ => hj.listed (hl.stopped h)
    · rw [hpath, hown]; exact hl.ownAbsent

theorem execJamcallTaken_events (s : State) :
    Answers (Events .jamcallTaken s) (execJamcallTaken s) := by
  unfold execJamcallTaken; split
  · next f t ht =>
    have ho := State.takeFrame_only ht
    refine .events_done ?_
    unfold State.jamcallFrom; split
    · exact ((StopMoves.of_only t.countStale_only).succeeds.after ho).events _
    · next x _ =>
      split
      · next hj =>
        rw [State.joins, Bool.and_eq_true] at hj
        exact ((State.jamcallJoins_succeeds hj.2 x).after ho).events _
      · obtain ⟨rest, hfront, -⟩ := State.takeFrame_front ht
        have hb := t.stopStart_begun f.epoch x
        exact ⟨.inr (.inr (.inl ⟨rfl, PathState.stopped_of_halt hb.path, f, rest, hfront, hb.epoch⟩)),
          (StopMoves.of_only ho).lawful.trans hb.lawful⟩
  · exact .idles

/-! ### Every command and every step -/

theorem State.powerOn_events {c : Instr} (s : State) (high : Bool) {t : State}
    (hc : c = .powerOnReset ∨ c = .resetnLow) (hs : t.stop = (s.powerOn high).stop)
    (hclear : t.clear = (s.powerOn high).clear) : Events c s t := by
  have hstop : t.stop = StopUnit.reset := hs
  refine .of_reset (hc.imp_right .inl) ?_ ?_ ?_ ?_ (by rw [hclear]; rfl) <;> rw [hstop] <;> rfl

/-- Every command keeps the laws and moves the epoch by one of its events. -/
theorem exec_events (c : Instr) (s : State) : Answers (Events c s) (exec c s) := by
  cases c with
  | powerOnReset =>
    have h := State.superviseSupply_only (s.powerOn true)
    exact .next (s.powerOn_events true (.inl rfl) h.stop (h .clear (by decide)))
  | resetnLow => exact .next (s.powerOn_events false (.inr rfl) rfl rfl)
  | start n => exact execStart_events n s
  | restart n => exact execRestart_events n s
  | readCounters n => exact .events_command (.moved_next (.stays rfl rfl rfl rfl (.inr rfl)))
  | sensorRawChange k high => exact execSensorRawChange_events k high s
  | filterCountComplete k => exact .ite (fun _ => .moved (s.takeEdge_moves _ _)) fun _ => .idles
  | stillEdge k => exact .ite (fun _ => .moved (s.takeEdge_moves _ _)) fun _ => .idles
  | passPointReached i => exact execPassPointReached_events i s
  | deferredPass i => exact execDeferredPass_events i s
  | lateAtStation i => exact execLateAtStation_events i s
  | lateAtS1 i => exact execLateAtS1_events i s
  | stall k => exact .ite (fun _ => .moved (s.raise_moves _ _ _)) fun _ => .idles
  | orphanHoldExpiry => exact .ite (fun _ => .moved s.endOrphan_moves) fun _ => .idles
  | gateGuardFail i => exact execGateGuardFail_events i s
  | pulseDelayComplete p => exact .moved (s.completeDelay_moves p)
  | pulseWidthEnd p => exact .moved (s.endWidth_moves p)
  | issue => exact execIssue_events s
  | restTimerExpiry => exact execRestTimerExpiry_events s
  | readyTimerExpiry => exact execReadyTimerExpiry_events s
  | drdyLost => exact execDrdyLost_events s
  | zoneStep z => exact execZoneStep_events z s
  | silenceTimeout z => exact execSilenceTimeout_events z s
  | tagHoldExpiry i => exact execTagHoldExpiry_events i s
  | supplyHoldExpiry => exact .ite (fun _ => .moved s.supplyTurns_moves) fun _ => .idles
  | fdone high => exact execFdone_events high s
  | operationTimeout => exact execOperationTimeout_events s
  | jamcallTaken => exact execJamcallTaken_events s
  | stopstateTaken => exact .frameMoved fun f t => t.stopstateFrom_moves f
  | tagstateTaken => exact .frameMoved fun f t => t.tagFrom_moves f
  | passTaken => exact .frameMoved fun f t => t.passFrom_moves f
  | planPurge => exact execPlanPurge_events s
  | planBind => exact execPlanBind_events s
  | goTaken => exact execGoTaken_events s
  | restTaken => exact execRestTaken_events s
  | surveyStart => exact execSurveyStart_events s
  | reportQueued => exact execReportQueued_events s
  | readyQueued => exact execReadyQueued_events s
  | transmitError => exact execTransmitError_events s
  | errorLimitReached => exact .ite (fun _ => .moved s.limitTest_moves) fun _ => .idles
  | frameSent => exact execFrameSent_events s
  | frameReceived bits => exact execFrameReceived_events bits s
  | configWrite | configRead | read | noticeRead | noticeClear | noticeSetup | pageSubmit | streamCancel
  | streamRelease | encoderCountedEdge | paceGapReached | startGo | drdyPresent | inputPinChange
  | vsenseChange | announcementQueued | deliverFinal | deliverCompiled | deliverPurge | setcloseTaken
  | reportTaken | readyTaken | planFrameQueued | planGoQueued | frameTransmitStart | arbitrationLost
  | frameCutShort => exact exec_events_of_frame _ s (by simp [mayChange]) (by simp [mayChange])

theorem State.tick_moves (s : State) : StopMoves s s.tick := by
  have of {l : List Part} {a b : State} := @StopMoves.of_only a b l
  unfold State.tick; split
  · exact .refl s
  · exact (of (s.withStations_only _)).trans <| (of (State.withZones_only _ _)).trans <|
      (of (State.withChain_only _ _)).trans <| (of (State.withPulses_only _ _)).trans <|
      (of (State.withTags_only _ _)).trans <| (of (State.withSupply_only _ _)).trans <|
      (of (State.withDeliv_only _ _)).trans (of (State.withFeed_only _ _))

/-- Every step keeps the survey law, and with it the site-list law. -/
theorem step_lawful (s : State) : Answers (Lawful s) (step s) := by
  unfold step; split
  · next c rest _ =>
    exact (exec_events c (s.withPending rest)).mono fun _ h =>
      ⟨h.lawful.survey, fun hs hl => h.lawful.sites hs (hl.congr rfl rfl rfl)⟩
  · split
    · exact (exec_events _ s).mono fun _ h => h.lawful
    · exact .next s.tick_moves.lawful

/-- Settles O6, by what each command does to the path state, the site list, the own-cause record and the
survey: nothing, or a stop goes on, begins or ends. -/
theorem stepKeepsTheSiteLaw : Obligations.StepKeepsTheSiteLaw := by
  unfold Obligations.StepKeepsTheSiteLaw
  intro s t hs ht
  have h := step_lawful s t ht
  exact ⟨h.survey hs, h.sites hs⟩

/-- Settles O10, by the same account of each command. -/
theorem epochMovesByItsEvents : Obligations.EpochMovesByItsEvents := by
  unfold Obligations.EpochMovesByItsEvents
  exact ⟨fun e he => if_neg (Nat.ne_of_lt he), rfl, fun c s t ht => (exec_events c s t ht).epoch⟩

end Sys2Proof.Machine
end

section
/-! SUPPORT and the proofs of CausesTakeEffectByPathState and CausesJoinAStop: what a cause does that begins
or joins a stop, with places for its frames. -/

namespace Sys2Proof.Machine

set_option Elab.async false

/-- Settles O35, cause by cause and path state by path state. -/
theorem causesTakeEffectByPathState : Obligations.CausesTakeEffectByPathState := by
  unfold Obligations.CausesTakeEffectByPathState
  refine ⟨fun c => ?_, fun p => ?_, fun c place sheet s h => s.raise_dropped c place sheet h⟩
  · cases c <;> decide
  · cases p <;> decide

/-! ### Parts that a node's rest changes -/

/-- The parts that the entry to HALTING and HALTED may change. -/
def haltParts : List Part := [.stop, .zones, .chain, .pulses, .line, .notices, .track, .feed]

theorem State.enterHalted_haltParts (s : State) : changesOnly haltParts s s.enterHalted :=
  changesOnly.andThen (s.enter_only _) <|
    changesOnly.andThen (n := haltParts) (State.dropDelays_only _) <|
      changesOnly.andThen (n := haltParts) (State.announceStance_only _ _) (State.openedAtHalt_only _)

theorem State.enterHalting_haltParts (s : State) : changesOnly haltParts s s.enterHalting := by
  have htest (s : State) : changesOnly haltParts s s.haltTest := by
    unfold State.haltTest; split
    · exact s.enterHalted_haltParts
    · exact (s.announceStance_only _).mono (by decide)
  exact (s.enter_only _).andThen ((State.restZones_only _).andThen (n := haltParts) (htest _))

theorem State.zonesChanged_haltParts (s : State) : changesOnly haltParts s s.zonesChanged := by
  unfold State.zonesChanged; split
  · exact s.enterHalted_haltParts
  · exact s.releaseChain_only.mono (by decide)

theorem State.joinStop_haltParts (s : State) (c : Cause) (place sheet : Nat) :
    changesOnly haltParts s (s.joinStop c place sheet) := by
  have hafter (s : State) (o : Option OwnCause) : changesOnly haltParts s (s.afterJoin o) := by
    unfold State.afterJoin; split
    · exact s.enterHalting_haltParts
    · split
      · exact s.brakeAll_only.andThen (State.zonesChanged_haltParts _)
      · exact .refl _ _
  exact (s.joinSite_only c place sheet).andThen (hafter _ _)

/-! ### Entry to HALTING, told of the state ahead of it -/

theorem State.ownBrakes_iff (s : State) : s.ownBrakes = true ↔ callsBrake s.stop.own := by
  unfold State.ownBrakes callsBrake
  cases s.stop.own with
  | none => simp
  | some o => simp

/-- What the entry to HALTING reads of the zones and of the panel group. -/
structure SameZones (s v : State) : Prop where
  zones : v.zones = s.zones
  cfg : v.cfg = s.cfg
  configured : v.configured = s.configured
  slots : v.tags.slots = s.tags.slots

section
variable {s v t : State}

theorem SameZones.inUse (h : SameZones s v) : v.inUse = s.inUse := State.inUse_congr h.cfg h.configured

theorem SameZones.trans {w : State} (h : SameZones s v) (k : SameZones v w) : SameZones s w :=
  ⟨k.zones.trans h.zones, k.cfg.trans h.cfg, k.configured.trans h.configured, k.slots.trans h.slots⟩

theorem SameZones.zone (h : SameZones s v) : v.zone = s.zone := by
  funext z; simp only [State.zone, h.zones]

theorem SameZones.restPath (h : SameZones s v) (k : RestPath v t) : RestPath s t := by
  unfold RestPath at k ⊢
  rwa [h.inUse, State.groupOpen_congr h.cfg h.configured h.slots] at k

theorem HaltEntered.own (h : HaltEntered v t) : t.stop.own = v.stop.own := by rw [h.stop]

theorem HaltEntered.zone (h : HaltEntered v t) {z : ZoneId} (hz : v.inUse z = true) :
    t.zone z = if v.ownBrakes = true then (v.zone z).brake else v.fallZone z (v.zone z) := by
  rw [← State.restZones_zone hz]
  simp only [State.zone, h.zones]

/-- With a place for its frame, the entry to HALTING is what R73 and R74 say of it. -/
theorem HaltEntered.entersHalting (h : HaltEntered v t) (k : SameZones s v) : EntersHalting s t := by
  have hzone {z : ZoneId} (hz : s.inUse z = true) :
      t.zone z = if v.ownBrakes = true then (s.zone z).brake else s.fallZone z (s.zone z) := by
    rw [h.zone (k.inUse ▸ hz), k.zone, State.fallZone_congr k.cfg]
  have hfall (hb : ¬ callsBrake t.stop.own) {z : ZoneId} (hz : s.inUse z = true) :
      t.zone z = s.fallZone z (s.zone z) := by
    rw [h.own, ← v.ownBrakes_iff] at hb
    rw [hzone hz, if_neg hb]
  constructor
  · intro hb z hz
    rw [h.own, ← v.ownBrakes_iff] at hb
    rw [hzone hz, if_pos hb]
    exact ⟨rfl, rfl, rfl⟩
  · intro hb z hz hm
    rw [hfall hb hz]
    exact State.fallZone_falls hm
  · intro hb z hz hm
    rw [hfall hb hz]
    simp only [State.fallZone, hm]
  · intro hb z hz hm
    rw [hfall hb hz]
    exact State.fallZone_rest hm
  · exact k.restPath h.path

/-- Frames and notices have no part in it. -/
theorem EntersHalting.of_same (h : EntersHalting s v) (hstop : t.stop = v.stop)
    (hzones : t.zones = v.zones) : EntersHalting s t := by
  have hzone : t.zone = v.zone := by funext z; simp only [State.zone, hzones]
  constructor
  · rw [hstop, hzone]; exact h.braked
  · rw [hstop, hzone]; exact h.falls
  · rw [hstop, hzone]; exact h.falling
  · rw [hstop, hzone]; exact h.atRest
  · unfold RestPath; rw [hstop, hzone]; exact h.path

end

/-- In HALTING a brake of every zone brings the node to rest (R74, R75). -/
theorem State.brakes_rest {s : State} (hp : s.stop.path = .halting) (hb : s.ownBrakes = true)
    (hroom : s.line.tx.length < 16) : HaltEntered s s.brakeAll.zonesChanged := by
  have hrest : s.brakeAll.allRest = true := (State.allRest_iff _).mpr fun z hz => by
    rw [State.brakeAll, State.mapZones_zone, if_pos (show s.inUse z = true from hz)]
    rfl
  obtain ⟨hstop, htx⟩ := State.enterHalted_open (s := s.brakeAll) hroom
    (State.configured_of_ne (by show s.stop.path ≠ _; rw [hp]; decide))
  have hzones := s.brakeAll.enterHalted_zones
  rw [State.zonesChanged, if_pos ⟨hp, hrest⟩]
  have hcfg := s.brakeAll.enterHalted_only.cfg
  generalize s.brakeAll.enterHalted = t at *
  have hpath : t.stop.path = if s.groupOpen = true then .clearing else .halted := by rw [hstop]; rfl
  have hne : t.stop.path ≠ .halting := by rw [hpath]; split <;> decide
  constructor
  · rw [hstop]; rfl
  · rw [hpath]; split
    · exact .inr (.inr rfl)
    · exact .inr (.inl rfl)
  · refine ⟨fun ⟨z, hz, hr⟩ => ?_, fun _ => hpath⟩
    have := (State.allRest_iff _).mp hrest z hz
    rw [show t.zone z = s.brakeAll.zone z by simp only [State.zone, hzones], this] at hr
    cases hr
  · rw [hzones, State.restZones, if_pos hb]
  · rw [htx, State.restNotice_eq hcfg (by rw [hstop]) (if_neg hne)]
    rfl

/-! ### A cause joins a stop -/

/-- The JAMCALL of a cause under the epoch of the stop in hand. -/
theorem State.joinSite_tx {s : State} (h : s.line.tx.length < 16) (c : Cause) (place sheet : Nat) :
    (s.joinSite c place sheet).line.tx = s.line.tx ++
      [⟨.jamcall, s.cfg.segment, s.stop.epoch, jamcallPayload (s.siteOf c place sheet)⟩] := by
  have he : (((s.stop.setOwn c place sheet).count c).addSite (s.siteOf c place sheet)).epoch =
      s.stop.epoch := by
    rw [StopUnit.addSite_keeps]
    show (s.stop.setOwn c place sheet).epoch = _
    rw [StopUnit.setOwn_keeps]
  rw [State.joinSite, State.jamcall_open (by exact h), ← he]
  rfl

theorem State.joinSite_own (s : State) (c : Cause) (place sheet : Nat) :
    (s.joinSite c place sheet).stop.own = (s.stop.setOwn c place sheet).own := by
  rw [s.joinSite_stop, StopUnit.addSite_keeps]; rfl

/-- The first own cause is SUPPLY or INTERLOCK just when it brakes the zones (R75). -/
theorem State.joinSite_brakes {s : State} (h : s.stop.own = none) (c : Cause) (place sheet : Nat) :
    (s.joinSite c place sheet).ownBrakes = true ↔ c = .supply ∨ c = .interlock := by
  rw [State.ownBrakes, s.joinSite_own, StopUnit.setOwn, h]
  simp

theorem State.joinSite_zones {s : State} (c : Cause) (place sheet : Nat) :
    SameZones s (s.joinSite c place sheet) :=
  have h := s.joinSite_only c place sheet
  ⟨h.zones, h.cfg, by simp only [State.configured, s.joinSite_path], by rw [h.tags]⟩

theorem State.raise_joinStop {s : State} {c : Cause} (place sheet : Nat)
    (hp : s.stop.path = .flush ∨ s.stop.path = .halting) (hc : c.takesEffect s.stop.path = true) :
    s.raise c place sheet = s.joinStop c place sheet := by
  rw [State.raise, if_pos hc]
  obtain hp | hp := hp <;> simp only [hp]

/-- The cause turns FLUSH to HALTING, or brakes every zone as first own cause in HALTING. -/
def Turns (s : State) (c : Cause) : Prop :=
  s.stop.path = .flush ∨ (s.stop.own = none ∧ (c = .supply ∨ c = .interlock))

theorem State.joinStop_turns {s : State} {c : Cause} (place sheet : Nat)
    (hp : s.stop.path = .flush ∨ s.stop.path = .halting) (h : Turns s c)
    (hroom : s.line.tx.length ≤ 14) :
    HaltEntered (s.joinSite c place sheet) (s.joinStop c place sheet) := by
  have hpath := s.joinSite_path c place sheet
  have hroom' : (s.joinSite c place sheet).line.tx.length < 16 := by
    rw [State.joinSite_tx (by omega), List.length_append, List.length_singleton]; omega
  rw [State.joinStop, State.afterJoin]
  split
  · next hf => exact State.enterHalting_open hroom' (State.configured_of_ne (by rw [hf]; decide))
  · next hf =>
    rw [hpath] at hf
    obtain ⟨hown, hc⟩ := h.resolve_left hf
    have hb := (State.joinSite_brakes hown c place sheet).mpr hc
    rw [if_pos ⟨hown, hb⟩]
    exact State.brakes_rest (hpath.trans (hp.resolve_left hf)) hb hroom'

/-- In HALTING any other cause leaves the node on its way to rest (R52). -/
theorem State.joinStop_goesOn {s : State} {c : Cause} (place sheet : Nat) (h : ¬ Turns s c) :
    s.joinStop c place sheet = s.joinSite c place sheet := by
  obtain ⟨hf, hn⟩ := not_or.mp h
  have hf' : (s.joinSite c place sheet).stop.path ≠ .flush := by rwa [s.joinSite_path]
  rw [State.joinStop, State.afterJoin, if_neg hf', if_neg]
  rintro ⟨hown, hb⟩
  exact hn ⟨hown, (State.joinSite_brakes hown c place sheet).mp hb⟩

/-- A cause that joins where it takes effect (R52). -/
theorem State.joinStop_joins {s : State} {c : Cause} (place sheet : Nat)
    (hp : s.stop.path = .flush ∨ s.stop.path = .halting) (hroom : s.line.tx.length ≤ 14) :
    StopJoined s c place sheet (s.joinStop c place sheet) := by
  by_cases h : Turns s c
  · have H := State.joinStop_turns place sheet hp h hroom
    exact State.joinSite_joins (by omega) H.stop ⟨_, H.tx⟩
  · rw [State.joinStop_goesOn place sheet h]
    exact State.joinSite_joins (by omega) rfl ⟨[], (List.append_nil _).symm⟩

/-! ### A cause raised where an earlier one of its command has brought the node to rest -/

theorem State.raiseFrom_atRest {s : State} {c : Cause} {p : PathState} (place sheet : Nat)
    (hp : s.stop.path ∈ [PathState.halted, .clearing]) (hc : c.takesEffect p = true)
    (hh : c.takesEffect .halting = true) :
    s.raiseFrom p c place sheet = s.joinSite c place sheet := by
  rw [State.raiseFrom, if_pos]
  simpa [Cause.joinsAtRest, hc, hh] using hp

theorem State.raiseFrom_elsewhere {s : State} {c : Cause} {p : PathState} (place sheet : Nat)
    (h : s.stop.path ∉ [PathState.halted, .clearing] ∨ c.takesEffect p = false ∨
      c.takesEffect .halting = false) :
    s.raiseFrom p c place sheet = s.raise c place sheet := by
  rw [State.raiseFrom, if_neg]
  obtain h | h | h := h
  · simp only [List.mem_cons, List.not_mem_nil, or_false] at h
    simp [Cause.joinsAtRest, h]
  · simp [Cause.joinsAtRest, h]
  · simp [Cause.joinsAtRest, h]

/-! ### A cause begins a stop -/

theorem State.raise_startStop {s : State} {c : Cause} (place sheet : Nat)
    (hp : s.stop.path = .run ∨ s.stop.path = .idle) (hc : c.takesEffect s.stop.path = true) :
    s.raise c place sheet = s.startStop c place sheet := by
  rw [State.raise, if_pos hc]
  obtain hp | hp := hp <;> simp only [hp]

/-- The stop's start enters HALTING, and its STOPSTATE goes out ahead of its JAMCALL (R51; log 10). -/
theorem State.startStop_halts {s : State} (c : Cause) (place sheet : Nat) (hc : s.configured = true)
    (hroom : s.line.tx.length ≤ 14) :
    EntersHalting s (s.startStop c place sheet) ∧
      (s.startStop c place sheet).line.tx = s.line.tx ++ [(s.startStop c place sheet).restNotice,
        ⟨.jamcall, s.cfg.segment, (s.startStop c place sheet).stop.epoch,
          jamcallPayload (s.siteOf c place sheet)⟩] := by
  obtain ⟨v, ht, hstop, hzones, hcfg, hslots, hline, -⟩ := s.startStop_eq c place sheet
  have hconf : v.configured = s.configured := by
    simp only [State.configured, hstop, StopUnit.begin_path]
  have H := State.enterHalting_open (s := v) (by rw [hline]; omega) (hconf.trans hc)
  have hcfg' : v.enterHalting.cfg = s.cfg := v.enterHalting_only.cfg.trans hcfg
  have htx : v.enterHalting.line.tx = s.line.tx ++ [v.enterHalting.restNotice] := by rw [H.tx, hline]
  rw [State.jamcall_open (by rw [htx, List.length_append, List.length_singleton]; omega)] at ht
  rw [ht]
  have hpush := v.enterHalting.push_only
    ⟨.jamcall, v.enterHalting.cfg.segment, v.enterHalting.stop.epoch,
      jamcallPayload (s.siteOf c place sheet)⟩
  refine ⟨(H.entersHalting ⟨hzones, hcfg, hconf, hslots⟩).of_same hpush.stop hpush.zones, ?_⟩
  show v.enterHalting.line.tx ++ _ = _
  rw [htx, List.append_assoc, hcfg']
  rfl

/-- Settles O36: a cause of RUN or IDLE by `State.startStop_halts`, one of FLUSH or HALTING by whether it
turns the node or leaves it on its way to rest, and a second one of a command by `State.raiseFrom_atRest`. -/
theorem causesJoinAStop : Obligations.CausesJoinAStop := by
  unfold Obligations.CausesJoinAStop
  refine ⟨fun p c place sheet s => ⟨fun hp hc hh hroom t ht => ?_, State.raiseFrom_elsewhere place sheet⟩,
    fun c place sheet s hc hp hown hroom t ht => ?_, fun c place sheet s hp hc hroom t ht => ?_⟩
  · rw [State.raiseFrom_atRest place sheet hp hc hh] at ht
    subst ht
    exact ⟨State.joinSite_joins (by omega) rfl ⟨[], (List.append_nil _).symm⟩, s.joinSite_path _ _ _,
      s.joinSite_only _ _ _⟩
  · have hb := State.raise_begins place sheet hc hp hown hroom
    have hconf : s.configured = true :=
      State.configured_of_ne (by obtain hp | hp := hp <;> rw [hp] <;> decide)
    rw [State.raise_startStop place sheet hp hc] at ht hb
    subst ht
    exact ⟨hb, State.startStop_halts c place sheet hconf hroom⟩
  · rw [State.raise_joinStop place sheet hp hc] at ht
    have J := State.joinStop_joins (c := c) place sheet hp hroom
    have hframe := s.joinStop_haltParts c place sheet
    have hjam := State.joinSite_tx (s := s) (by omega) c place sheet
    rw [← ht] at J hframe
    by_cases h : Turns s c
    · have H : HaltEntered _ t := ht ▸ State.joinStop_turns place sheet hp h hroom
      have E : EntersHalting s t := H.entersHalting (State.joinSite_zones c place sheet)
      have htx := H.tx
      rw [hjam, List.append_assoc] at htx
      refine ⟨J.epoch, J.stances, H.stopped, J.ownFirst, J.ownLater, J.listed,
        fun ha => ⟨J.added ha, J.full ha⟩, J.counted, ⟨_, htx⟩, fun _ => E, fun _ hown hb => ?_,
        fun _ => htx, fun hhalt hn => ?_, hframe⟩
      · exact ⟨E.path, E.braked ⟨_, J.ownFirst hown, hb⟩⟩
      · obtain hf | ⟨hown, hb⟩ := h
        · rw [hf] at hhalt; cases hhalt
        · obtain hn | ⟨hs, hi⟩ := hn
          · exact absurd hown hn
          · exact absurd hb (not_or.mpr ⟨hs, hi⟩)
    · rw [State.joinStop_goesOn place sheet h] at ht
      obtain ⟨hf, hn⟩ := not_or.mp h
      have hhalt : t.stop.path = .halting := by
        rw [ht, s.joinSite_path]; exact hp.resolve_left hf
      rw [← ht] at hjam
      exact ⟨J.epoch, J.stances, .inl hhalt, J.ownFirst, J.ownLater, J.listed,
        fun ha => ⟨J.added ha, J.full ha⟩, J.counted, ⟨[], hjam⟩, fun hf' => absurd hf' hf,
        fun _ hown hb => absurd ⟨hown, hb⟩ hn, fun h' => absurd h' h,
        fun _ _ => ⟨hhalt, hjam, ht ▸ (s.joinSite_only c place sheet).mono (by decide)⟩, hframe⟩

end Sys2Proof.Machine
end

section
/-! SUPPORT and the proof of JamcallTaken: a JAMCALL at the front of the receive queue, the halts that lie
ahead of items, and the stance that a stop's start takes. -/

namespace Sys2Proof.Machine

set_option Elab.async false

/-! ### The frame -/

theorem Cause.ofCode_code (c : Cause) : Cause.ofCode c.code = some c := by cases c <;> rfl

theorem Cause.code_of_ofCode {n : Nat} {c : Cause} (h : Cause.ofCode n = some c) : c.code = n := by
  unfold Cause.ofCode at h
  split at h <;> cases h <;> rfl

/-- The ranges of R55. -/
theorem jamcallSite_iff (f : Frame) (x : Site) : jamcallSite f = some x ↔ CarriesSite f x := by
  unfold jamcallSite
  constructor
  · intro h
    split at h
    · cases h
    · next hr =>
      obtain ⟨c, hc, rfl⟩ := Option.map_eq_some_iff.mp h
      obtain ⟨he, ho, hp⟩ : f.epoch ≠ 0 ∧ f.origin ≠ 0 ∧ byteAt f.payload 1 ≤ 8 := by
        simpa [not_or] using hr
      exact ⟨he, ho, rfl, Cause.code_of_ofCode hc, rfl, hp, rfl⟩
  · rintro ⟨he, ho, hseg, hcause, hplace, hfew, hsheet⟩
    rw [if_neg (by rw [hplace] at hfew; simp [he, ho, hfew]), ← hcause, Cause.ofCode_code,
      Option.map_some, ← hseg, ← hplace, ← hsheet]

theorem exec_jamcallTaken {s : State} {f : Frame} {rest : List Frame} (h : Front s .jamcall f rest) :
    exec .jamcallTaken s = done s ((s.took rest).jamcallFrom f) := by
  have ht : s.takeFrame .jamcall = some (f, s.took rest) := by
    rw [State.takeFrame, h.queue]
    dsimp only
    rw [if_pos (by simp [h.configured, h.kind])]
    rfl
  show execJamcallTaken s = _
  rw [execJamcallTaken, ht]

theorem done_notices (before after : State) : ∃ n, done before after = .next (after.withNotices n) := by
  obtain ⟨n, hn⟩ := latchNew_eq before after
  exact ⟨n, congrArg Host.Outcome.next hn⟩

/-! ### Halts ahead -/

theorem StopUnit.haltsAt_iff (u : StopUnit) (seg : Nat) : u.haltsAt seg = true ↔ HaltsAt u seg := by
  unfold StopUnit.haltsAt HaltsAt
  cases u.stanceOfSegment seg <;> simp [Stance.isHalting]

theorem State.haltAhead_iff (s : State) : s.haltAhead = true ↔ HaltAhead s s.stop := by
  unfold State.haltAhead HaltAhead
  simp [StopUnit.haltsAt_iff]

theorem State.nextByLeg_congr {s v : State} (h : v.cfg = s.cfg) (r : SheetRecord) :
    v.nextByLeg r = s.nextByLeg r := by
  cases s; cases v; cases h; rfl

/-- Sites and stances decide where a halt lies, and configuration and items what lies ahead. -/
theorem HaltAhead.congr {s v : State} {a b : StopUnit} (hcfg : v.cfg = s.cfg)
    (htable : v.track.table = s.track.table) (harrivals : v.track.arrivals = s.track.arrivals)
    (hsites : b.sites = a.sites) (hstances : b.stances = a.stances) :
    HaltAhead v b ↔ HaltAhead s a := by
  have hat (seg : Nat) : HaltsAt b seg ↔ HaltsAt a seg := by
    simp only [HaltsAt, StopUnit.stanceOfSegment, hsites, hstances]
  simp only [HaltAhead, htable, harrivals, hat, State.nextByLeg_congr hcfg, State.nextOf_congr hcfg]

theorem State.drained_iff (s : State) : s.drained = true ↔
    (∀ e ∈ s.track.table, e.loc = .held) ∧ (∀ a ∈ s.track.arrivals, a.unresolved = true) ∧
      s.track.orphan = none := by
  simp [State.drained, and_assoc]

/-- With one site and no stance known, a halt lies at that site alone. -/
theorem HaltsAt.site {u : StopUnit} {x : Site} {seg : Nat} (hs : u.sites = [x])
    (hst : u.stances = Vector.replicate 15 .unknown) (h : HaltsAt u seg) : seg = x.segment := by
  obtain ⟨-, ⟨y, hy, rfl⟩ | hstance⟩ := h
  · rw [hs, List.mem_singleton] at hy
    rw [hy]
  · have hu : u.stanceOfSegment seg = .unknown := by
      unfold StopUnit.stanceOfSegment; split
      · rfl
      · rw [hst]
        simp only [Vector.getElem?_replicate]
        split <;> rfl
    rw [hu] at hstance
    simp at hstance

/-! ### The stance of a stop's start -/

/-- The stance that the node takes at a stop's start in `s` (R66), with its zones as in `before`: HALTING at
once, FLUSH, or HALTING after FLUSH in a node that has drained. -/
inductive StanceTaken (before s : State) (p : PathState) (t : State) : Prop
  | halts (must : s.mustHalt p = true) (halt : EntersHalting before t) (path : t.stop.path ≠ .flush)
      (tx : t.line.tx = s.line.tx ++ [t.restNotice])
  | drains (may : s.mustHalt p ≠ true) (drained : s.drained = true) (halt : EntersHalting before t)
      (path : t.stop.path ≠ .flush)
      (tx : t.line.tx = s.line.tx ++ [s.stanceNotice .flushing, t.restNotice])
  | flushes (may : s.mustHalt p ≠ true) (moving : s.drained ≠ true) (path : t.stop.path = .flush)
      (tx : t.line.tx = s.line.tx ++ [s.stanceNotice .flushing])

theorem HaltEntered.left {s t : State} (h : HaltEntered s t) : t.stop.path ≠ .flush := by
  obtain h | h | h := h.stopped <;> rw [h] <;> decide

/-- FLUSH entered and announced (R68), with no test made yet. -/
structure FlushEntered (s v : State) : Prop where
  same : SameZones s v
  stop : v.stop = { s.stop with path := .flush }
  drained : v.drained = s.drained
  tx : v.line.tx = s.line.tx ++ [s.stanceNotice .flushing]
  frame : changesOnly haltParts s v

/-- With no halt ahead of an item, a node that has entered FLUSH looks whether it has drained (R69, R71). -/
theorem State.enterFlush_drains {s : State} (hc : s.configured = true) (hroom : s.line.tx.length < 16)
    (hahead : s.haltAhead = false) : ∃ v, s.enterFlush = v.drainTest ∧ FlushEntered s v := by
  obtain ⟨u, hu⟩ : ∃ u, u = s.enter .flush := ⟨_, rfl⟩
  have henter : changesOnly enterParts s u := hu ▸ s.enter_only _
  have hstop : u.stop = { s.stop with path := .flush } := hu ▸ s.enter_stop _
  have hkeeps : KeepsHoldings s u := hu ▸ s.enter_keeps _
  have hframe : u.stanceFrame .flushing = s.stanceNotice .flushing := by
    simp only [State.stanceFrame, State.frame, State.stanceNotice, henter.cfg, hstop]
  have hflush : u.announceFlush = u.push (s.stanceNotice .flushing) := by
    rw [State.announceFlush, if_pos (LineUnit.open_of_lt (by decide) (by rw [henter.line]; exact hroom)),
      hframe]
  have hpush := u.push_only (s.stanceNotice .flushing)
  have hnot : ¬ (u.push (s.stanceNotice .flushing)).haltAhead = true := by
    rw [State.haltAhead_iff, HaltAhead.congr (s := s) (a := s.stop) (hpush.cfg.trans henter.cfg)
      hkeeps.table hkeeps.arrivals (by rw [hpush.stop, hstop]) (by rw [hpush.stop, hstop]),
      ← State.haltAhead_iff, hahead]
    decide
  refine ⟨u.push (s.stanceNotice .flushing), ?_, ⟨?_, ?_, ?_, ?_⟩, ?_, ?_, ?_, ?_⟩
  · rw [State.enterFlush, ← hu, hflush, State.haltAheadTest, if_neg fun h => hnot h.2]
  · exact hpush.zones.trans henter.zones
  · exact hpush.cfg.trans henter.cfg
  · refine (State.configured_of_ne ?_).trans hc.symm
    rw [hpush.stop, hstop]; exact nofun
  · rw [hpush.tags, henter.tags]
  · exact hpush.stop.trans hstop
  · show (u.track.table.all _ && u.track.arrivals.all _ && u.track.orphan.isNone) = _
    rw [hkeeps.table, hkeeps.arrivals, hkeeps.orphan]
    rfl
  · show u.line.tx ++ _ = _
    rw [henter.line]
  · exact henter.andThen hpush

/-- The stance of a stop's start, and what it leaves: the stop controller but for the path state, and every
part that no rest changes. -/
theorem State.takeStance_taken {before s : State} (p : PathState) (k : SameZones before s)
    (hc : s.configured = true) (hroom : s.line.tx.length ≤ 14) :
    StanceTaken before s p (s.takeStance p) ∧
      (s.takeStance p).stop = { s.stop with path := (s.takeStance p).stop.path } ∧
      changesOnly haltParts s (s.takeStance p) := by
  unfold State.takeStance; split
  · next hm =>
    have H := State.enterHalting_open (s := s) (by omega) hc
    exact ⟨.halts hm (H.entersHalting k) H.left H.tx, H.stop, s.enterHalting_haltParts⟩
  · next hm =>
    have hahead : s.haltAhead = false := by
      rw [Bool.not_eq_true] at hm
      simp only [State.mustHalt, Bool.or_eq_false_iff] at hm
      exact hm.1.2
    obtain ⟨v, hflush, F⟩ := State.enterFlush_drains hc (by omega) hahead
    have hp : v.stop.path = .flush := by rw [F.stop]
    rw [hflush, State.drainTest]
    split
    · next hd =>
      have H := State.enterHalting_open (s := v)
        (by rw [F.tx, List.length_append, List.length_singleton]; omega) (F.same.configured.trans hc)
      refine ⟨.drains hm (F.drained ▸ hd.2) (H.entersHalting (k.trans F.same)) H.left ?_, ?_,
        F.frame.andThen v.enterHalting_haltParts⟩
      · rw [H.tx, F.tx, List.append_assoc]; rfl
      · rw [H.stop, F.stop]
    · next hd =>
      exact ⟨.flushes hm (fun h => hd ⟨hp, F.drained.trans h⟩) hp F.tx, by rw [hp, F.stop], F.frame⟩

/-! ### A JAMCALL of the stop in hand -/

/-- The state with the front frame taken and the JAMCALL's site joined. -/
def State.sited (s : State) (rest : List Frame) (x : Site) : State :=
  (s.took rest).withStop (s.stop.addSite x)

theorem State.jamcallFrom_joins {s : State} {f : Frame} {x : Site} (rest : List Frame)
    (hx : CarriesSite f x) (he : f.epoch = s.stop.epoch) (hp : s.stop.path.stopped = true) :
    (s.took rest).jamcallFrom f = (s.sited rest x).haltAheadTest := by
  have hj : (s.took rest).joins f = true := by
    show (f.epoch == s.stop.epoch && s.stop.path.stopped) = true
    rw [he, hp, beq_self_eq_true]; rfl
  rw [State.jamcallFrom, (jamcallSite_iff f x).mpr hx]
  dsimp only
  rw [if_pos hj]
  rfl

/-- A stop controller that a site has joined, seen where the path state has moved on (R47, R56). -/
structure SiteJoined (u : StopUnit) (x : Site) (v : StopUnit) : Prop where
  epoch : v.epoch = u.epoch
  own : v.own = u.own
  stances : v.stances = u.stances
  listed : (∃ y ∈ u.sites, y.segment = x.segment) → v.sites = u.sites ∧ v.overflow = u.overflow
  added : (∀ y ∈ u.sites, y.segment ≠ x.segment) → u.sites.length < 4 →
    v.sites = u.sites ++ [x] ∧ v.overflow = u.overflow
  full : (∀ y ∈ u.sites, y.segment ≠ x.segment) → 4 ≤ u.sites.length →
    v.sites = u.sites ∧ v.overflow = true

theorem StopUnit.addSite_joined {u v : StopUnit} {x : Site}
    (h : v = { u.addSite x with path := v.path }) : SiteJoined u x v := by
  have hkeeps := u.addSite_keeps x
  constructor
  · rw [h, hkeeps]
  · rw [h, hkeeps]
  · rw [h, hkeeps]
  · intro hl
    rw [h, StopUnit.addSite_present hl]
    exact ⟨rfl, rfl⟩
  · intro ha hl
    rw [h, StopUnit.addSite_absent ha, if_pos (show u.sites.length < siteCap from hl)]
    exact ⟨rfl, rfl⟩
  · intro ha hl
    rw [h, StopUnit.addSite_absent ha, if_neg (show ¬ u.sites.length < siteCap from Nat.not_lt.mpr hl)]
    exact ⟨rfl, rfl⟩

theorem StopUnit.addSite_path (u : StopUnit) (x : Site) : (u.addSite x).path = u.path := by
  rw [u.addSite_keeps]

theorem State.sited_path (s : State) (rest : List Frame) (x : Site) :
    (s.sited rest x).stop.path = s.stop.path := s.stop.addSite_path x

theorem State.sited_condition (s : State) (rest : List Frame) (x : Site) :
    (s.sited rest x).condition = s.condition := by
  rw [State.sited, StopUnit.addSite_keeps]
  funext n; cases n <;> rfl

theorem State.sited_only (s : State) (rest : List Frame) (x : Site) :
    changesOnly [.stop, .line] s (s.sited rest x) :=
  changesOnly.andThen (s.withLine_only { s.line with rx := rest }) (State.withStop_only _ _)

/-- Outside FLUSH a JAMCALL of the stop in hand brings its site and no more (R56). -/
theorem done_sited {s : State} (hp : s.stop.path ≠ .flush) (rest : List Frame) (x : Site) :
    done s (s.sited rest x).haltAheadTest = .next (s.sited rest x) := by
  rw [State.haltAheadTest, if_neg (by rw [s.sited_path]; exact fun h => hp h.1)]
  exact congrArg Host.Outcome.next (latchNew_same (s.sited_condition rest x))

theorem State.sited_zones {s : State} (rest : List Frame) (x : Site) :
    SameZones s (s.sited rest x) :=
  ⟨rfl, rfl, by simp only [State.configured, s.sited_path], rfl⟩

/-- In FLUSH the node turns to rest where a halt has come to lie ahead of an item, and goes on otherwise
(R56, R69). -/
theorem State.sited_flush {s : State} (hp : s.stop.path = .flush) (hroom : s.line.tx.length < 16)
    (rest : List Frame) (x : Site) :
    (HaltAhead s (s.stop.addSite x) ∧ HaltEntered (s.sited rest x) (s.sited rest x).haltAheadTest) ∨
      (¬ HaltAhead s (s.stop.addSite x) ∧ (s.sited rest x).haltAheadTest = s.sited rest x) := by
  have hahead : (s.sited rest x).haltAhead = true ↔ HaltAhead s (s.stop.addSite x) :=
    (State.haltAhead_iff _).trans (HaltAhead.congr rfl rfl rfl rfl rfl)
  have hpath := (s.sited_path rest x).trans hp
  unfold State.haltAheadTest; split
  · next h =>
    exact .inl ⟨hahead.mp h.2, State.enterHalting_open hroom
      (State.configured_of_ne (by rw [hpath]; decide))⟩
  · next h => exact .inr ⟨fun ha => h ⟨hpath, hahead.mpr ha⟩, rfl⟩

/-! ### A JAMCALL that starts a stop -/

theorem State.jamcallFrom_starts {s : State} {f : Frame} {x : Site} (rest : List Frame)
    (hx : CarriesSite f x) (h : ¬ (f.epoch = s.stop.epoch ∧ s.stop.path.stopped = true)) :
    (s.took rest).jamcallFrom f = ((s.took rest).newStop f.epoch x).takeStance s.stop.path := by
  have hj : ¬ (s.took rest).joins f = true := by
    show ¬ (f.epoch == s.stop.epoch && s.stop.path.stopped) = true
    rwa [Bool.and_eq_true, beq_iff_eq]
  rw [State.jamcallFrom, (jamcallSite_iff f x).mpr hx]
  dsimp only
  rw [if_neg hj]
  rfl

theorem State.newStop_stop (s : State) (epoch : Nat) (x : Site) : (s.newStop epoch x).stop =
    { s.stop with
      epoch := epoch, sites := [x], overflow := false, stances := Vector.replicate 15 .unknown } :=
  s.stop.begin_eq epoch x

theorem State.newStop_zones (s : State) (rest : List Frame) (epoch : Nat) (x : Site) :
    SameZones s ((s.took rest).newStop epoch x) :=
  ⟨rfl, rfl, by rw [State.configured, State.newStop_stop]; rfl, rfl⟩

/-- The node is a site of the new stop, or FEED, or was in neither RUN nor FLUSH: rows 1, 2 and 4 of R66. -/
def HaltsAnyhow (s : State) (seg : Nat) : Prop :=
  s.stop.own ≠ none ∨ seg = s.cfg.segment ∨ s.cfg.kind = some .feed ∨
    (s.stop.path ≠ .run ∧ s.stop.path ≠ .flush)

/-- The rows of R66 by which a stop's start halts the node. -/
theorem State.newStop_mustHalt (s : State) (epoch : Nat) (x : Site) :
    (s.newStop epoch x).mustHalt s.stop.path = true ↔
      HaltsAnyhow s x.segment ∨ HaltAhead s (s.newStop epoch x).stop := by
  have hahead : (s.newStop epoch x).haltAhead = true ↔ HaltAhead s (s.newStop epoch x).stop :=
    (State.haltAhead_iff _).trans (HaltAhead.congr rfl rfl rfl rfl rfl)
  have hsite : (s.newStop epoch x).isSite = true ↔ s.stop.own ≠ none ∨ x.segment = s.cfg.segment := by
    rw [State.isSite, s.newStop_stop]
    show (s.stop.own.isSome || [x].any fun y => y.segment == s.cfg.segment) = true ↔ _
    simp [Option.isSome_iff_ne_none]
  have hkind : (s.newStop epoch x).isKind .feed = true ↔ s.cfg.kind = some .feed := beq_iff_eq
  simp only [State.mustHalt, HaltsAnyhow, Bool.or_eq_true, hsite, hkind, hahead, Bool.not_eq_true',
    Bool.or_eq_false_iff, beq_eq_false_iff_ne]
  tauto

theorem ClearUnit.endWork_residual (c : ClearUnit) : c.endWork.residual = false := by
  unfold ClearUnit.endWork; split
  · rfl
  · next h => rw [← Bool.not_eq_true]; exact fun hr => h (.inr (.inl hr))

theorem ClearUnit.endWork_binds (c : ClearUnit) : c.endWork.binds = [] := by
  unfold ClearUnit.endWork; split
  · rfl
  · next h => by_contra hb; exact h (.inr (.inr hb))

/-- What every stop start leaves, whatever stance the node takes (R50, R106, R117, R165). -/
structure StopLeft (s : State) (epoch : Nat) (x : Site) (t : State) : Prop where
  epoch : t.stop.epoch = epoch
  sites : t.stop.sites = [x]
  overflow : t.stop.overflow = false
  stances : t.stop.stances = Vector.replicate 15 .unknown
  own : t.stop.own = s.stop.own
  counters : t.stop.counters = s.stop.counters
  plan : t.plan = .reset
  phase : t.clear.phase = .noSurvey
  residual : t.clear.residual = false
  binds : t.clear.binds = []
  cycle : t.tags.panelCycle = s.groupOpen

theorem State.newStop_leaves {s t : State} {epoch : Nat} {x : Site}
    (hstop : t.stop = { (s.newStop epoch x).stop with path := t.stop.path })
    (hframe : changesOnly haltParts (s.newStop epoch x) t) : StopLeft s epoch x t := by
  rw [s.newStop_stop] at hstop
  have hplan : t.plan = .reset := hframe .plan (by decide)
  have hclear : t.clear = s.clear.endWork := hframe .clear (by decide)
  have htags : t.tags = { s.tags with panelCycle := s.groupOpen } := hframe.tags
  constructor
  case epoch => rw [hstop]
  case sites => rw [hstop]
  case overflow => rw [hstop]
  case stances => rw [hstop]
  case own => rw [hstop]
  case counters => rw [hstop]
  case plan => exact hplan
  case phase => rw [hclear]; exact s.clear.endWork_phase
  case residual => rw [hclear]; exact s.clear.endWork_residual
  case binds => rw [hclear]; exact s.clear.endWork_binds
  case cycle => rw [htags]

/-- With the one site of a new stop a halt lies ahead of an item only at that site. -/
theorem HaltAhead.not_of_site {s : State} {u : StopUnit} {x : Site} (hs : u.sites = [x])
    (hst : u.stances = Vector.replicate 15 .unknown)
    (he : ∀ e ∈ s.track.table, e.loc ≠ .held → s.nextOf e ≠ x.segment)
    (ha : ∀ a ∈ s.track.arrivals, s.nextByLeg a.record ≠ x.segment) : ¬ HaltAhead s u := by
  rintro (⟨e, hmem, hloc, h⟩ | ⟨a, hmem, h⟩)
  · exact he e hmem hloc (h.site hs hst)
  · exact ha a hmem (h.site hs hst)

/-! ### The frame taken -/

/-- A JAMCALL of the stop in hand: its site has joined, and a node in FLUSH turns to rest where a halt has
come to lie ahead of an item. -/
theorem jamcallTaken_joins {s : State} {f : Frame} {rest : List Frame} {x : Site}
    (hx : CarriesSite f x) (he : f.epoch = s.stop.epoch) (hp : s.stop.path.stopped = true)
    (hroom : s.line.tx.length < 16) :
    ∃ t, done s ((s.took rest).jamcallFrom f) = .next t ∧ SiteJoined s.stop x t.stop ∧
      (s.stop.path ≠ .flush → t = s.sited rest x) ∧
      (s.stop.path = .flush →
        (HaltAhead s t.stop ∧ t.stop.path ∈ [PathState.halting, .halted, .clearing] ∧
          EntersHalting s t ∧ t.line.tx = s.line.tx ++ [t.restNotice]) ∨
        (¬ HaltAhead s t.stop ∧ t.stop.path = .flush)) := by
  rw [State.jamcallFrom_joins rest hx he hp]
  by_cases hflush : s.stop.path = .flush
  · obtain ⟨n, hn⟩ := done_notices s (s.sited rest x).haltAheadTest
    have hturn := State.sited_flush hflush hroom rest x
    generalize (s.sited rest x).haltAheadTest = w at hn hturn
    have hstop : w.stop = { s.stop.addSite x with path := w.stop.path } := by
      obtain ⟨-, H⟩ | ⟨-, hw⟩ := hturn
      · exact H.stop
      · rw [hw]; rfl
    have hahead : HaltAhead s w.stop ↔ HaltAhead s (s.stop.addSite x) :=
      HaltAhead.congr rfl rfl rfl (by rw [hstop]) (by rw [hstop])
    refine ⟨_, hn, StopUnit.addSite_joined hstop, fun h => absurd hflush h, fun _ => ?_⟩
    obtain ⟨ha, H⟩ | ⟨hno, hw⟩ := hturn
    · refine .inl ⟨hahead.mpr ha, ?_, (H.entersHalting (s.sited_zones rest x)).of_same rfl rfl, H.tx⟩
      show w.stop.path ∈ _
      obtain h | h | h := H.stopped <;> rw [h] <;> decide
    · refine .inr ⟨fun ha => hno (hahead.mp ha), ?_⟩
      show w.stop.path = _
      rw [hw, s.sited_path, hflush]
  · exact ⟨_, done_sited hflush rest x, StopUnit.addSite_joined rfl, fun _ => rfl,
      fun h => absurd h hflush⟩

/-- The stance of a stop that a JAMCALL starts, told of the node as the frame found it. -/
inductive StartStance (s : State) (f : Frame) (t : State) : Prop
  | halts (row : HaltsAnyhow s f.origin ∨ HaltAhead s t.stop) (halt : EntersHalting s t)
      (path : t.stop.path ≠ .flush) (tx : t.line.tx = s.line.tx ++ [t.restNotice])
  | drains (row : ¬ (HaltsAnyhow s f.origin ∨ HaltAhead s t.stop)) (drained : s.drained = true)
      (halt : EntersHalting s t) (path : t.stop.path ≠ .flush)
      (tx : t.line.tx = s.line.tx ++ [t.stanceNotice .flushing, t.restNotice])
  | flushes (row : ¬ (HaltsAnyhow s f.origin ∨ HaltAhead s t.stop)) (moving : s.drained ≠ true)
      (path : t.stop.path = .flush) (tx : t.line.tx = s.line.tx ++ [t.stanceNotice .flushing])

/-- A JAMCALL that starts a stop: what the start leaves, and the stance by R66. -/
theorem jamcallTaken_starts {s : State} {f : Frame} {rest : List Frame} {x : Site}
    (hx : CarriesSite f x) (hnew : ¬ (f.epoch = s.stop.epoch ∧ s.stop.path.stopped = true))
    (hc : s.configured = true) (hroom : s.line.tx.length ≤ 14) :
    ∃ t, done s ((s.took rest).jamcallFrom f) = .next t ∧ StopLeft s f.epoch x t ∧
      t.stop.path ∈ haltPaths ∧ t.cfg = s.cfg ∧ StartStance s f t := by
  rw [State.jamcallFrom_starts rest hx hnew]
  have hsame := s.newStop_zones rest f.epoch x
  have ht := State.takeStance_taken s.stop.path hsame (hsame.configured.trans hc) hroom
  have hmust := (s.took rest).newStop_mustHalt f.epoch x
  obtain ⟨-, hpath⟩ := ((s.took rest).newStop f.epoch x).takeStance_joined s.stop.path
  obtain ⟨n, hn⟩ := done_notices s (((s.took rest).newStop f.epoch x).takeStance s.stop.path)
  generalize (((s.took rest).newStop f.epoch x).takeStance s.stop.path) = w at hn ht hpath
  obtain ⟨htaken, hstop, hframe⟩ := ht
  have L := State.newStop_leaves hstop hframe
  have hahead : HaltAhead (s.took rest) ((s.took rest).newStop f.epoch x).stop ↔ HaltAhead s w.stop :=
    HaltAhead.congr rfl rfl rfl (by rw [hstop]) (by rw [hstop])
  have hsaid : ((s.took rest).newStop f.epoch x).stanceNotice .flushing = w.stanceNotice .flushing := by
    rw [State.stanceNotice, State.stanceNotice, L.epoch, hframe.cfg, State.newStop_stop]
  rw [hahead, hx.segment] at hmust
  refine ⟨_, hn, ⟨L.epoch, L.sites, L.overflow, L.stances, L.own, L.counters, L.plan, L.phase,
    L.residual, L.binds, L.cycle⟩, hpath, hframe.cfg, ?_⟩
  cases htaken with
  | halts must halt path tx => exact .halts (hmust.mp must) (halt.of_same rfl rfl) path tx
  | drains may drained halt path tx =>
    rw [hsaid] at tx
    exact .drains (fun h => may (hmust.mpr h)) drained (halt.of_same rfl rfl) path tx
  | flushes may moving path tx =>
    rw [hsaid] at tx
    exact .flushes (fun h => may (hmust.mpr h)) moving path tx

theorem HaltsAnyhow.absent {s : State} {seg : Nat} (ho : s.stop.own = none) (hs : seg ≠ s.cfg.segment)
    (hk : s.cfg.kind ≠ some .feed) (hp : s.stop.path = .run ∨ s.stop.path = .flush) :
    ¬ HaltsAnyhow s seg := by
  rintro (h | h | h | ⟨hr, hf⟩)
  · exact h ho
  · exact hs h
  · exact hk h
  · exact hp.elim hr hf

/-- Settles O46: a frame out of range by `jamcallSite_iff`, one of the stop in hand by `jamcallTaken_joins`,
and one that starts a stop by the stance of `jamcallTaken_starts`. -/
theorem jamcallTaken : Obligations.JamcallTaken := by
  unfold Obligations.JamcallTaken
  intro s f rest hfront
  rw [exec_jamcallTaken hfront]
  refine ⟨fun hnone => ?_, fun x hx he hp hroom => ?_, fun x hx hnew hroom => ?_⟩
  · have hsite : jamcallSite f = none :=
      Option.eq_none_iff_forall_ne_some.mpr fun x h => hnone x ((jamcallSite_iff f x).mp h)
    rw [State.jamcallFrom, hsite]
    exact done_stale s rest
  · obtain ⟨t, ht, J, hstay, hflush⟩ := jamcallTaken_joins (rest := rest) hx he hp hroom
    refine ⟨t, ht, J.epoch, J.own, J.stances, hx.segment ▸ J.listed, hx.segment ▸ J.added,
      hx.segment ▸ J.full, fun h => ?_, fun h => ?_⟩
    · rw [hstay h]
      exact ⟨s.sited_path rest x, rfl, s.sited_only rest x⟩
    · obtain ⟨ha, halts⟩ | ⟨hno, flushes⟩ := hflush h
      · exact ⟨fun _ => halts, fun hno => absurd ha hno⟩
      · exact ⟨fun ha => absurd ha hno, fun _ => flushes⟩
  · obtain ⟨t, ht, L, hpath, hcfg, hstance⟩ :=
      jamcallTaken_starts (rest := rest) hx hnew hfront.configured hroom
    refine ⟨t, ht, L.epoch, L.sites, L.overflow, L.stances, L.own, L.counters, L.plan, L.phase,
      L.residual, L.binds, L.cycle, hpath, ?_⟩
    have hrow : (s.stop.own ≠ none ∨ f.origin = s.cfg.segment ∨ s.cfg.kind = some .feed ∨
        (s.stop.path ≠ .run ∧ s.stop.path ≠ .flush) ∨ HaltAhead s t.stop) →
        HaltsAnyhow s f.origin ∨ HaltAhead s t.stop := by
      simp only [HaltsAnyhow, or_assoc]; exact id
    cases hstance with
    | halts row halt path tx =>
      refine ⟨fun _ => path, fun _ => path, fun _ => halt, fun _ => tx,
        fun ho hs hk hp hno => absurd row (not_or.mpr ⟨HaltsAnyhow.absent ho hs hk hp, hno⟩),
        fun _ _ _ => path, fun ho hs hk hp he ha _ =>
          absurd row (not_or.mpr ⟨HaltsAnyhow.absent ho hs hk hp, ?_⟩)⟩
      exact HaltAhead.not_of_site L.sites L.stances (hx.segment ▸ he) (hx.segment ▸ ha)
    | drains row drained halt path tx =>
      exact ⟨fun _ => path, fun _ => path, fun _ => halt, fun h => absurd (hrow h) row,
        fun _ _ _ _ _ _ => tx, fun _ _ _ => path, fun _ _ _ _ _ _ ⟨e, hmem, hloc⟩ =>
          absurd ((s.drained_iff.mp drained).1 e hmem) hloc⟩
    | flushes row moving path tx =>
      rw [State.stanceNotice, L.epoch, hcfg] at tx
      exact ⟨fun h => absurd (.inl h) row, fun h => absurd (.inr h) row, fun h => absurd path h,
        fun h => absurd (hrow h) row, fun _ _ _ _ _ h => absurd path h,
        fun he ha ho => absurd (s.drained_iff.mpr ⟨he, ha, ho⟩) moving,
        fun _ _ _ _ _ _ _ => ⟨path, tx⟩⟩

end Sys2Proof.Machine
end

section
/-! SUPPORT and the proof of StopstateTaken: a stance recorded from a frame, what it leaves of the arrival
queue, and the tests that a node in FLUSH makes then. -/

namespace Sys2Proof.Machine

/-! ### The frame -/

theorem stanceOf_code {st : Stance} (h : st ≠ .unknown) : stanceOf st.code = some st := by
  cases st with
  | unknown => exact absurd rfl h
  | flushing => rfl
  | halting => rfl
  | halted => rfl

theorem stanceOf_eq_none {n : Nat} (h : n ∉ [1, 2, 3]) : stanceOf n = none := by
  unfold stanceOf
  split
  · exact absurd (by decide) h
  · exact absurd (by decide) h
  · exact absurd (by decide) h
  · rfl

theorem exec_stopstateTaken {s : State} {f : Frame} {rest : List Frame}
    (h : Front s .stopstate f rest) :
    exec .stopstateTaken s = done s ((s.took rest).stopstateFrom f) := by
  have ht : s.takeFrame .stopstate = some (f, s.took rest) := by
    rw [State.takeFrame, h.queue]
    dsimp only
    rw [if_pos (by simp [h.configured, h.kind])]
    rfl
  show execStopstateTaken s = _
  rw [execStopstateTaken, ht]

/-- The STOPSTATE frames that R64 discards. -/
theorem State.stopstateFrom_stale {s : State} {f : Frame}
    (h : byteAt f.payload 0 ∉ [1, 2, 3] ∨ f.origin = 0 ∨ f.epoch ≠ s.stop.epoch) :
    s.stopstateFrom f = s.countStale := by
  unfold State.stopstateFrom; split
  · rfl
  · next st hst =>
    refine if_pos (h.resolve_left fun hr => ?_)
    rw [stanceOf_eq_none hr] at hst
    cases hst

theorem State.stopstateFrom_stance {s : State} {f : Frame} {st : Stance} (hne : st ≠ .unknown)
    (hcode : st.code = byteAt f.payload 0) (ho : f.origin ≠ 0) (he : f.epoch = s.stop.epoch) :
    s.stopstateFrom f = s.stance f.origin st := by
  rw [State.stopstateFrom, ← hcode, stanceOf_code hne]
  exact if_neg fun h => h.elim ho fun h => h he

/-! ### The stance table -/

theorem StopUnit.setStance_keeps (u : StopUnit) (seg : Nat) (st : Stance) :
    u.setStance seg st = { u with stances := (u.setStance seg st).stances } := by
  unfold StopUnit.setStance; split <;> rfl

theorem StopUnit.setStance_path (u : StopUnit) (seg : Nat) (st : Stance) :
    (u.setStance seg st).path = u.path := by rw [u.setStance_keeps]

theorem StopUnit.stanceOfSegment_setStance_same (u : StopUnit) {seg : Nat} (st : Stance)
    (h0 : seg ≠ 0) (h15 : seg ≤ 15) : (u.setStance seg st).stanceOfSegment seg = st := by
  rw [StopUnit.setStance, if_neg h0, StopUnit.stanceOfSegment, if_neg h0,
    Vector.getElem?_setIfInBounds_self_of_lt (by omega)]
  rfl

theorem StopUnit.stanceOfSegment_setStance_other (u : StopUnit) {seg other : Nat} (st : Stance)
    (h : other ≠ seg) : (u.setStance seg st).stanceOfSegment other = u.stanceOfSegment other := by
  unfold StopUnit.setStance StopUnit.stanceOfSegment
  split
  · rfl
  · split
    · rfl
    · rw [Vector.getElem?_setIfInBounds_ne (by omega)]

theorem StopUnit.stanceOfSegment_congr {u v : StopUnit} (h : v.stances = u.stances) :
    v.stanceOfSegment = u.stanceOfSegment := by
  funext seg; simp only [StopUnit.stanceOfSegment, h]

/-! ### The stance table through the entry to HALTING -/

theorem State.joinSite_stances (s : State) (c : Cause) (place sheet : Nat) :
    (s.joinSite c place sheet).stop.stances = s.stop.stances := by
  rw [s.joinSite_stop, StopUnit.addSite_keeps]
  show (s.stop.setOwn c place sheet).stances = _
  rw [StopUnit.setOwn_keeps]

theorem State.announceStance_stances (s : State) (st : Stance) :
    (s.announceStance st).stop.stances = s.stop.stances := by
  unfold State.announceStance; split
  · rfl
  · dsimp only; split
    · exact State.joinSite_stances _ _ _ _
    · rfl

theorem State.enterHalted_stances (s : State) : s.enterHalted.stop.stances = s.stop.stances := by
  rw [State.enterHalted, State.openedAtHalt_stop]
  exact (State.announceStance_stances _ _).trans (by rw [(State.dropDelays_only _).stop, s.enter_stop])

theorem State.enterHalting_stances (s : State) : s.enterHalting.stop.stances = s.stop.stances := by
  have hrest : (s.enter .halting).restZones.stop.stances = s.stop.stances := by
    rw [(State.restZones_only _).stop, s.enter_stop]
  rw [State.enterHalting, State.haltTest]
  split
  · exact (State.enterHalted_stances _).trans hrest
  · exact (State.announceStance_stances _ _).trans hrest

/-! ### The arrival queue -/

/-- The arrival queue once a segment's stance is heard (R70). -/
def State.arrivalsHeard (s : State) (seg : Nat) (st : Stance) : List Arrival :=
  if s.stop.path.stopped = true ∧ (st = .halting ∨ st = .halted) then
    s.track.arrivals.map (Arrival.unresolve seg)
  else s.track.arrivals

theorem Stance.isHalting_iff (st : Stance) : st.isHalting = true ↔ st = .halting ∨ st = .halted := by
  cases st <;> decide

theorem State.unresolve_eq (s : State) (seg : Nat) (st : Stance) :
    s.unresolve seg st = s.withArrivals (s.arrivalsHeard seg st) := by
  simp only [State.unresolve, State.arrivalsHeard, Bool.and_eq_true, st.isHalting_iff]
  split <;> rfl

/-- A stance heard rewrites the unresolved flags alone. -/
theorem State.arrivalsHeard_map {α : Type} (s : State) (seg : Nat) (st : Stance) (g : Arrival → α)
    (hg : ∀ a, g (a.unresolve seg) = g a) :
    (s.arrivalsHeard seg st).map g = s.track.arrivals.map g := by
  unfold State.arrivalsHeard; split
  · rw [List.map_map]; exact List.map_congr_left fun a _ => hg a
  · rfl

theorem Arrival.unresolve_record (seg : Nat) (a : Arrival) : (a.unresolve seg).record = a.record := by
  unfold Arrival.unresolve; split <;> rfl

theorem Arrival.unresolve_sender (seg : Nat) (a : Arrival) : (a.unresolve seg).sender = a.sender := by
  unfold Arrival.unresolve; split <;> rfl

theorem State.arrivalsHeard_records (s : State) (seg : Nat) (st : Stance) (p : SheetRecord → Prop) :
    (∃ a ∈ s.arrivalsHeard seg st, p a.record) ↔ ∃ a ∈ s.track.arrivals, p a.record := by
  have h := s.arrivalsHeard_map seg st Arrival.record (Arrival.unresolve_record seg)
  have hex (l : List Arrival) : (∃ a ∈ l, p a.record) ↔ ∃ r ∈ l.map Arrival.record, p r := by simp
  rw [hex, hex, h]

theorem State.arrivalsHeard_senders (s : State) (seg : Nat) (st : Stance) (p : Nat → Bool) :
    (s.arrivalsHeard seg st).all (fun a => p a.sender) =
      s.track.arrivals.all fun a => p a.sender := by
  have h := s.arrivalsHeard_map seg st Arrival.sender (Arrival.unresolve_sender seg)
  have hall (l : List Arrival) : (l.all fun a => p a.sender) = (l.map Arrival.sender).all p :=
    List.all_map.symm
  rw [hall, hall, h]

/-! ### The stance recorded -/

/-- The state with the front frame taken and the stance of a segment recorded, before the tests of R69 and
R71. -/
def State.stanced (s : State) (rest : List Frame) (seg : Nat) (st : Stance) : State :=
  ((s.took rest).withStop (s.stop.setStance seg st)).withArrivals (s.arrivalsHeard seg st)

section
variable (s : State) (rest : List Frame) (seg : Nat) (st : Stance)

theorem State.stance_eq :
    (s.took rest).stance seg st = (s.stanced rest seg st).haltAheadTest.drainTest := by
  have h : ((s.took rest).withStop (s.stop.setStance seg st)).arrivalsHeard seg st =
      s.arrivalsHeard seg st := by
    simp only [State.arrivalsHeard, State.withStop_stop, StopUnit.setStance_path]
    rfl
  rw [State.stance, State.unresolve_eq]
  exact congrArg (fun a => (State.withArrivals _ a).haltAheadTest.drainTest) h

theorem State.stanced_path : (s.stanced rest seg st).stop.path = s.stop.path :=
  s.stop.setStance_path seg st

theorem State.stanced_only : changesOnly [.stop, .track, .line] s (s.stanced rest seg st) :=
  changesOnly.andThen (s.withLine_only { s.line with rx := rest }) <|
    changesOnly.andThen (n := [.stop, .track, .line]) (State.withStop_only _ _)
      (State.withArrivals_only _ _)

theorem State.stanced_zones : SameZones s (s.stanced rest seg st) :=
  ⟨rfl, rfl, by simp only [State.configured, s.stanced_path], rfl⟩

theorem State.stanced_laneOpen : (s.stanced rest seg st).laneOpen = s.laneOpen := by
  have hpace : (s.stanced rest seg st).paceHolds = s.paceHolds :=
    congrArg (_ && ·) (s.arrivalsHeard_senders seg st (· != 0))
  have hgrant : (s.stanced rest seg st).arbiterGrants = s.arbiterGrants :=
    s.arrivalsHeard_senders seg st (· == 0)
  unfold State.laneOpen
  rw [hpace, hgrant, State.allRunning, (s.stanced_zones rest seg st).inUse, s.stanced_path]
  rfl

/-- No notice watches a stance or an unresolved flag. -/
theorem State.stanced_condition : (s.stanced rest seg st).condition = s.condition := by
  have htray : (s.stanced rest seg st).trayWaits = s.trayWaits := by
    unfold State.trayWaits
    rw [s.stanced_laneOpen, State.stanced, StopUnit.setStance_keeps]
    rfl
  funext n
  cases n
  case trayWait => exact htray
  all_goals
    rw [State.stanced, StopUnit.setStance_keeps]
    rfl

/-- The halts ahead of an item, by the stances as they are recorded (R69). -/
theorem State.stanced_haltAhead :
    (s.stanced rest seg st).haltAhead = true ↔ HaltAhead s (s.stop.setStance seg st) :=
  (State.haltAhead_iff _).trans <| or_congr Iff.rfl <|
    s.arrivalsHeard_records seg st fun r => HaltsAt (s.stop.setStance seg st) (s.nextByLeg r)

/-- The node with the stance recorded has drained (R71). -/
theorem State.stanced_drained : (s.stanced rest seg st).drained = true ↔
    (∀ e ∈ s.track.table, e.loc = .held) ∧ (∀ a ∈ s.arrivalsHeard seg st, a.unresolved = true) ∧
      s.track.orphan = none := State.drained_iff _

end

/-! ### The tests of FLUSH -/

theorem State.enterHalting_left (s : State) : s.enterHalting.stop.path ≠ .flush := by
  obtain ⟨h, -⟩ | h | h := s.enterHalting_path <;> rw [h] <;> decide

/-- In FLUSH a halt ahead of an item, or the drained lane, turns the node to HALTING once (R69, R71). -/
theorem State.flushTests_eq (s : State) : s.haltAheadTest.drainTest =
    if s.stop.path = .flush ∧ (s.haltAhead = true ∨ s.drained = true) then s.enterHalting else s := by
  unfold State.haltAheadTest
  by_cases hahead : s.stop.path = .flush ∧ s.haltAhead = true
  · rw [if_pos hahead, if_pos ⟨hahead.1, .inl hahead.2⟩, State.drainTest,
      if_neg fun h => s.enterHalting_left h.1]
  · rw [if_neg hahead, State.drainTest]
    exact if_congr (and_congr_right fun hp => (or_iff_right fun h => hahead ⟨hp, h⟩).symm) rfl rfl

/-- A stance taken turns the node to rest: it is in FLUSH, and a halt lies ahead of an item or it has
drained. -/
def TurnsToRest (s : State) (seg : Nat) (st : Stance) : Prop :=
  s.stop.path = .flush ∧ (HaltAhead s (s.stop.setStance seg st) ∨
    ((∀ e ∈ s.track.table, e.loc = .held) ∧ (∀ a ∈ s.arrivalsHeard seg st, a.unresolved = true) ∧
      s.track.orphan = none))

theorem State.stance_turns {s : State} {seg : Nat} {st : Stance} (h : TurnsToRest s seg st)
    (rest : List Frame) :
    (s.took rest).stance seg st = (s.stanced rest seg st).enterHalting := by
  rw [s.stance_eq, State.flushTests_eq, if_pos]
  rwa [s.stanced_path, s.stanced_haltAhead, s.stanced_drained]

theorem State.stance_stays {s : State} {seg : Nat} {st : Stance} (h : ¬ TurnsToRest s seg st)
    (rest : List Frame) : (s.took rest).stance seg st = s.stanced rest seg st := by
  rw [s.stance_eq, State.flushTests_eq, if_neg]
  rwa [s.stanced_path, s.stanced_haltAhead, s.stanced_drained]

/-! ### The frame taken -/

/-- What every stance taken leaves (R64, R70), whether the node turns or not. -/
structure StanceHeard (s : State) (seg : Nat) (st : Stance) (t : State) : Prop where
  same : seg ≤ 15 → t.stop.stanceOfSegment seg = st
  others : ∀ other, other ≠ seg → t.stop.stanceOfSegment other = s.stop.stanceOfSegment other
  arrivals : t.track.arrivals = s.arrivalsHeard seg st
  table : t.track.table = s.track.table

theorem StanceHeard.of_stances {s t : State} {seg : Nat} {st : Stance} (h0 : seg ≠ 0)
    (hst : t.stop.stances = (s.stop.setStance seg st).stances)
    (ha : t.track.arrivals = s.arrivalsHeard seg st) (ht : t.track.table = s.track.table) :
    StanceHeard s seg st t := by
  have hof := StopUnit.stanceOfSegment_congr hst
  constructor
  · rw [hof]; exact s.stop.stanceOfSegment_setStance_same st h0
  · intro other hne; rw [hof]; exact s.stop.stanceOfSegment_setStance_other st hne
  · exact ha
  · exact ht

/-- The turn to rest that a stance brings (R69, R71, R73). -/
theorem stopstateTaken_turns {s : State} {seg : Nat} {st : Stance} (rest : List Frame) (h0 : seg ≠ 0)
    (h : TurnsToRest s seg st) :
    ∃ t, done s ((s.took rest).stance seg st) = .next t ∧ StanceHeard s seg st t ∧
      t.stop.path ∈ [PathState.halting, .halted, .clearing] ∧
      (s.line.tx.length < 16 → EntersHalting s t ∧ t.line.tx = s.line.tx ++ [t.restNotice]) := by
  rw [State.stance_turns h]
  have hkeeps := (s.stanced rest seg st).enterHalting_keeps
  have hst := (s.stanced rest seg st).enterHalting_stances
  have hpath := (s.stanced rest seg st).enterHalting_path
  have hopen (hroom : s.line.tx.length < 16) := State.enterHalting_open
    (s := s.stanced rest seg st) hroom
    (State.configured_of_ne (by rw [s.stanced_path, h.1]; decide))
  obtain ⟨n, hn⟩ := done_eq s (s.stanced rest seg st).enterHalting
  generalize (s.stanced rest seg st).enterHalting = w at *
  refine ⟨w.withNotices n, hn, .of_stances h0 hst hkeeps.arrivals hkeeps.table, ?_, fun hroom => ?_⟩
  · show w.stop.path ∈ _
    obtain ⟨h, -⟩ | h | h := hpath <;> rw [h] <;> decide
  · exact ⟨((hopen hroom).entersHalting (s.stanced_zones rest seg st)).of_same rfl rfl,
      (hopen hroom).tx⟩

/-- Where the node does not turn, the stance and the unresolved flags are all that is recorded. -/
theorem stopstateTaken_stays {s : State} {seg : Nat} {st : Stance} (rest : List Frame)
    (h : ¬ TurnsToRest s seg st) :
    done s ((s.took rest).stance seg st) = .next (s.stanced rest seg st) := by
  rw [State.stance_stays h]
  exact congrArg Host.Outcome.next (latchNew_same (s.stanced_condition rest seg st))

/-- Settles O47: a stale frame by `State.stopstateFrom_stale`, and a stance by whether the tests of FLUSH
turn the node to rest. -/
theorem stopstateTaken : Obligations.StopstateTaken := by
  unfold Obligations.StopstateTaken
  intro s f rest hfront
  rw [exec_stopstateTaken hfront]
  refine ⟨fun hstale => ?_, fun st hne hcode ho he => ?_⟩
  · rw [State.stopstateFrom_stale (s := s.took rest) hstale]
    exact done_stale s rest
  rw [State.stopstateFrom_stance (s := s.took rest) hne hcode ho he]
  by_cases hturn : TurnsToRest s f.origin st
  · obtain ⟨t, ht, H, hpath, hrest⟩ := stopstateTaken_turns rest ho hturn
    have hleft : t.stop.path ≠ .flush := fun h => by rw [h] at hpath; revert hpath; decide
    refine ⟨t, ht, H.same, H.others, H.arrivals, H.table, fun h => absurd hturn.1 h,
      fun _ => ⟨List.mem_cons_of_mem _ hpath, fun _ => hrest, ?_⟩⟩
    rintro u rfl
    refine ⟨fun _ => hleft, fun _ _ _ => hleft, fun hno hmoving => ?_⟩
    obtain ⟨htable, harrivals, horphan⟩ := hturn.2.resolve_left hno
    rw [H.arrivals] at hmoving
    obtain ⟨e, hmem, hloc⟩ | ⟨a, hmem, hun⟩ | hsome := hmoving
    · exact absurd (htable e hmem) hloc
    · rw [harrivals a hmem] at hun; cases hun
    · exact absurd horphan hsome
  · have hpath := s.stanced_path rest f.origin st
    have H : StanceHeard s f.origin st (s.stanced rest f.origin st) := .of_stances ho rfl rfl rfl
    refine ⟨s.stanced rest f.origin st, stopstateTaken_stays rest hturn, H.same, H.others, H.arrivals,
      H.table, fun _ => ⟨rfl, rfl, s.stanced_only rest f.origin st⟩, fun hflush => ?_⟩
    have hstill := hpath.trans hflush
    refine ⟨by rw [hstill]; decide, fun h => absurd hstill h, ?_⟩
    rintro u rfl
    exact ⟨fun ha => absurd ⟨hflush, .inl ha⟩ hturn,
      fun htable harrivals horphan => absurd ⟨hflush, .inr ⟨htable, harrivals, horphan⟩⟩ hturn,
      fun _ _ => ⟨rfl, rfl⟩⟩

end Sys2Proof.Machine
end

section
/-! SUPPORT and the proof of GateServesTheFrontClaim. -/

namespace Sys2Proof.Machine

/-- The service of a front claim that waits (R91; log 33): it and what it moves, or nothing. -/
theorem State.gateService_waiting {s : State} {c : Claim} {rest : List Claim}
    (hc : s.gate.claims = c :: rest) (hw : c.set = false) :
    (c.pos = s.gate.pos ∨ GateMay s s →
      s.gateService = s.withGate { pos := c.pos, claims := setFront (c :: rest) }) ∧
    (¬ (c.pos = s.gate.pos ∨ GateMay s s) → s.gateService = s) := by
  have hfree : s.gateFree = true ↔ GateMay s s := State.gateFree_iff rfl rfl rfl
  unfold State.gateService
  rw [hc, ← hfree]
  dsimp only
  rw [if_neg (by rw [hw]; decide)]
  exact ⟨fun h => if_pos h, fun h => if_neg h⟩

/-- The claims that a service of the front leaves, in the words of the statement (R91). -/
theorem setFront_cons (c : Claim) (rest : List Claim) : setFront (c :: rest) =
    { c with set := true } :: rest.map fun d => if d.pos = c.pos then { d with set := true } else d := by
  simp only [setFront, beq_iff_eq]

/-- The first entry of a sheet is the sheet's entry. -/
theorem State.entryOf_first {s : State} {e : Entry} {front back : List Entry}
    (h : FirstIn (fun f : Entry => f.record.sheet = e.record.sheet) s.track.table front e back) :
    s.entryOf e.record.sheet = some e :=
  h.find? fun _ => beq_iff_eq

/-- Settles O37: the service by `State.gateService_waiting`, and a claim made or passed over by the cases of
`State.makeClaim`. -/
theorem gateServesTheFrontClaim : Obligations.GateServesTheFrontClaim := by
  unfold Obligations.GateServesTheFrontClaim
  refine fun s => ⟨?_, fun c rest hc hw => ?_, s.leaveClaim_sheets, fun front e back r hf hr htrail => ?_,
    fun front e back r hf hr htrail => ?_⟩
  · show (s.hasGate && s.gate.pos == .b) = true ↔ _
    rw [Bool.and_eq_true, beq_iff_eq]
  · obtain ⟨hserved, hwaits⟩ := State.gateService_waiting hc hw
    rw [setFront_cons] at hserved
    exact ⟨hserved, hwaits⟩
  · have he := State.entryOf_first hf
    refine ⟨fun hfew => ⟨?_, ?_⟩, fun hfull hclear => ?_⟩
    · have hst : (s.makeClaim e.record.sheet).stations = s.stations := (s.makeClaim_only _).stations
      exact ClaimMade.of_makeClaim rfl rfl rfl hst he hr htrail hfew rfl
    · rw [State.makeClaim_joins he hr htrail hfew, State.gateService_track]
      refine ⟨_, List.mem_map.mpr ⟨e, ?_, if_pos (beq_self_eq_true _)⟩, rfl⟩
      rw [State.withGate_track, hf.split]
      simp
    · rw [State.makeClaim_full he hr htrail hfull]
      exact State.raise_begins _ _ (by rw [hclear.path]; rfl) (.inl hclear.path) hclear.own hclear.room
  · have he := State.entryOf_first hf
    have hst : (s.makeClaim e.record.sheet).stations = s.stations := (s.makeClaim_only _).stations
    refine ⟨ClaimPassed.of_makeClaim rfl rfl rfl hst he hr htrail rfl, ?_⟩
    rw [State.makeClaim_passed he hr htrail]
    split
    · exact s.withGate_only _
    · exact .refl _ _

end Sys2Proof.Machine
end

section
/-! SUPPORT and the proof of PulsesStartAndEnd. -/

namespace Sys2Proof.Machine

/-! ### A command whose notices stand -/

/-- A command that changes nothing latches nothing. -/
theorem done_unchanged (s : State) : done s s = .next s := congrArg Host.Outcome.next (latchNew_same rfl)

/-- No notice watches a pulse output (R191). -/
theorem done_setPulse (s : State) (p : PulseId) (x : Pulse) :
    done s (s.setPulse p x) = .next (s.setPulse p x) :=
  congrArg Host.Outcome.next (latchNew_same (by funext n; cases n <;> rfl))

theorem State.outputs_po (s : State) (p : PulseId) :
    s.outputs.po.get p.ix = (s.pulse p).active.isSome := by cases p <;> rfl

/-! ### A pulse start -/

/-- An output as the start of a pulse leaves it (R96). -/
def PulseDelay.started (d : PulseDelay) : Pulse := ⟨none, some ⟨0, d.width, d.sheet⟩⟩

section
variable {s : State} {p : PulseId} {d : PulseDelay}

theorem State.startPulse_quiet (h : s.cfg.kind ≠ some .image ∨ (s.pulseCfg p).qualifier ≠ .release) :
    s.startPulse p d = s.setPulse p d.started := by
  refine if_neg fun hn => ?_
  simp only [Bool.and_eq_true, State.isKind, beq_iff_eq] at hn
  exact h.elim (fun h => h hn.1) fun h => h hn.2

theorem State.startPulse_release (hk : s.cfg.kind = some .image)
    (hq : (s.pulseCfg p).qualifier = .release) :
    s.startPulse p d = (s.setPulse p d.started).releaseSheet d.sheet :=
  if_pos (by simp [State.isKind, hk, hq])

theorem State.startPulse_pulse (s : State) (p : PulseId) (d : PulseDelay) :
    (s.startPulse p d).pulse p = d.started := by
  obtain ⟨ha, hd⟩ := (s.startPulse_fades p d).pulse p
  rw [State.pulse_setPulse] at ha hd
  calc (s.startPulse p d).pulse p
      = ⟨((s.startPulse p d).pulse p).delay, ((s.startPulse p d).pulse p).active⟩ := rfl
    _ = d.started := by rw [hd rfl, ha]; rfl

theorem State.startPulse_others (s : State) {p q : PulseId} (d : PulseDelay) (h : q ≠ p) :
    ((s.startPulse p d).pulse q).active = (s.pulse q).active := by
  rw [((s.startPulse_fades p d).pulse q).1, State.pulse_setPulse_ne _ _ h]

/-- The RELEASE output of an IMAGE node releases the sheet's entry, and no other (R99, R20). -/
theorem State.startPulse_table (hk : s.cfg.kind = some .image)
    (hq : (s.pulseCfg p).qualifier = .release) (hu : sheetsUnique s) {front back : List Entry} {e : Entry}
    (hf : FirstIn (fun e : Entry => e.record.sheet = d.sheet) s.track.table front e back) :
    (s.startPulse p d).track.table = front ++ s.releasedEntry e :: back := by
  have hfresh := (Tracks.of_unique hu hf.split).fresh
  have htracks : Tracks s.dropDelays front back (s.setPulse p d.started) e := .start hf.split hfresh
  obtain ⟨ahead, behind, ht, ha, hb⟩ := (htracks.releaseSheet hk).split
  have hnone (x : Nat) : ¬ s.dropDelays.releaseReady x := fun ⟨_, q, d', _, _, hd, _⟩ => by
    cases q <;> exact nomatch hd
  have hentry : (s.setPulse p d.started).releasedEntry = s.releasedEntry := State.releasedEntry_congr rfl
  rw [State.startPulse_release hk hq, ← hf.meets, ht, ha.eq_of_not hnone, hb.eq_of_not hnone, hentry]

end

/-- What a release leaves of a record (R20, R99). -/
theorem State.releasedEntry_record (s : State) (e : Entry) :
    (s.releasedEntry e).record.released = true ∧
    (s.cfg.imageStation.num ≤ e.lead → e.record.currentState = some .blank →
      (s.releasedEntry e).record.currentState = some .unfixed) ∧
    (e.lead < s.cfg.imageStation.num ∨ e.record.currentState ≠ some .blank →
      (s.releasedEntry e).record = { e.record with released := true }) := by
  by_cases h : s.cfg.imageStation.num ≤ e.lead ∧ e.record.currentState = some .blank
  · have hr : (s.releasedEntry e).record = e.record.toned.release := if_pos h
    rw [hr]
    refine ⟨rfl, fun _ _ => e.record.toned_current, fun hn => ?_⟩
    obtain hn | hn := hn
    · omega
    · exact absurd h.2 hn
  · have hr : (s.releasedEntry e).record = e.record.release := if_neg h
    rw [hr]
    exact ⟨rfl, fun h1 h2 => absurd ⟨h1, h2⟩ h, fun _ => rfl⟩

/-! ### The two commands -/

/-- A delay that is pending and not complete, or none, waits (R96). -/
theorem State.completeDelay_pending {s : State} {p : PulseId}
    (h : ∀ d ∈ (s.pulse p).delay, d.tracker < d.target) : s.completeDelay p = s :=
  State.completeDelay_waits fun d hd hn => absurd hn.1 (Nat.not_le.mpr (h d hd))

theorem State.endWidth_active {s : State} {p : PulseId} {w : PulseWidth}
    (h : (s.pulse p).active = some w) :
    s.endWidth p = (s.setPulse p ⟨(s.pulse p).delay, none⟩).completeDelay p := by
  rw [State.endWidth, h]

/-- Settles O38: a complete delay starts by `State.startPulse_pulse`, with its release by
`State.startPulse_table`; a width's end is a delay's completion on the output let go. -/
theorem pulsesStartAndEnd : Obligations.PulsesStartAndEnd := by
  unfold Obligations.PulsesStartAndEnd
  refine fun p s => ⟨fun d hd ha hle => ?_, fun h => ?_, fun w hw => ⟨fun h => ?_, fun d hd hle => ?_⟩⟩
  · have hexec : exec (.pulseDelayComplete p) s = done s (s.startPulse p d) := by
      rw [← State.completeDelay_starts hd hle ha]; rfl
    obtain ⟨n, hn⟩ := latchNew_eq s (s.startPulse p d)
    have hpulse : (latchNew s (s.startPulse p d)).pulse p = d.started := by
      rw [hn]; exact s.startPulse_pulse p d
    refine ⟨_, hexec, hpulse, by rw [State.outputs_po, hpulse]; rfl,
      fun q hq => by rw [hn]; exact s.startPulse_others d hq, fun hquiet => ?_,
      fun hk hq hu front e back hf => ?_⟩
    · rw [State.startPulse_quiet hquiet, Host.Outcome.next.inj (done_setPulse s p d.started)]
      exact s.setPulse_only _ _
    · rw [hn]
      exact ⟨_, State.startPulse_table hk hq hu hf, s.releasedEntry_record e⟩
  · have hstays : s.completeDelay p = s := by
      obtain h | h | h := h
      · exact State.completeDelay_waits fun d hd => by rw [h] at hd; cases hd
      · exact State.completeDelay_waits fun d _ hn => h hn.2
      · exact State.completeDelay_pending h
    show done s (s.completeDelay p) = _
    rw [hstays, done_unchanged]
  · have hend : s.endWidth p = s.setPulse p ⟨(s.pulse p).delay, none⟩ := by
      rw [State.endWidth_active hw, State.completeDelay_pending]
      rw [State.pulse_setPulse]; exact h
    have hpulse := s.pulse_setPulse p ⟨(s.pulse p).delay, none⟩
    refine ⟨_, (congrArg (done s) hend).trans (done_setPulse s p _), hpulse, ?_, s.setPulse_only _ _⟩
    rw [State.outputs_po, hpulse]; rfl
  · have hend : s.endWidth p = (s.setPulse p ⟨(s.pulse p).delay, none⟩).startPulse p d := by
      rw [State.endWidth_active hw, State.completeDelay_starts _ hle]
      · rw [State.pulse_setPulse]
      · rw [State.pulse_setPulse]; exact hd
    obtain ⟨n, hn⟩ := done_eq s (s.endWidth p)
    have hpulse : ((s.endWidth p).withNotices n).pulse p = d.started := by
      rw [hend]; exact State.startPulse_pulse _ p d
    exact ⟨_, hn, hpulse, by rw [State.outputs_po, hpulse]; rfl⟩

end Sys2Proof.Machine
end

section
/-! SUPPORT and the proofs of ZoneStepsThroughTheProfile and DriveChainFollowsTheDriver. -/

namespace Sys2Proof.Machine

/-! ### What a change of a zone brings -/

theorem State.zonesChanged_zones (s : State) : s.zonesChanged.zones = s.zones := by
  unfold State.zonesChanged; split
  · exact s.enterHalted_zones
  · exact s.releaseChain_only.zones

/-- While a zone in use moves, nothing follows from a change of the zones (R74, R82). -/
theorem State.zonesChanged_moving {s : State} {z : ZoneId} (hu : s.inUse z = true)
    (hm : (s.zone z).atRest = false) : s.zonesChanged = s := by
  have hrest : s.allRest = false := by
    rw [← Bool.not_eq_true, s.allRest_iff]
    intro h
    rw [h z hu] at hm
    cases hm
  rw [State.zonesChanged, if_neg (by simp [hrest]), State.releaseChain,
    if_neg (by simp [State.releaseHolds, hrest])]

/-- The last zone that comes to rest in HALTING brings the node to HALTED (R74, R97). -/
theorem State.zonesChanged_halts {s : State} (hp : s.stop.path = .halting)
    (hr : ∀ z, s.inUse z = true → (s.zone z).atRest = true) : s.zonesChanged = s.enterHalted :=
  if_pos ⟨hp, s.allRest_iff.mpr hr⟩

/-- Entry to HALTED ends the pending delays (R97). -/
theorem State.enterHalted_delay (s : State) (p : PulseId) : (s.enterHalted.pulse p).delay = none := by
  have hp : s.enterHalted.pulses = (s.enter .halted).dropDelays.pulses :=
    (State.openedAtHalt_only _).pulses.trans (State.announceStance_only _ _).pulses
  simp only [State.pulse, hp]
  cases p <;> rfl

/-- The feed unit's rise requests leave a zone that is not at rest and has no rise pending. -/
theorem State.feedTest_moving {s : State} {z : ZoneId} (hm : (s.zone z).atRest = false)
    (hp : (s.zone z).risePending = false) : s.feedTest.zone z = s.zone z := by
  have hwant : ∀ (u : State) (y : ZoneId), u.zone z = s.zone z → (u.wantZone y).zone z = s.zone z := by
    intro u y hz
    unfold State.wantZone
    split
    · next hc =>
      have hne : y ≠ z := by
        rintro rfl
        rw [hz, hm] at hc
        cases hc
      exact (State.riseZone_other hne (.inl (by rw [hz]; exact hp))).trans hz
    · exact hz
  unfold State.feedTest; split
  · exact hwant _ _ (hwant _ _ (hwant _ _ rfl))
  · rfl

/-! ### A profile step -/

/-- A profile step of a zone that does not end in RUNNING, and one that does (R85, R86). -/
theorem exec_zoneStep {z : ZoneId} {s : State} {x : Zone} (hu : s.inUse z = true)
    (h : (s.zone z).state = .rising ∨ (s.zone z).state = .falling) (hx : s.stepZone z (s.zone z) = x) :
    (x.state ≠ .running → exec (.zoneStep z) s = done s (s.setZone z x).zonesChanged) ∧
    (x.state = .running → exec (.zoneStep z) s = done s (s.setZone z x).zonesChanged.feedTest) := by
  have hexec : exec (.zoneStep z) s = done s (if x.state = .running
      then (s.setZone z x).zonesChanged.feedTest else (s.setZone z x).zonesChanged) := by
    subst hx
    exact if_pos (by simp [State.stepRuns, hu, h])
  exact ⟨fun hn => by rw [hexec, if_neg hn], fun hr => by rw [hexec, if_pos hr]⟩

section
variable {s : State} {z : ZoneId}

theorem State.stepZone_rising (h : (s.zone z).state = .rising) : s.stepZone z (s.zone z) =
    { s.zone z with
      state := if (s.zoneCfg z).riseEnd ≤ (s.zone z).position + 1 then .running else .rising
      position := (s.zone z).position + 1
      output := s.profileAt ((s.zone z).position + 1), stepTimer := 0 } := by
  simp only [State.stepZone, h]

theorem State.stepZone_falling (h : (s.zone z).state = .falling)
    (hp : (s.zone z).position < (s.zoneCfg z).fallEnd) : s.stepZone z (s.zone z) =
    { s.zone z with
      position := (s.zone z).position + 1
      output := min (s.profileAt ((s.zone z).position + 1)) (s.zone z).output, stepTimer := 0 } := by
  simp only [State.stepZone, h, if_pos hp]

theorem State.stepZone_ends (h : (s.zone z).state = .falling)
    (hp : (s.zoneCfg z).fallEnd ≤ (s.zone z).position) : s.stepZone z (s.zone z) =
    { s.zone z with state := .idle, output := 0, stepTimer := 0 } := by
  simp only [State.stepZone, h, if_neg (Nat.not_lt.mpr hp)]

/-- A zone in use that is RUNNING neither before nor after its change moves no notice's condition (R136, R141,
R191). -/
theorem State.condition_setZone {x : Zone} (hu : s.inUse z = true) (hs : (s.zone z).state ≠ .running)
    (hx : x.state ≠ .running) : (s.setZone z x).condition = s.condition := by
  have hnot : ∀ t : State, t.inUse z = true → (t.zone z).state ≠ .running → t.allRunning = false := by
    intro t ht hn
    refine List.all_eq_false.mpr ⟨z, by cases z <;> decide, ?_⟩
    simp [ht, hn]
  have hlane : (s.setZone z x).laneOpen = s.laneOpen := by
    simp only [State.laneOpen, hnot s hu hs,
      hnot (s.setZone z x) hu (by rw [State.zone_setZone]; exact hx), Bool.and_false, Bool.false_and]
  funext n
  cases n with
  | trayWait =>
    show (s.setZone z x).trayWaits = s.trayWaits
    unfold State.trayWaits
    rw [hlane]
    rfl
  | _ => rfl

end

/-- A step of a zone that moves on: nothing but the feed unit's requests can follow. -/
theorem exec_zoneStep_moves {z : ZoneId} {s : State} {x : Zone} (hu : s.inUse z = true)
    (h : (s.zone z).state = .rising ∨ (s.zone z).state = .falling) (hx : s.stepZone z (s.zone z) = x)
    (hm : x.atRest = false) :
    (x.state ≠ .running → exec (.zoneStep z) s = done s (s.setZone z x)) ∧
    (x.state = .running → exec (.zoneStep z) s = done s (s.setZone z x).feedTest) := by
  have hquiet : (s.setZone z x).zonesChanged = s.setZone z x :=
    State.zonesChanged_moving hu (by rw [s.zone_setZone]; exact hm)
  have he := exec_zoneStep hu h hx
  rwa [hquiet] at he

/-- The step that ends a fall (R86, R74). -/
theorem exec_zoneStep_ends {z : ZoneId} {s : State} {x : Zone} (hu : s.inUse z = true)
    (h : (s.zone z).state = .falling) (hx : s.stepZone z (s.zone z) = x) (hi : x.state = .idle) :
    ∃ t, exec (.zoneStep z) s = .next t ∧ t.zone z = x ∧ (∀ y, y ≠ z → t.zone y = s.zone y) ∧
      (s.stop.path = .halting → s.line.tx.length < 16 →
        (∀ y, y ≠ z → s.inUse y = true → (s.zone y).atRest = true) →
        t.stop.path = (if s.groupOpen = true then .clearing else .halted) ∧
        t.line.tx = s.line.tx ++ [s.stanceNotice .halted] ∧ ∀ p, (t.pulse p).delay = none) := by
  obtain ⟨n, hn⟩ := done_eq s (s.setZone z x).zonesChanged
  have hzones : ∀ y, (s.setZone z x).zonesChanged.zone y = (s.setZone z x).zone y := fun y => by
    simp only [State.zone, State.zonesChanged_zones]
  refine ⟨_, ((exec_zoneStep hu (.inr h) hx).1 (by rw [hi]; decide)).trans hn,
    (hzones z).trans (s.zone_setZone z x), fun y hy => (hzones y).trans (s.zone_setZone_ne x hy),
    fun hhalt hroom hothers => ?_⟩
  have hall : ∀ y, s.inUse y = true → ((s.setZone z x).zone y).atRest = true := by
    intro y hy
    by_cases hyz : y = z
    · rw [hyz, s.zone_setZone]; simp [Zone.atRest, hi]
    · rw [s.zone_setZone_ne x hyz]; exact hothers y hyz hy
  have hconf : (s.setZone z x).configured = true :=
    State.configured_of_ne (by show s.stop.path ≠ _; rw [hhalt]; decide)
  obtain ⟨hstop, htx⟩ := State.enterHalted_open (s := s.setZone z x) hroom hconf
  have hgroup : (s.setZone z x).groupOpen = s.groupOpen := State.groupOpen_congr rfl rfl rfl
  have hdelay := (s.setZone z x).enterHalted_delay
  rw [State.zonesChanged_halts (s := s.setZone z x) hhalt hall]
  generalize (s.setZone z x).enterHalted = t at *
  refine ⟨?_, htx, hdelay⟩
  rw [State.withNotices_stop, hstop, hgroup]

/-- Settles O42, by the cases of `State.stepZone`: a zone that still moves holds up all that the change of a
zone could bring, and the fall's last step lets it come. -/
theorem zoneStepsThroughTheProfile : Obligations.ZoneStepsThroughTheProfile := by
  unfold Obligations.ZoneStepsThroughTheProfile
  refine fun z s hu => ⟨fun h hpend => ?_, fun h hpos => ?_, fun h hpos => ?_, fun h => ?_⟩
  · have hx := State.stepZone_rising h
    have hmoves : (s.stepZone z (s.zone z)).atRest = false := by
      rw [hx]; dsimp only [Zone.atRest]; split <;> rfl
    obtain ⟨hrises, hruns⟩ := exec_zoneStep_moves hu (.inl h) rfl hmoves
    rw [← hx]
    have hzone := s.zone_setZone z (s.stepZone z (s.zone z))
    by_cases hr : (s.stepZone z (s.zone z)).state = .running
    · obtain ⟨n, hn⟩ := done_eq s (s.setZone z (s.stepZone z (s.zone z))).feedTest
      refine ⟨_, (hruns hr).trans hn, (State.feedTest_moving ?_ ?_).trans hzone⟩ <;> rw [hzone]
      · exact hmoves
      · rw [hx]; exact hpend
    · obtain ⟨n, hn⟩ := done_eq s (s.setZone z (s.stepZone z (s.zone z)))
      exact ⟨_, (hrises hr).trans hn, hzone⟩
  · have hx := State.stepZone_falling h hpos
    have hne : (s.stepZone z (s.zone z)).state ≠ .running := by rw [hx]; simp [h]
    rw [← hx]
    refine ⟨_, ((exec_zoneStep_moves hu (.inr h) rfl ?_).1 hne).trans (congrArg Host.Outcome.next
      (latchNew_same (State.condition_setZone hu (by rw [h]; decide) hne))), s.zone_setZone z _,
      s.setZone_only _ _⟩
    rw [hx]; simp [Zone.atRest, h]
  · exact exec_zoneStep_ends hu h (State.stepZone_ends h hpos) rfl
  · refine if_neg ?_
    simp only [List.mem_cons, List.not_mem_nil, or_false, not_or] at h
    simp [State.stepRuns, h]

/-! ### DRDY -/

theorem State.beginRises_zone (s : State) (z : ZoneId) :
    s.beginRises.zone z = if (s.zone z).risePending = true then s.begun z else s.zone z :=
  s.mapZones_zone _ z

theorem State.begun_moves (s : State) (z : ZoneId) : (s.begun z).atRest = false := by
  dsimp only [Zone.atRest, State.begun]; split <;> rfl

/-- With the chain ON the feed unit's rise requests leave it ON. -/
theorem State.feedTest_on {s : State} (h : s.chain.state = .on) : s.feedTest.chain.state = .on := by
  have hwant : ∀ (u : State) (y : ZoneId), u.chain.state = .on → (u.wantZone y).chain.state = .on := by
    intro u y hu
    unfold State.wantZone; split
    · exact (State.riseZone_supplied (.inl hu)).2 hu
    · exact hu
  unfold State.feedTest; split
  · exact hwant _ _ (hwant _ _ (hwant _ _ h))
  · exact h

theorem State.feedTest_elsewhere {s : State} (h : s.cfg.kind ≠ some .feed) : s.feedTest = s :=
  if_neg (by simp [State.isKind, h])

/-- No notice watches DRDY or the drive chain (R191). -/
theorem State.condition_chain (s : State) (high : Bool) (c : Chain) :
    ((s.setDrdy high).withChain c).condition = s.condition := by
  funext n; cases n <;> rfl

/-- The node as DRDY in WAIT turns its chain ON (R80). -/
def State.readied (s : State) : State :=
  ((s.setDrdy true).withChain { state := .on, readyTimer := s.chain.readyTimer }).beginRises

theorem exec_drdyPresent {s : State} (h : s.chain.state = .wait) :
    exec .drdyPresent s = done s s.readied.feedTest := if_pos h

theorem State.readied_zone (s : State) (z : ZoneId) :
    s.readied.zone z = if (s.zone z).risePending = true then s.begun z else s.zone z :=
  State.beginRises_zone _ z

/-- Settles O41: in WAIT the rises begin, and neither they nor the chain are moved by the feed unit's
requests behind them. -/
theorem driveChainFollowsTheDriver : Obligations.DriveChainFollowsTheDriver := by
  unfold Obligations.DriveChainFollowsTheDriver
  refine fun s => ⟨bne_iff_ne, fun z => ⟨?_, ?_⟩, fun h => ?_, fun h => if_neg h, fun h hrest => ?_,
    fun h => if_neg h⟩
  · cases z <;> rfl
  · cases z <;> exact beq_iff_eq
  · obtain ⟨t, ht, honly⟩ := exec_within .drdyPresent s
    obtain ⟨n, hn⟩ := done_eq s s.readied.feedTest
    have hexec := (exec_drdyPresent h).trans hn
    obtain rfl := Host.Outcome.next.inj (ht.symm.trans hexec)
    refine ⟨_, ht, s.readied.feedTest_only .pins (by decide), State.feedTest_on rfl, fun z hz => ?_,
      fun hk z hz => ?_, honly⟩
    · have hbegun : s.readied.zone z = s.begun z := by rw [s.readied_zone, if_pos hz]
      show s.readied.feedTest.zone z = _
      rw [State.feedTest_moving] <;> rw [hbegun]
      · exact s.begun_moves z
      · rfl
    · show s.readied.feedTest.zone z = _
      rw [State.feedTest_elsewhere (s := s.readied) hk, s.readied_zone, if_neg (by simp [hz])]
  · have hexec : exec .drdyLost s =
        done s ((s.setDrdy false).withChain { state := .wait, readyTimer := 0 }) := by
      show execDrdyLost s = _
      rw [execDrdyLost, if_pos h, if_neg (by simp [State.anyMoving, hrest])]
    refine ⟨_, hexec.trans (congrArg Host.Outcome.next (latchNew_same (s.condition_chain _ _))), rfl, rfl,
      ?_⟩
    exact (s.withPins_only _).andThen (State.withChain_only _ _)

end Sys2Proof.Machine
end

section
/-! SUPPORT and the proof of EmptyQueueTakesADueStepOrATick. -/

namespace Sys2Proof.Machine

/-! ### When each timer runs -/

theorem State.stillRuns_iff (s : State) (k : StationId) : s.stillRuns k = true ↔
    s.configured = true ∧ s.present k = true ∧ s.rawCovered k ≠ (s.station k).covered ∧
      (s.stationCfg k).filter ≠ 0 := by
  simp only [State.stillRuns, State.active, Bool.and_eq_true, bne_iff_ne, and_assoc]

theorem State.stepRuns_iff (s : State) (z : ZoneId) : s.stepRuns z = true ↔
    s.inUse z = true ∧ (s.zone z).state ∈ [ZoneState.rising, .falling] := by
  simp [State.stepRuns]

theorem State.silenceRuns_iff (s : State) (z : ZoneId) : s.silenceRuns z = true ↔
    s.inUse z = true ∧ (s.zone z).state ∈ [ZoneState.rising, .running] ∧
      (s.zone z).silenceStopped = false := by
  simp [State.silenceRuns, and_assoc]

theorem State.readyRuns_iff (s : State) : s.readyRuns = true ↔
    s.chain.state = .wait ∧ ∃ z, (s.zone z).risePending = true := by
  have hp : s.anyRisePending = true ↔ ∃ z, (s.zone z).risePending = true := by
    rw [← Bool.not_eq_false, State.anyRisePending_eq_false]
    simp
  rw [State.readyRuns, Bool.and_eq_true, beq_iff_eq, hp]

theorem State.restRuns_iff (s : State) : s.restRuns = true ↔
    s.cfg.kind = some .feed ∧ s.stop.path = .run ∧ s.feed.issued = [] ∧ s.feed.pages = [] ∧
      s.feed.resume = [] ∧ s.feed.restQueued = false := by
  simp [State.restRuns, State.resting, State.isKind, FeedUnit.allEmpty, and_assoc]

/-! ### One ms of each timer -/

theorem State.tickStation_eq (s : State) (k : StationId) : s.tickStation k = { s.station k with
    stillTimer := if s.configured = true ∧ s.present k = true ∧
        s.rawCovered k ≠ (s.station k).covered ∧ (s.stationCfg k).filter ≠ 0
      then min 16 ((s.station k).stillTimer + 1) else (s.station k).stillTimer } := by
  simp only [State.tickStation, s.stillRuns_iff k, tickTo, stillMs]
  split <;> rfl

theorem State.tickZone_eq (s : State) (z : ZoneId) : s.tickZone z (s.zone z) = { s.zone z with
    stepTimer := if s.inUse z = true ∧ (s.zone z).state ∈ [ZoneState.rising, .falling]
      then min 16 ((s.zone z).stepTimer + 1) else (s.zone z).stepTimer
    silenceTimer := if s.inUse z = true ∧ (s.zone z).state ∈ [ZoneState.rising, .running] ∧
        (s.zone z).silenceStopped = false
      then min 256 ((s.zone z).silenceTimer + 1) else (s.zone z).silenceTimer } := by
  simp only [State.tickZone, s.stepRuns_iff z, s.silenceRuns_iff z, tickTo]

theorem State.tickFeed_eq (s : State) : s.tickFeed = { s.feed with
    restTimer := if s.cfg.kind = some .feed ∧ s.stop.path = .run ∧ s.feed.issued = [] ∧
        s.feed.pages = [] ∧ s.feed.resume = [] ∧ s.feed.restQueued = false
      then min s.cfg.restDelay (s.feed.restTimer + 1) else s.feed.restTimer } := by
  simp only [State.tickFeed, s.restRuns_iff, tickTo]
  split <;> rfl

theorem DeliveryUnit.tick_eq (d : DeliveryUnit) : d.tick = { d with
    opTimer := if d.op = .noOp then d.opTimer else min 3000 (d.opTimer + 1) } := by
  unfold DeliveryUnit.tick; split <;> rfl

/-- 1 ms with RESETn high. -/
theorem State.tick_runs {s : State} (hr : s.pins.resetn = true) : s.tick = { s with
    stations := ⟨s.tickStation .s1, s.tickStation .s2, s.tickStation .s3, s.tickStation .s4⟩
    zones := ⟨s.tickZone .z1 s.zones.a, s.tickZone .z2 s.zones.b, s.tickZone .z3 s.zones.c⟩
    chain := s.tickChain, pulses := s.pulses.map Pulse.tick
    tags := { s.tags with inputs := s.tags.inputs.map Input.tick }
    supply := { s.supply with hold := s.supply.hold.map (tickTo supplyHoldMs) }
    deliv := s.deliv.tick, feed := s.tickFeed } := by
  rw [State.tick, if_neg (by simp [hr])]
  simp only [State.withStations, State.withZones, State.withChain, State.withPulses, State.withTags,
    State.withSupply, State.withDeliv, State.withFeed]

/-- The parts that hold a timer. -/
def timerParts : List Part := [.stations, .zones, .chain, .pulses, .tags, .supply, .deliv, .feed]

theorem State.tick_only (s : State) : changesOnly timerParts s s.tick := by
  by_cases hr : s.pins.resetn = true
  · rw [State.tick_runs hr]
    intro p hp
    cases p with
    | cfg | pins | stop | track | gate | clear | plan | line | notices | reply | pending => rfl
    | stations | zones | chain | pulses | tags | supply | deliv | feed => exact (hp (by decide)).elim
  · rw [State.tick, if_pos (by simpa using hr)]
    exact .refl _ s

/-! ### The step on an empty queue -/

theorem step_due {s : State} (h : s.pending = []) {c : Instr} {rest : List Instr}
    (hd : s.due = c :: rest) : step s = exec c s := by
  simp only [step, h, hd]

theorem step_tick {s : State} (h : s.pending = []) (hd : s.due = []) : step s = .next s.tick := by
  simp only [step, h, hd]

/-- Settles O2: the due step, or one ms by the equation of each timer. -/
theorem emptyQueueTakesADueStepOrATick : Obligations.EmptyQueueTakesADueStepOrATick := by
  unfold Obligations.EmptyQueueTakesADueStepOrATick
  refine fun s hq => ⟨fun c rest hd => step_due hq hd, fun hd => ⟨s.tick, step_tick hq hd, s.tick_only,
    fun hr => if_pos hr, fun hr => ?_⟩, fun _ _ => rfl⟩
  rw [State.tick_runs hr]
  refine ⟨rfl, rfl, rfl, fun i => by cases i <;> rfl, fun p => by cases p <;> rfl, fun k => ?_, fun z => ?_,
    fun hw hp => if_pos (s.readyRuns_iff.mpr ⟨hw, hp⟩), fun hn => if_neg fun hruns => ?_,
    s.deliv.tick_eq, s.tickFeed_eq⟩
  · rw [← s.tickStation_eq k]; cases k <;> rfl
  · rw [← s.tickZone_eq z]; cases z <;> rfl
  · obtain ⟨hw, z, hz⟩ := s.readyRuns_iff.mp hruns
    obtain hn | hn := hn
    · exact hn hw
    · rw [hn z] at hz; cases hz

end Sys2Proof.Machine
end

section
/-! SUPPORT. What every operation of the stop controller keeps of the zones, the drive chain and the line's
error limit: silences, withdrawn rises and brakes stay, and a failed chain fails on or is released. -/

namespace Sys2Proof.Machine

/-! ### One zone -/

/-- A zone that is braked with no output (R87). -/
def Zone.Held (x : Zone) : Prop := x.state = .braked ∧ x.output = 0

/-- What the requests of a stop keep of a zone: its silence timer, a rise that does not wait, and the brake
(R73, R87, R88). -/
structure Zone.Settles (x y : Zone) : Prop where
  silenceTimer : y.silenceTimer = x.silenceTimer
  silenceStopped : y.silenceStopped = x.silenceStopped
  quiet : x.risePending = false → y.risePending = false
  held : x.Held → y.Held

theorem Zone.Settles.refl (x : Zone) : x.Settles x := ⟨rfl, rfl, id, id⟩

theorem Zone.Settles.trans {x y w : Zone} (h : x.Settles y) (k : y.Settles w) : x.Settles w :=
  ⟨k.silenceTimer.trans h.silenceTimer, k.silenceStopped.trans h.silenceStopped, k.quiet ∘ h.quiet,
    k.held ∘ h.held⟩

theorem Zone.brake_settles (x : Zone) : x.Settles x.brake :=
  ⟨rfl, rfl, fun _ => rfl, fun _ => ⟨rfl, rfl⟩⟩

theorem State.fallZone_settles (s : State) (z : ZoneId) (x : Zone) : x.Settles (s.fallZone z x) := by
  cases hx : x.state with
  | idle | braked =>
    have he : s.fallZone z x = { x with risePending := false } := by simp only [State.fallZone, hx]
    rw [he]
    exact ⟨rfl, rfl, fun _ => rfl, id⟩
  | falling =>
    have he : s.fallZone z x = x := by simp only [State.fallZone, hx]
    rw [he]
    exact .refl x
  | rising | running =>
    have hheld : ¬ x.Held := fun h => by rw [Zone.Held, hx] at h; cases h.1
    simp only [State.fallZone, hx]
    split
    · exact ⟨rfl, rfl, id, fun h => absurd h hheld⟩
    · exact ⟨rfl, rfl, id, fun h => absurd h hheld⟩

/-! ### The node -/

/-- What an operation of the stop controller keeps of the zones, of the drive chain, which may go OFF (R82),
and of the line's error limit (R179). -/
structure Settles (s t : State) : Prop where
  zone : ∀ z, (s.zone z).Settles (t.zone z)
  chain : t.chain = s.chain ∨ t.chain.state = .off
  limitFlag : t.line.limitFlag = s.line.limitFlag
  errorRun : t.line.errorRun = s.line.errorRun

namespace Settles

theorem refl (s : State) : Settles s s := ⟨fun _ => .refl _, .inl rfl, rfl, rfl⟩

theorem trans {s t u : State} (h : Settles s t) (k : Settles t u) : Settles s u := by
  refine ⟨fun z => (h.zone z).trans (k.zone z), ?_, k.limitFlag.trans h.limitFlag,
    k.errorRun.trans h.errorRun⟩
  obtain hk | hk := k.chain
  · rw [hk]; exact h.chain
  · exact .inr hk

theorem of_only {l : List Part} {s t : State} (h : changesOnly l s t) (hz : .zones ∉ l := by decide)
    (hc : .chain ∉ l := by decide) (hl : .line ∉ l := by decide) : Settles s t := by
  have hzone : t.zone = s.zone := by funext z; simp only [State.zone, h.zones hz]
  refine ⟨fun z => ?_, .inl (h.chain hc), by rw [h.line hl], by rw [h.line hl]⟩
  rw [hzone]
  exact .refl _

theorem mapZones (s : State) {f : ZoneId → Zone → Zone} (hf : ∀ z (x : Zone), x.Settles (f z x)) :
    Settles s (s.mapZones f) :=
  ⟨fun z => by rw [State.mapZones_zone]; exact hf z _, .inl rfl, rfl, rfl⟩

/-- Frames and the overflow flag have no part in it. -/
theorem withTx (s : State) (tx : List Frame) (overflow : Bool) :
    Settles s (s.withLine { s.line with tx := tx, txOverflow := overflow }) :=
  ⟨fun _ => .refl _, .inl rfl, rfl, rfl⟩

end Settles

open Settles (of_only)

/-! ### The operations, one lemma each -/

theorem State.brakeAll_settles (s : State) : Settles s s.brakeAll :=
  .mapZones s fun z x => by
    split
    · exact x.brake_settles
    · exact .refl x

theorem State.fallAll_settles (s : State) : Settles s s.fallAll :=
  .mapZones s fun z x => by
    split
    · exact s.fallZone_settles z x
    · exact .refl x

theorem State.restZones_settles (s : State) : Settles s s.restZones := by
  unfold State.restZones; split
  · exact s.brakeAll_settles
  · exact s.fallAll_settles

theorem State.releaseChain_settles (s : State) : Settles s s.releaseChain := by
  unfold State.releaseChain; split
  · exact ⟨fun _ => .refl _, .inr rfl, rfl, rfl⟩
  · exact .refl s

theorem State.enter_settles (s : State) (p : PathState) : Settles s (s.enter p) :=
  (of_only (s.leaveRun_only p)).trans <| (of_only (State.leaveIdle_only _ p)).trans <|
    (of_only (State.notePath_only _ p)).trans <| (of_only (State.setPath_only _ p)).trans
    (State.releaseChain_settles _)

theorem State.place_settles (s : State) (f : Frame) : Settles s (s.place f) := by
  unfold State.place; split
  · exact .withTx s _ _
  · exact .withTx s _ _

theorem State.joinSite_settles (s : State) (c : Cause) (place sheet : Nat) :
    Settles s (s.joinSite c place sheet) :=
  (of_only (s.ownCause_only c place sheet)).trans <| (of_only (State.withStop_only _ _)).trans
    (State.place_settles _ _)

theorem State.announceStance_settles (s : State) (st : Stance) : Settles s (s.announceStance st) := by
  have hlost : Settles s (s.withLine { s.line with txOverflow := true }) := .withTx s _ _
  unfold State.announceStance; split
  · exact .withTx s _ _
  · dsimp only; split
    · exact hlost.trans (State.joinSite_settles _ _ _ _)
    · exact hlost

theorem State.enterHalted_settles (s : State) : Settles s s.enterHalted := by
  have hopened (t : State) : Settles t t.openedAtHalt := by
    unfold State.openedAtHalt; split
    · exact t.enter_settles _
    · exact .refl t
  exact (s.enter_settles _).trans <| (of_only (State.dropDelays_only _)).trans <|
    (State.announceStance_settles _ _).trans (hopened _)

theorem State.enterHalting_settles (s : State) : Settles s s.enterHalting := by
  have htest (t : State) : Settles t t.haltTest := by
    unfold State.haltTest; split
    · exact t.enterHalted_settles
    · exact t.announceStance_settles _
  exact (s.enter_settles _).trans ((State.restZones_settles _).trans (htest _))

theorem State.zonesChanged_settles (s : State) : Settles s s.zonesChanged := by
  unfold State.zonesChanged; split
  · exact s.enterHalted_settles
  · exact s.releaseChain_settles

theorem State.haltAheadTest_settles (s : State) : Settles s s.haltAheadTest := by
  unfold State.haltAheadTest; split
  · exact s.enterHalting_settles
  · exact .refl s

theorem State.drainTest_settles (s : State) : Settles s s.drainTest := by
  unfold State.drainTest; split
  · exact s.enterHalting_settles
  · exact .refl s

theorem State.afterJoin_settles (s : State) (before : Option OwnCause) :
    Settles s (s.afterJoin before) := by
  unfold State.afterJoin; split
  · exact s.enterHalting_settles
  · split
    · exact s.brakeAll_settles.trans (State.zonesChanged_settles _)
    · exact .refl s

theorem State.joinStop_settles (s : State) (c : Cause) (place sheet : Nat) :
    Settles s (s.joinStop c place sheet) :=
  (s.joinSite_settles c place sheet).trans (State.afterJoin_settles _ _)

theorem State.enterFlush_settles (s : State) : Settles s s.enterFlush := by
  have hannounce (t : State) : Settles t t.announceFlush := by
    unfold State.announceFlush; split
    · exact .withTx t _ _
    · exact (Settles.withTx t _ _).trans (State.joinStop_settles _ _ _ _)
  exact (s.enter_settles _).trans <| (hannounce _).trans <| (State.haltAheadTest_settles _).trans
    (State.drainTest_settles _)

theorem State.startStop_settles (s : State) (c : Cause) (place sheet : Nat) :
    Settles s (s.startStop c place sheet) := by
  have hstance (t : State) (p : PathState) : Settles t (t.takeStance p) := by
    unfold State.takeStance; split
    · exact t.enterHalting_settles
    · exact t.enterFlush_settles
  exact (of_only (s.ownCause_only c place sheet)).trans <| (of_only (State.newStop_only _ _ _)).trans <|
    (hstance _ _).trans (State.place_settles _ _)

theorem State.raise_settles (s : State) (c : Cause) (place sheet : Nat) :
    Settles s (s.raise c place sheet) := by
  unfold State.raise; split
  · split
    · exact s.startStop_settles c place sheet
    · exact s.startStop_settles c place sheet
    · exact s.joinStop_settles c place sheet
    · exact s.joinStop_settles c place sheet
    all_goals exact .refl s
  · exact .refl s

theorem State.raiseFrom_settles (s : State) (p : PathState) (c : Cause) (place sheet : Nat) :
    Settles s (s.raiseFrom p c place sheet) := by
  unfold State.raiseFrom; split
  · exact s.joinSite_settles c place sheet
  · exact s.raise_settles c place sheet

end Sys2Proof.Machine
end

section
/-! SUPPORT. The faults that begin a stop in RUN: a drive chain that fails, a low supply, the error limit and an
orphan held too long. -/

namespace Sys2Proof.Machine

/-! ### A stop begun from other zones -/

/-- The parts that a fault of the drive or of the supply writes ahead of its stop. -/
def drivenParts : List Part := [.pins, .zones, .chain, .supply]

/-- A stop begun behind a change of the zones is one of the state ahead of it, where the change has moved no
zone off its rest and the falls are those of that state. -/
theorem StopBegun.of_driven {s v t : State} {c : Cause} {place sheet : Nat}
    (h : StopBegun v c place sheet t) (k : changesOnly drivenParts s v)
    (hrest : ∀ z, s.inUse z = true → (s.zone z).atRest = true → (v.zone z).atRest = true)
    (hfalls : ∀ z, s.inUse z = true → (s.zone z).state = .rising ∨ (s.zone z).state = .running →
      (t.zone z).state ≠ .braked → Falls s z (t.zone z)) : StopBegun s c place sheet t := by
  have hcfg := k.cfg
  have hstop := k.stop
  have htags := k.tags
  have hline := k.line
  obtain ⟨_, _, _, _, szones, _, _, _, _, _, _, _, _, _, _, _, _, _, _⟩ := s
  obtain ⟨_, _, _, _, vzones, _, _, _, _, _, _, _, _, _, _, _, _, _, _⟩ := v
  dsimp only at hcfg hstop htags hline
  subst hcfg hstop htags hline
  exact { h with
    still := fun z hu => by
      obtain ⟨hrising, hrunning, hquiet⟩ := h.still z hu
      exact ⟨hrising, hrunning, fun hr => hquiet (hrest z hu hr)⟩
    falls := hfalls }

/-- A change that leaves states and outputs of the zones is no part of the stop behind it. -/
theorem StopBegun.of_standing {s v t : State} {c : Cause} {place sheet : Nat}
    (h : StopBegun v c place sheet t) (k : changesOnly drivenParts s v)
    (hstate : ∀ z, (v.zone z).state = (s.zone z).state)
    (houtput : ∀ z, (v.zone z).output = (s.zone z).output) : StopBegun s c place sheet t := by
  have huse : v.inUse = s.inUse := State.inUse_congr k.cfg (by simp only [State.configured, k.stop])
  refine h.of_driven k (fun z _ hr => ?_) fun z hu hm hb => ?_
  · rw [Zone.atRest_iff, hstate, ← Zone.atRest_iff]; exact hr
  · have hf := h.falls z (by rw [huse]; exact hu) (by rw [hstate]; exact hm) hb
    simpa only [Falls, State.zoneCfg, State.profileAt, k.cfg, houtput] using hf

/-- Once a stop has begun the tests of a change of zones do no more than release the chain (R74, R82). -/
theorem StopBegun.zonesChanged {s t : State} {c : Cause} {place sheet : Nat}
    (h : StopBegun s c place sheet t) (hcfg : t.cfg = s.cfg) (hs : s.configured = true) :
    t.zonesChanged = t.releaseChain := by
  have hconf : t.configured = s.configured :=
    (State.configured_of_ne (by obtain hp | hp | hp := h.path <;> rw [hp] <;> decide)).trans hs.symm
  refine if_neg fun ⟨hp, hr⟩ => ?_
  rw [State.allRest_iff, State.inUse_congr hcfg hconf] at hr
  have hpath := h.rest.2 hr
  rw [hp] at hpath
  split at hpath <;> cases hpath

/-- A cause in RUN, with the tests behind it that a change of zones calls for. -/
theorem State.raise_zonesChanged {v : State} {c : Cause} (hv : Clear v) (hc : c.takesEffect .run = true)
    (place sheet : Nat) : StopBegun v c place sheet (v.raise c place sheet).zonesChanged := by
  have hb := hv.raise (.refl v) hc place sheet
  have hconf : v.configured = true := State.configured_of_ne (by rw [hv.path]; decide)
  rw [hb.zonesChanged (v.raise_only c place sheet).cfg hconf]
  exact hb.stands (.of_only (State.releaseChain_only _))

theorem Clear.of_driven {s v : State} (h : Clear s) (k : changesOnly drivenParts s v) : Clear v :=
  ⟨by rw [k.stop]; exact h.path, by rw [k.stop]; exact h.own, by rw [k.line]; exact h.room⟩

/-! ### The drive chain fails -/

/-- The stop of a drive chain that fails, seen from the node with its chain failed (R82). -/
theorem State.chainFails_begins {u : State} (h : Clear u) :
    StopBegun (u.withChain { u.chain with state := .failed }) .drive 0 0 u.chainFails :=
  State.raise_zonesChanged (h.of_driven ((u.withChain_only _).mono (by decide))) rfl 0 0

theorem State.chainFails_settles (u : State) :
    Settles (u.withChain { u.chain with state := .failed }) u.chainFails :=
  (State.raise_settles _ _ _ _).trans (State.zonesChanged_settles _)

/-- The ready timer runs out (R80). -/
theorem readyTimerExpiry_begins {s : State} (h : Clear s) (hw : s.chain.state = .wait)
    (hp : ∃ z, (s.zone z).risePending = true) :
    ∃ t, exec .readyTimerExpiry s = .next t ∧ StopBegun s .drive 0 0 t ∧
      (∀ z, (t.zone z).risePending = false) ∧ (t.chain.state = .failed ∨ t.chain.state = .off) := by
  obtain ⟨u, hu⟩ : ∃ u, u = s.withdrawRises.withChain { s.chain with readyTimer := readyMs } :=
    ⟨_, rfl⟩
  have hexec : exec .readyTimerExpiry s = done s u.chainFails :=
    hu ▸ if_pos (s.readyRuns_iff.mpr ⟨hw, hp⟩)
  have honly : changesOnly [.zones, .chain] s u :=
    hu ▸ s.withdrawRises_only.andThen (State.withChain_only _ _)
  have hzone (z : ZoneId) : u.zone z = { s.zone z with risePending := false } := by
    rw [hu]
    exact s.mapZones_zone (fun _ x => { x with risePending := false }) z
  have hbegun := u.chainFails_begins (h.of_driven (honly.mono (by decide)))
  have hsettles := u.chainFails_settles
  obtain ⟨n, hn⟩ := done_eq s u.chainFails
  refine ⟨_, hexec.trans hn, (hbegun.of_standing (s := s) ?_ ?_ ?_).noted n, fun z => ?_, ?_⟩
  · exact honly.comp (State.withChain_only _ _) (by decide) (by decide)
  · exact fun z => (congrArg Zone.state (hzone z) :)
  · exact fun z => (congrArg Zone.output (hzone z) :)
  · exact (hsettles.zone z).quiet (congrArg Zone.risePending (hzone z))
  · obtain hc | hc := hsettles.chain
    · exact .inl (congrArg Chain.state hc)
    · exact .inr hc

/-- DRDY is lost with a zone moving (R82). -/
theorem drdyLost_begins {s : State} (h : Clear s) (ho : s.chain.state = .on)
    (hm : ∃ z, s.inUse z = true ∧ (s.zone z).atRest = false) :
    ∃ t, exec .drdyLost s = .next t ∧ StopBegun s .drive 0 0 t ∧
      t.pins = { s.pins with drdy := false } ∧ ∀ z, s.inUse z = true → (t.zone z).atRest = true := by
  obtain ⟨u, hu⟩ : ∃ u, u = (s.setDrdy false).brakeMoving := ⟨_, rfl⟩
  have hmoves : s.anyMoving = true := by
    rw [State.anyMoving, Bool.not_eq_true', ← Bool.not_eq_true, s.allRest_iff]
    obtain ⟨z, hz, hr⟩ := hm
    exact fun hall => by rw [hall z hz] at hr; cases hr
  have hexec : exec .drdyLost s = done s u.chainFails := by
    show execDrdyLost s = _
    rw [execDrdyLost, if_pos ho, if_pos hmoves, hu]
  have honly : changesOnly [.pins, .zones] s u :=
    hu ▸ (s.withPins_only _).andThen (State.brakeMoving_only _)
  have hzone (z : ZoneId) (hz : s.inUse z = true) :
      u.zone z = if (s.zone z).atRest = true then s.zone z else (s.zone z).brake := by
    have he : u.zone z = if (s.inUse z && !(s.zone z).atRest) = true then (s.zone z).brake else s.zone z := by
      rw [hu]; exact State.mapZones_zone _ _ z
    rw [he, hz]
    cases (s.zone z).atRest <;> rfl
  have hrest (z : ZoneId) (hz : s.inUse z = true) : (u.zone z).atRest = true := by
    rw [hzone z hz]; split
    · assumption
    · rfl
  have hbegun := u.chainFails_begins (h.of_driven (honly.mono (by decide)))
  have hsettles := u.chainFails_settles
  have huse : u.inUse = s.inUse :=
    State.inUse_congr honly.cfg (by simp only [State.configured, honly.stop])
  obtain ⟨n, hn⟩ := done_eq s u.chainFails
  refine ⟨_, hexec.trans hn, (hbegun.of_driven (s := s) ?_ (fun z hz _ => hrest z hz) ?_).noted n, ?_,
    fun z hz => ((hbegun.still z (huse ▸ hz)).2.2 (hrest z hz)).1⟩
  · exact honly.comp (State.withChain_only _ _) (by decide) (by decide)
  · intro z hz hmove hnot
    refine absurd ((hsettles.zone z).held ?_).1 hnot
    show (u.zone z).Held
    rw [hzone z hz, if_neg (by rw [Zone.atRest_iff]; obtain hmove | hmove := hmove <;> simp [hmove])]
    exact ⟨rfl, rfl⟩
  · show u.chainFails.pins = _
    rw [u.chainFails_only .pins (by decide), hu]
    rfl

/-! ### Supply, error limit and orphan -/

/-- The supply is low (R113). -/
theorem supplyHoldExpiry_begins {s : State} (h : Clear s) (hok : s.supply.ok = true)
    (hhold : s.supply.hold.isSome = true) (hlow : s.pins.vsense < supplyReference s.cfg.supplySelect) :
    ∃ t, exec .supplyHoldExpiry s = .next t ∧ StopBegun s .supply 0 0 t ∧ t.supply = ⟨false, none⟩ ∧
      ∀ z, s.inUse z = true → (t.zone z).state = .braked ∧ (t.zone z).output = 0 := by
  have hcmp : s.comparatorOk = false := by simpa [State.comparatorOk] using hlow
  obtain ⟨v, hv⟩ : ∃ v, v = (s.withSupply { ok := false, hold := none }).brakeAll := ⟨_, rfl⟩
  have hexec : exec .supplyHoldExpiry s = done s (v.raise .supply 0 0).zonesChanged := by
    show execSupplyHoldExpiry s = _
    rw [execSupplyHoldExpiry, if_pos (by simp [State.supplyRuns, hhold, hcmp, hok]), State.supplyTurns,
      hcmp, hv]
    rfl
  have honly : changesOnly [.supply, .zones] s v :=
    hv ▸ (s.withSupply_only _).andThen (State.brakeAll_only _)
  have hzone (z : ZoneId) (hz : s.inUse z = true) : v.zone z = (s.zone z).brake := by
    rw [hv, State.brakeAll, State.mapZones_zone]
    exact if_pos hz
  have hbegun := State.raise_zonesChanged (h.of_driven (honly.mono (by decide))) (c := .supply) rfl 0 0
  have hsettles : Settles v (v.raise .supply 0 0).zonesChanged :=
    (State.raise_settles _ _ _ _).trans (State.zonesChanged_settles _)
  have hsupply : (v.raise .supply 0 0).zonesChanged.supply = v.supply :=
    (State.zonesChanged_only _ .supply (by decide)).trans (v.raise_only _ _ _ .supply (by decide))
  have hheld (z : ZoneId) (hz : s.inUse z = true) : ((v.raise .supply 0 0).zonesChanged.zone z).Held :=
    (hsettles.zone z).held (by rw [hzone z hz]; exact ⟨rfl, rfl⟩)
  obtain ⟨n, hn⟩ := done_eq s (v.raise .supply 0 0).zonesChanged
  refine ⟨_, hexec.trans hn, (hbegun.of_driven (s := s) (honly.mono (by decide)) (fun z hz _ => ?_)
    fun z hz _ hnot => absurd (hheld z hz).1 hnot).noted n, hsupply.trans (by rw [hv]; rfl), hheld⟩
  rw [hzone z hz]; rfl

/-- Sixteen transmit errors stand in a row (R179). -/
theorem errorLimitReached_begins {s : State} (h : Clear s) (hl : 16 ≤ s.line.errorRun) :
    ∃ t, exec .errorLimitReached s = .next t ∧ StopBegun s .line 3 0 t ∧ t.line.limitFlag = true ∧
      t.line.errorRun = 0 := by
  obtain ⟨v, hv⟩ : ∃ v, v = s.withLine { s.line with limitFlag := true, errorRun := 0 } := ⟨_, rfl⟩
  have hlimit : errorLimit ≤ s.line.errorRun := hl
  have hexec : exec .errorLimitReached s = done s (v.raise .line 3 0) := by
    show execErrorLimitReached s = _
    rw [execErrorLimitReached, if_pos hlimit, State.limitTest, if_pos hlimit, hv]
  have hstands : StandsAs s v := by rw [hv]; exact ⟨rfl, rfl, rfl, rfl, rfl⟩
  have hsettles := v.raise_settles .line 3 0
  obtain ⟨n, hn⟩ := done_eq s (v.raise .line 3 0)
  refine ⟨_, hexec.trans hn, (h.raise hstands rfl 3 0).noted n, hsettles.limitFlag.trans ?_,
    hsettles.errorRun.trans ?_⟩ <;> rw [hv] <;> rfl

/-- An orphan is held too long (R12). -/
theorem orphanHoldExpiry_begins {s : State} (h : Clear s) {hold : Nat} (ho : s.track.orphan = some hold)
    (hlong : s.cfg.orphanHold < hold) :
    ∃ t, exec .orphanHoldExpiry s = .next t ∧ StopBegun s .stray 1 0 t ∧ t.track.orphan = none := by
  have hconf : s.configured = true := State.configured_of_ne (by rw [h.path]; decide)
  have hexec : exec .orphanHoldExpiry s = done s s.endOrphan :=
    if_pos (by simp [hconf, State.orphanExpired, ho, hlong])
  obtain ⟨n, hn⟩ := done_eq s s.endOrphan
  exact ⟨_, hexec.trans hn, (State.endOrphan_begins (.refl _ s) (.inl h.path) h.own h.room).noted n,
    s.endOrphan_keeps.orphan⟩

end Sys2Proof.Machine
end

section
/-! SUPPORT and the proof of FaultsBeginAStop: the silences that one command takes (R88; log 40). -/

namespace Sys2Proof.Machine

/-! ### The zones whose silences are taken -/

theorem mem_zones (y : ZoneId) : y ∈ ZoneId.all := by cases y <;> decide

theorem State.silentIn_eq (s : State) (z y : ZoneId) :
    s.silentIn z y = (y == z || s.silenceReached y) := rfl

theorem State.silentIn_iff (s : State) (z y : ZoneId) :
    s.silentIn z y = true ↔ y ∈ s.silentWith z := by
  rw [s.silentIn_eq]
  by_cases hy : y = z <;> simp [State.silentWith, hy, mem_zones y]

/-- The zones of one command are those that it names and no zone twice. -/
theorem State.silentWith_length (s : State) (z : ZoneId) :
    (s.silentWith z).length = ZoneId.all.countP (s.silentIn z) := by
  have hall : ZoneId.all.Nodup := by decide
  rw [List.countP_eq_length_filter]
  refine ((List.perm_ext_iff_of_nodup ?_ (hall.filter _)).mpr fun y => ?_).length_eq
  · exact List.nodup_cons.mpr ⟨by simp, hall.filter _⟩
  · rw [List.mem_filter, s.silentIn_iff, and_iff_right (mem_zones y)]

/-- The other zones of the command. -/
def State.silentBeside (s : State) (z : ZoneId) : List ZoneId :=
  ZoneId.all.filter fun y => y != z && s.silenceReached y

theorem State.silentBeside_nil {s : State} {z : ZoneId} (h : ∀ y, s.silentIn z y = true → y = z) :
    s.silentBeside z = [] := by
  refine List.filter_eq_nil_iff.mpr fun y _ hy => ?_
  obtain ⟨hne, hr⟩ := Bool.and_eq_true_iff.mp hy
  exact bne_iff_ne.mp hne (h y (Bool.or_eq_true_iff.mpr (.inr hr)))

/-- The state of a command's silences, its notices apart. -/
def State.silences (s : State) (z : ZoneId) : State :=
  (s.silentWith z).foldl (fun t y => t.silence s.stop.path y) s

theorem State.silences_eq (s : State) (z : ZoneId) : s.silences z =
    (s.silentBeside z).foldl (fun t y => t.silence s.stop.path y) (s.silence s.stop.path z) := rfl

theorem exec_silenceTimeout {s : State} {z : ZoneId} (hu : s.inUse z = true)
    (hs : (s.zone z).silenceStopped = false)
    (h : (s.zone z).state = .rising ∨ (s.zone z).state = .running ∨
      2 ^ (s.zoneCfg z).silenceExp ≤ (s.zone z).silenceTimer) :
    exec (.silenceTimeout z) s = done s (s.silences z) := by
  refine if_pos (Bool.or_eq_true_iff.mpr ?_)
  obtain h | h | h := h
  · exact .inl ((s.silenceRuns_iff z).mpr ⟨hu, by simp [h], hs⟩)
  · exact .inl ((s.silenceRuns_iff z).mpr ⟨hu, by simp [h], hs⟩)
  · exact .inr (by simp [State.silenceReached, hu, hs, State.silenceTime, h])

/-! ### The timers stop -/

/-- The silence timer of a zone stands at its time (R88). -/
def State.SilenceStands (s : State) (y : ZoneId) : Prop :=
  (s.zone y).silenceTimer = 2 ^ (s.zoneCfg y).silenceExp ∧ (s.zone y).silenceStopped = true

theorem State.silence_stands {s : State} {y z : ZoneId} (p : PathState) (h : y = z ∨ s.SilenceStands y) :
    (s.silence p z).SilenceStands y := by
  have hstops : (s.stopSilence z).SilenceStands y := by
    by_cases hy : y = z
    · subst hy
      unfold State.SilenceStands
      rw [State.stopSilence, State.zone_setZone]
      exact ⟨rfl, rfl⟩
    · unfold State.SilenceStands
      rw [State.stopSilence, State.zone_setZone_ne _ _ hy]
      exact h.resolve_left hy
  have hsettles := ((s.stopSilence z).raiseFrom_settles p .drive z.num 0).zone y
  have hcfg : (s.silence p z).cfg = (s.stopSilence z).cfg := (State.raiseFrom_only _ _ _ _ _).cfg
  refine ⟨hsettles.silenceTimer.trans ?_, hsettles.silenceStopped.trans hstops.2⟩
  rw [hstops.1, State.zoneCfg, State.zoneCfg, hcfg]

theorem State.silences_stand {p : PathState} {y : ZoneId} (l : List ZoneId) (s : State)
    (h : y ∈ l ∨ s.SilenceStands y) : (l.foldl (fun t z => t.silence p z) s).SilenceStands y := by
  induction l generalizing s with
  | nil => exact h.resolve_left List.not_mem_nil
  | cons z l ih =>
    refine ih _ ?_
    obtain h | h := h
    · obtain rfl | h := List.mem_cons.mp h
      · exact .inr (State.silence_stands p (.inl rfl))
      · exact .inl h
    · exact .inr (State.silence_stands p (.inr h))

/-! ### Where DRIVE is dropped -/

theorem State.silence_dropped {s : State} {p : PathState} (hp : Cause.drive.takesEffect p = false)
    (hs : s.stop.path = p) (y : ZoneId) : s.silence p y = s.stopSilence y := by
  rw [State.silence, State.raiseFrom_elsewhere _ _ (.inr (.inl hp))]
  exact State.raise_dropped _ _ _ _ (by rw [← hs] at hp; exact hp)

theorem State.silences_dropped {p : PathState} (hp : Cause.drive.takesEffect p = false)
    (l : List ZoneId) (s : State) (hs : s.stop.path = p) :
    changesOnly [.zones] s (l.foldl (fun t y => t.silence p y) s) := by
  induction l generalizing s with
  | nil => exact .refl _ s
  | cons y l ih =>
    rw [List.foldl_cons, State.silence_dropped hp hs]
    exact (s.stopSilence_only y).trans (ih _ hs)

/-! ### The first silence -/

/-- A cause has begun or joined a stop, with its JAMCALL among at most two frames (R51, R52). -/
structure CauseTaken (s t : State) (c : Cause) (place sheet : Nat) : Prop where
  cfg : t.cfg = s.cfg
  stopped : t.Stopped
  own : t.stop.own = (s.stop.setOwn c place sheet).own
  counted : t.causeCount c = min 255 (s.causeCount c + 1)
  frames : ∃ more, t.line.tx = s.line.tx ++ more ∧ more.length ≤ 2 ∧
    ⟨.jamcall, s.cfg.segment, t.stop.epoch, jamcallPayload (s.siteOf c place sheet)⟩ ∈ more

/-- A cause begins a stop in RUN, whatever the own-cause record holds. -/
theorem State.startStop_taken {s : State} (c : Cause) (place sheet : Nat) (hp : s.stop.path = .run)
    (hroom : s.line.tx.length ≤ 14) : CauseTaken s (s.startStop c place sheet) c place sheet := by
  have hconf : s.configured = true := State.configured_of_ne (by rw [hp]; decide)
  obtain ⟨-, htx⟩ := State.startStop_halts c place sheet hconf hroom
  obtain ⟨v, ht, hstop, -, -, -, hline, -⟩ := s.startStop_eq c place sheet
  have hv : v.configured = s.configured := by simp only [State.configured, hstop, StopUnit.begin_path]
  have H := State.enterHalting_open (s := v) (by rw [hline]; omega) (hv.trans hconf)
  have hjam : (s.startStop c place sheet).stop = v.enterHalting.stop := by
    rw [ht]; exact (State.jamcall_only _ _).stop
  have hbegin : v.stop = { (s.stop.setOwn c place sheet).count c with
      epoch := nextEpoch s.stop.epoch, sites := [s.siteOf c place sheet], overflow := false
      stances := Vector.replicate 15 .unknown } := hstop.trans (StopUnit.begin_eq _ _ _)
  refine ⟨(s.startStop_only c place sheet).cfg, H.stopped.imp ?_ (Or.imp ?_ ?_), ?_, ?_,
    _, htx, le_rfl, by simp⟩
  · exact fun h => by rw [hjam, h]
  · exact fun h => by rw [hjam, h]
  · exact fun h => by rw [hjam, h]
  · rw [hjam, H.own, hbegin]; rfl
  · refine State.causeCount_count (u := s.stop.setOwn c place sheet) ?_ (by rw [StopUnit.setOwn_keeps])
    rw [hjam, H.stop, hbegin]

/-- A cause joins the stop in FLUSH or HALTING (R52). -/
theorem State.joinStop_taken {s : State} (c : Cause) (place sheet : Nat)
    (hp : s.stop.path = .flush ∨ s.stop.path = .halting) (hroom : s.line.tx.length ≤ 14) :
    CauseTaken s (s.joinStop c place sheet) c place sheet := by
  have J := State.joinStop_joins (c := c) place sheet hp hroom
  have hcfg : (s.joinStop c place sheet).cfg = s.cfg := (s.joinStop_only c place sheet).cfg
  have hown : (s.joinStop c place sheet).stop.own = (s.stop.setOwn c place sheet).own := by
    unfold StopUnit.setOwn
    cases ho : s.stop.own with
    | none => exact J.ownFirst ho
    | some o => exact J.ownLater o ho
  have hjam := State.joinSite_tx (s := s) (by omega) c place sheet
  by_cases h : Turns s c
  · have H := State.joinStop_turns place sheet hp h hroom
    refine ⟨hcfg, H.stopped, hown, J.counted, [_, (s.joinStop c place sheet).restNotice], ?_, le_rfl,
      List.mem_cons_self⟩
    rw [H.tx, hjam, J.epoch, List.append_assoc]
    rfl
  · have he := State.joinStop_goesOn place sheet h
    refine ⟨hcfg, .inl ?_, hown, J.counted, [_], ?_, Nat.le_succ 1, List.mem_singleton.mpr rfl⟩
    · rw [he, s.joinSite_path]
      exact hp.resolve_left fun hf => h (.inl hf)
    · rw [J.epoch, he, hjam]

section
variable {s : State} (z : ZoneId)

/-- The first silence of a command is a cause raised behind its stopped timer. -/
theorem State.silence_first (s : State) (z : ZoneId) :
    s.silence s.stop.path z = (s.stopSilence z).raise .drive z.num 0 :=
  (s.stopSilence z).raiseFrom_first .drive z.num 0

theorem State.silence_startStop (hp : s.stop.path = .run) :
    s.silence s.stop.path z = (s.stopSilence z).startStop .drive z.num 0 := by
  have hp' : (s.stopSilence z).stop.path = .run := hp
  rw [s.silence_first, State.raise_startStop _ _ (.inl hp') (by rw [hp']; rfl)]

theorem State.silence_joinStop (hp : s.stop.path = .flush ∨ s.stop.path = .halting) :
    s.silence s.stop.path z = (s.stopSilence z).joinStop .drive z.num 0 := by
  have hp' : (s.stopSilence z).stop.path = .flush ∨ (s.stopSilence z).stop.path = .halting := hp
  rw [s.silence_first, State.raise_joinStop _ _ hp' (by obtain h | h := hp' <;> rw [h] <;> rfl)]

theorem State.silence_taken (hp : s.stop.path ∈ [PathState.run, .flush, .halting])
    (hroom : s.line.tx.length ≤ 14) : CauseTaken s (s.silence s.stop.path z) .drive z.num 0 := by
  simp only [List.mem_cons, List.not_mem_nil, or_false] at hp
  obtain hp | hp := hp
  · rw [State.silence_startStop z hp]
    exact { State.startStop_taken (s := s.stopSilence z) .drive z.num 0 hp hroom with }
  · rw [State.silence_joinStop z hp]
    exact { State.joinStop_taken (s := s.stopSilence z) .drive z.num 0 hp hroom with }

end

/-! ### The silences behind it -/

/-- What further silences leave of a stop that an own cause with a panel cycle has brought on. -/
structure SilencesJoined (l : List ZoneId) (u t : State) : Prop where
  cfg : t.cfg = u.cfg
  path : t.stop.path = u.stop.path
  epoch : t.stop.epoch = u.stop.epoch
  own : t.stop.own = u.stop.own
  sites : (∃ x ∈ u.stop.sites, x.segment = u.cfg.segment) → t.stop.sites = u.stop.sites
  counted : t.causeCount .drive = min 255 (u.causeCount .drive + l.length)
  tx : u.line.tx.length + l.length ≤ 16 → t.line.tx = u.line.tx ++ l.map fun y =>
    ⟨.jamcall, u.cfg.segment, u.stop.epoch, jamcallPayload (u.siteOf .drive y.num 0)⟩

/-- The own-cause record calls for a panel cycle (R49). -/
def State.CycleOwned (s : State) : Prop := ∃ o, s.stop.own = some o ∧ o.cycle = true

/-- On the node's way to rest, or there, a further silence joins the stop and leaves the own cause (R52). -/
theorem State.silence_joins {u : State} {p : PathState} (hp : Cause.drive.takesEffect p = true)
    (hs : u.Stopped) (y : ZoneId) : u.silence p y = (u.stopSilence y).joinSite .drive y.num 0 := by
  have hs' : (u.stopSilence y).Stopped := hs
  obtain hs' | hs' := hs'
  · have hnot : ¬ Turns (u.stopSilence y) .drive := by
      rintro (hf | ⟨-, hc | hc⟩)
      · rw [hs'] at hf; cases hf
      · cases hc
      · cases hc
    rw [State.silence, State.raiseFrom_elsewhere _ _ (.inl (by rw [hs']; decide)),
      State.raise_joinStop _ _ (.inr hs') (by rw [hs']; rfl), State.joinStop_goesOn _ _ hnot]
  · exact State.raiseFrom_atRest _ _ (by obtain h | h := hs' <;> rw [h] <;> decide) hp rfl

theorem State.silence_joined {u : State} {p : PathState} (hp : Cause.drive.takesEffect p = true)
    (hs : u.Stopped) (ho : u.CycleOwned) (y : ZoneId) : SilencesJoined [y] u (u.silence p y) := by
  obtain ⟨o, ho, hcycle⟩ := ho
  have hown : u.stop.setOwn .drive y.num 0 = u.stop := by
    have hc : (o.cycle || Cause.drive.needsCycle) = o.cycle := by rw [hcycle]; rfl
    rw [StopUnit.setOwn, ho]
    dsimp only
    rw [hc, ← ho]
  have hstop : (u.silence p y).stop = (u.stop.count .drive).addSite (u.siteOf .drive y.num 0) := by
    rw [State.silence_joins hp hs, State.joinSite_stop]
    show ((u.stop.setOwn .drive y.num 0).count .drive).addSite _ = _
    rw [hown]
    rfl
  have hkeeps := StopUnit.addSite_keeps (u.stop.count .drive) (u.siteOf .drive y.num 0)
  refine ⟨(u.silence_only p y).cfg, ?_, ?_, ?_, fun hx => ?_, ?_, fun hroom => ?_⟩
  · rw [hstop, hkeeps]; rfl
  · rw [hstop, hkeeps]; rfl
  · rw [hstop, hkeeps]; rfl
  · rw [hstop, StopUnit.addSite_present hx]; rfl
  · exact State.causeCount_count (u := u.stop) (by rw [hstop, hkeeps]) rfl
  · rw [State.silence_joins hp hs,
      State.joinSite_tx (by show u.line.tx.length < 16; simp only [List.length_singleton] at hroom; omega)]
    rfl

theorem SilencesJoined.trans {y : ZoneId} {l : List ZoneId} {u v t : State}
    (h : SilencesJoined [y] u v) (k : SilencesJoined l v t) : SilencesJoined (y :: l) u t := by
  refine ⟨k.cfg.trans h.cfg, k.path.trans h.path, k.epoch.trans h.epoch, k.own.trans h.own,
    fun hx => (k.sites ?_).trans (h.sites hx), ?_, fun hroom => ?_⟩
  · rw [h.sites hx, h.cfg]; exact hx
  · rw [k.counted, h.counted]
    simp only [List.length_cons, List.length_nil]
    omega
  · rw [List.length_cons] at hroom
    have htx := h.tx (by rw [List.length_singleton]; omega)
    have hlen : v.line.tx.length + l.length ≤ 16 := by
      rw [htx, List.length_append, List.length_map, List.length_singleton]; omega
    rw [k.tx hlen, htx, h.cfg, h.epoch, List.append_assoc]
    simp only [State.siteOf, h.cfg]
    rfl

theorem State.silences_joined {p : PathState} (hp : Cause.drive.takesEffect p = true) (l : List ZoneId)
    (u : State) (hs : u.Stopped) (ho : u.CycleOwned) (hc : u.causeCount .drive ≤ 255) :
    SilencesJoined l u (l.foldl (fun t y => t.silence p y) u) := by
  induction l generalizing u with
  | nil =>
    exact ⟨rfl, rfl, rfl, rfl, fun _ => rfl, (Nat.min_eq_right hc).symm, fun _ => (List.append_nil _).symm⟩
  | cons y l ih =>
    have h := State.silence_joined hp hs ho y
    refine h.trans (ih _ ?_ ?_ ?_)
    · unfold State.Stopped; rw [h.path]; exact hs
    · unfold State.CycleOwned; rw [h.own]; exact ho
    · rw [h.counted]; exact Nat.min_le_left _ _

/-! ### The command -/

theorem StopUnit.setOwn_drive (u : StopUnit) (place : Nat) :
    (u.own = none → (u.setOwn .drive place 0).own = some ⟨.drive, place, 0, true⟩) ∧
    (∀ o, u.own = some o → (u.setOwn .drive place 0).own = some { o with cycle := true }) := by
  refine ⟨fun h => ?_, fun o h => ?_⟩
  · rw [StopUnit.setOwn, h]; rfl
  · rw [StopUnit.setOwn, h]
    dsimp only
    rw [show (o.cycle || Cause.drive.needsCycle) = true from Bool.or_true _]

section
variable {s : State} {z : ZoneId}

/-- Each silence of the command is counted and has its JAMCALL; the first alone stands as own cause (log 40). -/
theorem State.silences_taken (hp : s.stop.path ∈ [PathState.run, .flush, .halting])
    (hroom : s.line.tx.length ≤ 12) :
    (s.silences z).causeCount .drive =
      min 255 (s.causeCount .drive + ZoneId.all.countP (s.silentIn z)) ∧
    (∀ y, s.silentIn z y = true → ⟨.jamcall, s.cfg.segment, (s.silences z).stop.epoch,
      jamcallPayload (s.siteOf .drive y.num 0)⟩ ∈ (s.silences z).line.tx) ∧
    (s.silences z).stop.own = (s.stop.setOwn .drive z.num 0).own := by
  have hc : Cause.drive.takesEffect s.stop.path = true := by
    simp only [List.mem_cons, List.not_mem_nil, or_false] at hp
    obtain hp | hp | hp := hp <;> rw [hp] <;> rfl
  have F := State.silence_taken z hp (by omega)
  have hlen : (s.silentBeside z).length + 1 = ZoneId.all.countP (s.silentIn z) := s.silentWith_length z
  have hle : ZoneId.all.countP (s.silentIn z) ≤ 3 := List.countP_le_length
  rw [s.silences_eq]
  generalize s.silence s.stop.path z = u at *
  have hcycle : u.CycleOwned := by
    obtain ⟨hnone, hsome⟩ := s.stop.setOwn_drive z.num
    cases ho : s.stop.own with
    | none => exact ⟨_, F.own.trans (hnone ho), rfl⟩
    | some o => exact ⟨_, F.own.trans (hsome o ho), rfl⟩
  have J := State.silences_joined hc (s.silentBeside z) u F.stopped hcycle
    (by rw [F.counted]; exact Nat.min_le_left _ _)
  generalize (s.silentBeside z).foldl (fun t y => t.silence s.stop.path y) u = t at *
  refine ⟨?_, fun y hy => ?_, J.own.trans F.own⟩
  · rw [J.counted, F.counted, ← hlen]; omega
  · obtain ⟨more, htx, hmore, hmem⟩ := F.frames
    have hfit : u.line.tx.length + (s.silentBeside z).length ≤ 16 := by
      rw [htx, List.length_append]; omega
    rw [J.tx hfit, J.epoch, htx]
    obtain rfl | hy := List.mem_cons.mp ((s.silentIn_iff z y).mp hy)
    · exact List.mem_append_left _ (List.mem_append_right _ hmem)
    · refine List.mem_append_right _ (List.mem_map.mpr ⟨y, hy, ?_⟩)
      simp only [State.siteOf, F.cfg]

/-- In RUN the first silence begins the stop (R51). -/
theorem State.silence_begins (h : Clear s) :
    StopBegun s .drive z.num 0 (s.silence s.stop.path z) := by
  have honly := s.stopSilence_only z
  have hclear : Clear (s.stopSilence z) := h.of_driven (honly.mono (by decide))
  have hzone (y : ZoneId) : ((s.stopSilence z).zone y).state = (s.zone y).state ∧
      ((s.stopSilence z).zone y).output = (s.zone y).output := by
    by_cases hy : y = z
    · rw [hy, State.stopSilence, State.zone_setZone]; exact ⟨rfl, rfl⟩
    · rw [State.stopSilence, State.zone_setZone_ne _ _ hy]; exact ⟨rfl, rfl⟩
  rw [s.silence_first]
  exact (hclear.raise (.refl _) rfl z.num 0).of_standing (honly.mono (by decide))
    (fun y => (hzone y).1) fun y => (hzone y).2

/-- In FLUSH and HALTING it joins the stop (R52). -/
theorem State.silence_joinsStop (hp : s.stop.path ∈ [PathState.flush, .halting])
    (hroom : s.line.tx.length ≤ 14) : StopJoined s .drive z.num 0 (s.silence s.stop.path z) := by
  simp only [List.mem_cons, List.not_mem_nil, or_false] at hp
  rw [State.silence_joinStop z hp]
  exact (State.joinStop_joins (s := s.stopSilence z) _ _ hp hroom).of_source rfl rfl

/-- The silences of one command in RUN have one epoch and one site (log 40). -/
theorem State.silences_site (h : Clear s) : (s.silences z).stop.epoch = nextEpoch s.stop.epoch ∧
    (s.silences z).stop.sites = [s.siteOf .drive z.num 0] := by
  have B := State.silence_begins (z := z) h
  have hcfg : (s.silence s.stop.path z).cfg = s.cfg := (s.silence_only _ z).cfg
  have hc : Cause.drive.takesEffect s.stop.path = true := by rw [h.path]; rfl
  have J := State.silences_joined hc (s.silentBeside z) _ B.stopped ⟨_, B.own, rfl⟩
    (by rw [B.counted]; exact Nat.min_le_left _ _)
  rw [s.silences_eq, J.epoch, J.sites ⟨s.siteOf .drive z.num 0, by rw [B.sites]; simp, by rw [hcfg]; rfl⟩]
  exact ⟨B.epoch, B.sites⟩

end

/-- Settles O34: the silences of one command by their first and by what the others add, and the other faults
one by one. -/
theorem faultsBeginAStop : Obligations.FaultsBeginAStop := by
  unfold Obligations.FaultsBeginAStop
  refine ⟨fun z s hu hstopped hcond => ?_, fun s h => ⟨readyTimerExpiry_begins h, drdyLost_begins h,
    supplyHoldExpiry_begins h, errorLimitReached_begins h, fun _ => orphanHoldExpiry_begins h⟩⟩
  obtain ⟨n, hn⟩ := done_eq s (s.silences z)
  refine ⟨_, (exec_silenceTimeout hu hstopped hcond).trans hn, fun y hy => ?_, fun honly => ?_,
    fun hp hroom => ?_, fun h => State.silences_site h, fun hp => ?_⟩
  · have hcfg : (s.silences z).cfg = s.cfg :=
      (changesOnly.foldl _ (fun t y => t.silence_only s.stop.path y) _ s).cfg
    have hstands : (s.silences z).SilenceStands y :=
      State.silences_stand _ s (.inl ((s.silentIn_iff z y).mp hy))
    rwa [State.SilenceStands, State.zoneCfg, hcfg] at hstands
  · have halone : s.silences z = s.silence s.stop.path z := by
      rw [s.silences_eq, State.silentBeside_nil honly]; rfl
    rw [halone]
    exact ⟨fun h => (State.silence_begins h).noted n,
      fun hp hroom => (State.silence_joinsStop hp hroom).noted n⟩
  · obtain ⟨hcount, hjam, hown⟩ := State.silences_taken (z := z) hp hroom
    obtain ⟨hnone, hsome⟩ := s.stop.setOwn_drive z.num
    exact ⟨hcount, hjam, fun ho => hown.trans (hnone ho), fun o ho => hown.trans (hsome o ho)⟩
  · have hc : Cause.drive.takesEffect s.stop.path = false := by
      revert hp; cases s.stop.path <;> decide
    have hzones : changesOnly [.zones] s (s.silences z) := State.silences_dropped hc _ s rfl
    exact ⟨hzones.stop, hzones.line⟩

end Sys2Proof.Machine
end

section
/-! SUPPORT. Zones at rest: what the operations of the drive and of the stop controller keep of the law of the
brake (R84, R87, R113) and of the law of a halt (R73, R74, R84). -/

namespace Sys2Proof.Machine

set_option Elab.async false

theorem changesOnly.supply {l : List Part} {s t : State} (h : changesOnly l s t)
    (hn : .supply ∉ l := by decide) : t.supply = s.supply := h .supply hn

/-! ### The two laws -/

/-- Both laws of the zones at rest are kept. -/
structure KeepsRest (s t : State) : Prop where
  brake : brakeLaw s → brakeLaw t
  rest : RestLaw s → RestLaw t

/-- A rise waits on a zone at rest alone (R84). -/
def RisesWaitAtRest (s : State) : Prop :=
  ∀ z, s.inUse z = true → (s.zone z).risePending = true → (s.zone z).atRest = true

/-- No rise of a zone in use waits. -/
def NoRiseWaits (s : State) : Prop := ∀ z, s.inUse z = true → (s.zone z).risePending = false

/-- The path states from HALTING on. -/
def haltedPaths : List PathState := [.halting, .halted, .clearing, .ready]

theorem NoRiseWaits.atRest {s : State} (h : NoRiseWaits s) : RisesWaitAtRest s :=
  fun z hz hp => by rw [h z hz] at hp; cases hp

/-- Ahead of HALTING the law of a halt says where a rise waits and no more. -/
theorem RestLaw.of_moving {s : State} (h : RisesWaitAtRest s) (hp : s.stop.path ∉ haltedPaths) :
    RestLaw s :=
  ⟨h, fun hq => absurd hq hp, fun hq => absurd (List.mem_cons_of_mem _ hq) hp⟩

/-- In HALTING, and with every zone at rest, it asks that no rise waits. -/
theorem RestLaw.of_quiet {s : State} (h : NoRiseWaits s)
    (hp : s.stop.path = .halting ∨ s.allRest = true) : RestLaw s := by
  refine ⟨h.atRest, fun _ => h, fun hq => ?_⟩
  obtain hp | hr := hp
  · rw [hp] at hq; simp at hq
  · exact s.allRest_iff.mp hr

/-- Law by law, zone by zone: at rest and with no rise waiting. -/
theorem brakeLaw_iff (s : State) : brakeLaw s ↔ (s.braking = true → ∀ z, s.inUse z = true →
    (s.zone z).atRest = true ∧ (s.zone z).risePending = false) := by
  simp only [brakeLaw, Zone.atRest_iff]

/-- An UNCONFIGURED node has no zone in use. -/
theorem State.inUse_configured {s : State} {z : ZoneId} (h : s.inUse z = true) : s.configured = true :=
  (Bool.and_eq_true_iff.mp h).1

namespace KeepsRest

theorem refl (s : State) : KeepsRest s s := ⟨id, id⟩

theorem trans {s t u : State} (h : KeepsRest s t) (k : KeepsRest t u) : KeepsRest s u :=
  ⟨k.brake ∘ h.brake, k.rest ∘ h.rest⟩

theorem foldl {α : Type} (f : State → α → State) (h : ∀ s a, KeepsRest s (f s a)) (as : List α)
    (s : State) : KeepsRest s (as.foldl f s) := by
  induction as generalizing s with
  | nil => exact refl s
  | cons a as ih => exact (h s a).trans (ih (f s a))

theorem of_unconfigured {s t : State} (h : t.configured = false) : KeepsRest s t := by
  have hu (z : ZoneId) (hz : t.inUse z = true) : False := by
    have hc := State.inUse_configured hz
    rw [h] at hc
    cases hc
  exact ⟨fun _ _ z hz => (hu z hz).elim, fun _ => ⟨fun z hz => (hu z hz).elim,
    fun _ z hz => (hu z hz).elim, fun _ z hz => (hu z hz).elim⟩⟩

end KeepsRest

/-! ### Operations that start no zone -/

/-- A zone at rest stays so, and no rise comes to wait. -/
structure Zone.Hushes (x y : Zone) : Prop where
  atRest : x.atRest = true → y.atRest = true
  quiet : x.risePending = false → y.risePending = false

theorem Zone.Hushes.refl (x : Zone) : x.Hushes x := ⟨id, id⟩

theorem Zone.brake_hushes (x : Zone) : x.Hushes x.brake := ⟨fun _ => rfl, fun _ => rfl⟩

theorem State.fallZone_hushes (s : State) (z : ZoneId) (x : Zone) : x.Hushes (s.fallZone z x) :=
  ⟨fun h => by rw [State.fallZone_rest h]; exact h, (s.fallZone_settles z x).quiet⟩

/-- No zone in use starts, and no rise of it comes to wait. -/
structure Hushes (s t : State) : Prop where
  inUse : ∀ z, t.inUse z = true → s.inUse z = true
  zone : ∀ z, t.inUse z = true → (s.zone z).Hushes (t.zone z)

namespace Hushes

variable {s t : State}

theorem brake (h : Hushes s t) (hb : t.braking = true → s.braking = true) (k : brakeLaw s) : brakeLaw t := by
  rw [brakeLaw_iff] at k ⊢
  intro hb' z hz
  obtain ⟨hr, hp⟩ := k (hb hb') z (h.inUse z hz)
  exact ⟨(h.zone z hz).atRest hr, (h.zone z hz).quiet hp⟩

theorem waits (h : Hushes s t) (k : RisesWaitAtRest s) : RisesWaitAtRest t := by
  intro z hz hp
  refine (h.zone z hz).atRest (k z (h.inUse z hz) ?_)
  by_contra hn
  rw [(h.zone z hz).quiet (by simpa using hn)] at hp
  cases hp

theorem quiet (h : Hushes s t) (k : NoRiseWaits s) : NoRiseWaits t :=
  fun z hz => (h.zone z hz).quiet (k z (h.inUse z hz))

theorem allRest (h : Hushes s t) (k : s.allRest = true) : t.allRest = true :=
  t.allRest_iff.mpr fun z hz => (h.zone z hz).atRest (s.allRest_iff.mp k z (h.inUse z hz))

/-- In a path state that stays, or that was one of rest already. -/
theorem rest (h : Hushes s t) (hp : t.stop.path = s.stop.path ∨
    s.stop.path ∈ [PathState.halted, .clearing, .ready]) (k : RestLaw s) : RestLaw t := by
  refine ⟨h.waits k.waits, fun hq => ?_, fun hq => ?_⟩
  · refine h.quiet (k.quiet ?_)
    obtain hp | hp := hp
    · rw [← hp]; exact hq
    · exact List.mem_cons_of_mem _ hp
  · have hp' : s.stop.path ∈ [PathState.halted, .clearing, .ready] := hp.elim (fun e => e ▸ hq) id
    exact t.allRest_iff.mp (h.allRest (s.allRest_iff.mpr (k.still hp')))

theorem keepsRest (h : Hushes s t) (hb : t.braking = s.braking) (hp : t.stop.path = s.stop.path) :
    KeepsRest s t := ⟨h.brake (by rw [hb]; exact id), h.rest (.inl hp)⟩

theorem of_same (h : SameZones s t) : Hushes s t :=
  ⟨fun z hz => h.inUse ▸ hz, fun z _ => by rw [h.zone]; exact .refl _⟩

theorem mapZones (s : State) {f : ZoneId → Zone → Zone} (hf : ∀ z (x : Zone), x.Hushes (f z x)) :
    Hushes s (s.mapZones f) :=
  ⟨fun _ => id, fun z _ => by rw [State.mapZones_zone]; exact hf z _⟩

theorem setZone (s : State) (z : ZoneId) {x : Zone} (hx : (s.zone z).Hushes x) : Hushes s (s.setZone z x) := by
  refine ⟨fun _ => id, fun y _ => ?_⟩
  by_cases hy : y = z
  · rw [hy, s.zone_setZone]; exact hx
  · rw [s.zone_setZone_ne x hy]; exact .refl _

end Hushes

theorem SameZones.aggregate {s t : State} (h : SameZones s t) : t.aggregate = s.aggregate := by
  simp only [State.aggregate, State.slotsInUse, h.cfg, h.configured, h.slots]

/-- What calls the zones to the brake is the configuration, the path state, the slots and the supply. -/
theorem State.braking_of_only {l : List Part} {s t : State} (h : changesOnly l s t)
    (hl : ∀ p ∈ l, p ∉ [Part.cfg, .stop, .tags, .supply] := by decide) : t.braking = s.braking := by
  have hn : ∀ p ∈ [Part.cfg, .stop, .tags, .supply], p ∉ l := fun p hp hpl => hl p hpl hp
  simp only [State.braking, State.aggregate, State.configured, State.slotsInUse, h.cfg (hn _ (by decide)),
    h.stop (hn _ (by decide)), h.tags (hn _ (by decide)), h.supply (hn _ (by decide))]

/-- The parts that the two laws read. -/
def restParts : List Part := [.cfg, .stop, .zones, .tags, .supply]

theorem SameZones.of_only {l : List Part} {s t : State} (h : changesOnly l s t)
    (hc : t.configured = s.configured) (hl : ∀ p ∈ l, p ∉ [Part.cfg, .zones, .tags] := by decide) :
    SameZones s t :=
  have hn : ∀ p ∈ [Part.cfg, .zones, .tags], p ∉ l := fun p hp hpl => hl p hpl hp
  ⟨h.zones (hn _ (by decide)), h.cfg (hn _ (by decide)), hc, by rw [h.tags (hn _ (by decide))]⟩

namespace KeepsRest

variable {s t : State}

theorem of_same (h : SameZones s t) (hs : t.supply = s.supply) (hp : t.stop.path = s.stop.path) :
    KeepsRest s t :=
  (Hushes.of_same h).keepsRest (by simp only [State.braking, h.aggregate, hs]) hp

/-- A change that leaves the path state, the zones and what calls them to the brake. -/
theorem of_path {l : List Part} (h : changesOnly l s t) (hp : t.stop.path = s.stop.path)
    (hl : ∀ p ∈ l, p ∉ [Part.cfg, .zones, .tags] := by decide) (hs : .supply ∉ l := by decide) :
    KeepsRest s t :=
  of_same (.of_only h (by simp only [State.configured, hp]) hl) (h.supply hs) hp

theorem of_only {l : List Part} (h : changesOnly l s t) (hl : ∀ p ∈ l, p ∉ restParts := by decide) :
    KeepsRest s t := by
  have hn : ∀ p ∈ restParts, p ∉ l := fun p hp hpl => hl p hpl hp
  have hstop : t.stop = s.stop := h.stop (hn _ (by decide))
  exact of_path h (by rw [hstop])
    (fun p hp hpz => hl p hp ((by decide : [Part.cfg, .zones, .tags] ⊆ restParts) hpz))
    (hn _ (by decide))

end KeepsRest

open KeepsRest (of_only)

/-! ### The zones and the drive chain -/

theorem State.brakeAll_hushes (s : State) : Hushes s s.brakeAll :=
  .mapZones s fun z x => by
    split
    · exact x.brake_hushes
    · exact .refl x

theorem State.fallAll_hushes (s : State) : Hushes s s.fallAll :=
  .mapZones s fun z x => by
    split
    · exact s.fallZone_hushes z x
    · exact .refl x

theorem State.restZones_hushes (s : State) : Hushes s s.restZones := by
  unfold State.restZones; split
  · exact s.brakeAll_hushes
  · exact s.fallAll_hushes

theorem State.releaseChain_rests (s : State) : KeepsRest s s.releaseChain := of_only s.releaseChain_only

theorem State.brakeAll_rests (s : State) : KeepsRest s s.brakeAll := s.brakeAll_hushes.keepsRest rfl rfl

/-- Behind a brake request every zone in use is braked (R87). -/
theorem State.brakeAll_brake (s : State) : brakeLaw s.brakeAll := fun _ z hz => by
  rw [State.brakeAll, State.mapZones_zone, if_pos (show s.inUse z = true from hz)]
  exact ⟨.inr rfl, rfl⟩

theorem State.restZones_rests (s : State) : KeepsRest s s.restZones :=
  s.restZones_hushes.keepsRest (State.braking_of_only s.restZones_only) (by rw [s.restZones_only.stop])

theorem State.fallAll_rests (s : State) : KeepsRest s s.fallAll := s.fallAll_hushes.keepsRest rfl rfl

/-- Behind a rest request no rise waits on a zone in use (R73, R86, R87). -/
theorem State.restZones_quiet {s : State} (h : RisesWaitAtRest s) : NoRiseWaits s.restZones := by
  intro z hz
  have hz' : s.inUse z = true := s.restZones_hushes.inUse z hz
  rw [State.restZones_zone hz']
  split
  · rfl
  · by_cases hr : (s.zone z).atRest = true
    · rw [State.fallZone_rest hr]
    · refine (s.fallZone_hushes z _).quiet ?_
      by_contra hp
      exact hr (h z hz' (by simpa using hp))

/-- Where the rises that wait begin, none waits any more. -/
theorem State.beginRises_quiet (s : State) : NoRiseWaits s.beginRises := fun z _ => by
  rw [s.beginRises_zone]
  split
  · rfl
  · next h => simpa using h

/-- The rises that wait begin (R80, R84): none waits where the brake or a halt forbids it. -/
theorem State.beginRises_rests (s : State) : KeepsRest s s.beginRises := by
  have stays (h : NoRiseWaits s) (z : ZoneId) (hz : s.inUse z = true) : s.beginRises.zone z = s.zone z := by
    rw [s.beginRises_zone, if_neg (by simp [h z hz])]
  refine ⟨fun k hb z hz => ?_, fun k => ⟨s.beginRises_quiet.atRest, fun _ => s.beginRises_quiet,
    fun hq z hz => ?_⟩⟩
  · have hn : NoRiseWaits s := fun z hz => (k hb z hz).2
    rw [stays hn z hz]
    exact k hb z hz
  · rw [stays (k.quiet (List.mem_cons_of_mem _ hq)) z hz]
    exact k.still hq z hz

theorem State.riseZone_brake (s : State) (z : ZoneId) (h : brakeLaw s) : brakeLaw (s.riseZone z) := by
  cases hb : s.braking with
  | true => rw [State.riseZone_dropped (.inl hb)]; exact h
  | false =>
    intro hb'
    rw [State.braking_of_only (s.riseZone_only z), hb] at hb'
    cases hb'

/-- A rise request leaves the rises that wait on zones at rest (R84, R85). -/
theorem State.riseZone_atRest (s : State) (z : ZoneId) (h : RisesWaitAtRest s) :
    RisesWaitAtRest (s.riseZone z) := by
  have hset {x : Zone} (hx : x.risePending = true → x.atRest = true) : RisesWaitAtRest (s.setZone z x) := by
    intro y hy hp
    by_cases hyz : y = z
    · rw [hyz, s.zone_setZone] at hp ⊢; exact hx hp
    · rw [s.zone_setZone_ne x hyz] at hp ⊢; exact h y hy hp
  have hpend (hr : (s.zone z).atRest = true) : RisesWaitAtRest (s.pendRise z) := by
    have hz := hset (x := { s.zone z with risePending := true }) fun _ => hr
    by_cases hf : s.chain.state = .failed
    · simp only [State.pendRise, hf]; exact h
    · obtain hs | hw := State.chain_cases hf
      · obtain ⟨c, -, hp⟩ := s.pendRise_supplied z hs
        rw [hp]; exact (State.beginRises_quiet _).atRest
      · obtain ⟨c, -, -, hp⟩ := s.pendRise_waits z hw
        rw [hp]; exact hz
  unfold State.riseZone; split
  · exact h
  · split
    · next hi => exact hpend (by simp [Zone.atRest, hi])
    · next hi => exact hpend (by simp [Zone.atRest, hi])
    · exact h
    · exact h
    · exact hset nofun

theorem State.riseAll_brake (s : State) (h : brakeLaw s) : brakeLaw s.riseAll :=
  State.riseZone_brake _ _ (State.riseZone_brake _ _ (s.riseZone_brake _ h))

theorem State.riseAll_atRest (s : State) (h : RisesWaitAtRest s) : RisesWaitAtRest s.riseAll :=
  State.riseZone_atRest _ _ (State.riseZone_atRest _ _ (s.riseZone_atRest _ h))

theorem State.riseAll_rests {s : State} (hp : s.stop.path ∉ haltedPaths) : KeepsRest s s.riseAll :=
  ⟨s.riseAll_brake, fun k => .of_moving (s.riseAll_atRest k.waits) (s.riseAll_only.stop ▸ hp)⟩

/-- The feed unit asks for rises in RUN alone (R141). -/
theorem State.feedTest_rests (s : State) : KeepsRest s s.feedTest := by
  have hb (t : State) (z : ZoneId) (h : brakeLaw t) : brakeLaw (t.wantZone z) := by
    unfold State.wantZone; split
    · exact t.riseZone_brake z h
    · exact h
  have hr (t : State) (z : ZoneId) (h : RisesWaitAtRest t) : RisesWaitAtRest (t.wantZone z) := by
    unfold State.wantZone; split
    · exact t.riseZone_atRest z h
    · exact h
  have ho := s.feedTest_only.stop
  unfold State.feedTest at ho ⊢; split
  · next h =>
    rw [if_pos h] at ho
    simp only [Bool.and_eq_true, beq_iff_eq] at h
    exact ⟨fun k => hb _ _ (hb _ _ (hb _ _ k)), fun k =>
      .of_moving (hr _ _ (hr _ _ (hr _ _ k.waits))) (by rw [ho, h.1.2]; decide)⟩
  · exact .refl s

/-! ### Entering a path state -/

theorem State.enter_hushes {s : State} (hc : s.configured = true) (p : PathState) : Hushes s (s.enter p) := by
  have ho := s.enter_only p
  refine ⟨fun z hz => ?_, fun z _ => by simp only [State.zone, ho.zones]; exact .refl _⟩
  simp only [State.inUse, State.present, State.stationCfg, ho.cfg, Bool.and_eq_true] at hz ⊢
  exact ⟨hc, hz.2⟩

theorem State.enter_braking {s : State} (hc : s.configured = true) (p : PathState)
    (hb : (s.enter p).braking = true) : s.braking = true := by
  have ho := s.enter_only p
  simp only [State.braking, State.aggregate, State.slotsInUse, ho.cfg, ho.tags, ho.supply,
    Bool.or_eq_true, Bool.and_eq_true] at hb ⊢
  exact hb.imp_left fun hb => ⟨hc, hb.2⟩

theorem State.enter_brake {s : State} (hc : s.configured = true) (p : PathState) (k : brakeLaw s) :
    brakeLaw (s.enter p) := (State.enter_hushes hc p).brake (State.enter_braking hc p) k

/-- A path state ahead of HALTING is entered. -/
theorem State.enter_moving {s : State} (hc : s.configured = true) {p : PathState} (hp : p ∉ haltedPaths) :
    KeepsRest s (s.enter p) :=
  ⟨State.enter_brake hc p, fun k => .of_moving ((State.enter_hushes hc p).waits k.waits)
    (by rw [s.enter_path]; exact hp)⟩

/-- A path state is entered from HALTED, CLEARING or READY. -/
theorem State.enter_rested {s : State} (hp : s.stop.path ∈ [PathState.halted, .clearing, .ready])
    (p : PathState) : KeepsRest s (s.enter p) := by
  have hc : s.configured = true := State.configured_of_ne fun h => by rw [h] at hp; simp at hp
  exact ⟨State.enter_brake hc p, (State.enter_hushes hc p).rest (.inr hp)⟩

theorem State.joinSite_rests (s : State) (c : Cause) (place sheet : Nat) :
    KeepsRest s (s.joinSite c place sheet) :=
  .of_path (s.joinSite_only c place sheet) (s.joinSite_path c place sheet)

theorem State.announceStance_rests (s : State) (st : Stance) : KeepsRest s (s.announceStance st) := by
  unfold State.announceStance; split
  · exact of_only (s.push_only _)
  · have h : KeepsRest s (s.withLine { s.line with txOverflow := true }) := of_only (s.withLine_only _)
    dsimp only; split
    · exact h.trans (State.joinSite_rests _ _ _ _)
    · exact h

/-- HALTED is entered with every zone in use at rest and no rise waiting (R74). -/
theorem State.enterHalted_rests {s : State} (hp : s.stop.path = .halting) (hr : s.allRest = true) :
    KeepsRest s s.enterHalted := by
  have hc : s.configured = true := State.configured_of_ne (by rw [hp]; decide)
  have H := State.enter_hushes hc .halted
  have henter : KeepsRest s (s.enter .halted) :=
    ⟨State.enter_brake hc _, fun k => .of_quiet (H.quiet (k.quiet (by rw [hp]; decide))) (.inr (H.allRest hr))⟩
  refine henter.trans <| (of_only (State.dropDelays_only _)).trans <|
    (State.announceStance_rests _ .halted).trans ?_
  have hpath : (((s.enter .halted).dropDelays).announceStance .halted).stop.path = .halted := by
    rw [State.announceStance_path]; exact s.enter_path _
  show KeepsRest _ (State.openedAtHalt _)
  unfold State.openedAtHalt; split
  · exact State.enter_rested (by rw [hpath]; decide) _
  · exact .refl _

/-- The entry to HALTING, from any configured path state (R73, R74). -/
theorem State.enterHalting_rests {s : State} (hc : s.configured = true) : KeepsRest s s.enterHalting := by
  have H := State.enter_hushes hc .halting
  have hpath : (s.enter .halting).restZones.stop.path = .halting := by
    rw [(State.restZones_only _).stop]; exact s.enter_path _
  have hzones : KeepsRest s (s.enter .halting).restZones :=
    ⟨(State.restZones_rests _).brake ∘ State.enter_brake hc _, fun k =>
      .of_quiet (State.restZones_quiet (H.waits k.waits)) (.inl hpath)⟩
  refine hzones.trans ?_
  show KeepsRest _ (State.haltTest _)
  unfold State.haltTest; split
  · exact State.enterHalted_rests hpath ‹_›
  · exact State.announceStance_rests _ _

theorem State.zonesChanged_rests (s : State) : KeepsRest s s.zonesChanged := by
  unfold State.zonesChanged; split
  · next h => exact State.enterHalted_rests h.1 h.2
  · exact s.releaseChain_rests

theorem State.enterHalting_flush {s : State} (hp : s.stop.path = .flush) : KeepsRest s s.enterHalting :=
  State.enterHalting_rests (State.configured_of_ne (by rw [hp]; decide))

theorem State.haltAheadTest_rests (s : State) : KeepsRest s s.haltAheadTest := by
  unfold State.haltAheadTest; split
  · next h => exact State.enterHalting_flush h.1
  · exact .refl s

theorem State.drainTest_rests (s : State) : KeepsRest s s.drainTest := by
  unfold State.drainTest; split
  · next h => exact State.enterHalting_flush h.1
  · exact .refl s

/-! ### A cause joins or begins a stop -/

theorem State.afterJoin_rests (s : State) (before : Option OwnCause) : KeepsRest s (s.afterJoin before) := by
  unfold State.afterJoin; split
  · exact State.enterHalting_flush ‹_›
  · split
    · exact s.brakeAll_rests.trans (State.zonesChanged_rests _)
    · exact .refl s

theorem State.joinStop_rests (s : State) (c : Cause) (place sheet : Nat) :
    KeepsRest s (s.joinStop c place sheet) :=
  (s.joinSite_rests c place sheet).trans (State.afterJoin_rests _ _)

theorem State.enterFlush_rests {s : State} (hc : s.configured = true) : KeepsRest s s.enterFlush := by
  have hannounce (t : State) : KeepsRest t t.announceFlush := by
    unfold State.announceFlush; split
    · exact of_only (t.push_only _)
    · exact (of_only (t.withLine_only _)).trans (State.joinStop_rests _ _ _ _)
  exact (State.enter_moving hc (by decide)).trans <| (hannounce _).trans <|
    (State.haltAheadTest_rests _).trans (State.drainTest_rests _)

/-- A stop start in any configured path state (R50). -/
theorem State.stopStart_rests {s : State} (hc : s.configured = true) (epoch : Nat) (x : Site) :
    KeepsRest s (s.stopStart epoch x) := by
  have hpath : (s.newStop epoch x).stop.path = s.stop.path := by rw [State.newStop_stop]
  have hconf : (s.newStop epoch x).configured = s.configured := by simp only [State.configured, hpath]
  have ho := s.newStop_only epoch x
  have hnew : KeepsRest s (s.newStop epoch x) :=
    .of_same ⟨ho.zones, ho.cfg, hconf, rfl⟩ (ho.supply) hpath
  refine hnew.trans ?_
  show KeepsRest _ (State.takeStance _ _)
  unfold State.takeStance; split
  · exact State.enterHalting_rests (hconf.trans hc)
  · exact State.enterFlush_rests (hconf.trans hc)

theorem State.startStop_rests {s : State} (hc : s.configured = true) (c : Cause) (place sheet : Nat) :
    KeepsRest s (s.startStop c place sheet) := by
  have hown : (s.ownCause c place sheet).stop.path = s.stop.path := by
    show (s.stop.setOwn c place sheet).path = _
    rw [StopUnit.setOwn_keeps]
  exact (KeepsRest.of_path (s.ownCause_only c place sheet) hown).trans <|
    (State.stopStart_rests (by rw [State.configured, hown]; exact hc) _ _).trans
      (of_only (State.jamcall_only _ _))

theorem State.raise_rests (s : State) (c : Cause) (place sheet : Nat) :
    KeepsRest s (s.raise c place sheet) := by
  unfold State.raise; split
  · split
    · next h => exact State.startStop_rests (State.configured_of_ne (by rw [h]; decide)) c place sheet
    · next h => exact State.startStop_rests (State.configured_of_ne (by rw [h]; decide)) c place sheet
    · exact s.joinStop_rests c place sheet
    · exact s.joinStop_rests c place sheet
    all_goals exact .refl s
  · exact .refl s

theorem State.raiseFrom_rests (s : State) (p : PathState) (c : Cause) (place sheet : Nat) :
    KeepsRest s (s.raiseFrom p c place sheet) := by
  unfold State.raiseFrom; split
  · exact s.joinSite_rests c place sheet
  · exact s.raise_rests c place sheet

theorem State.queueFrame_rests (s : State) (p : PathState) (f : Frame) : KeepsRest s (s.queueFrame p f) := by
  unfold State.queueFrame; split
  · exact of_only (s.push_only f)
  · exact (of_only (s.withLine_only _)).trans (State.raiseFrom_rests _ _ _ _ _)

/-! ### The tests that follow -/

theorem State.idleFallTest_rests (s : State) : KeepsRest s s.idleFallTest := by
  unfold State.idleFallTest; split
  · exact s.fallAll_rests.trans ((of_only (State.withTrack_only _ _)).trans (State.releaseChain_rests _))
  · exact .refl s

theorem State.leftTests_rests (s : State) : KeepsRest s s.leftTests :=
  s.drainTest_rests.trans ((State.idleFallTest_rests _).trans (State.feedTest_rests _))

theorem State.arrived_rests (s : State) : KeepsRest s s.arrived := by
  unfold State.arrived; split
  · next h => exact (State.riseAll_rests (by rw [h]; decide)).trans (of_only (State.withTrack_only _ _))
  · exact s.haltAheadTest_rests.trans (State.drainTest_rests _)

end Sys2Proof.Machine
end

section
/-! SUPPORT. What the operations of each unit keep of the zones at rest, in the order of the model. -/

namespace Sys2Proof.Machine

set_option Elab.async false

open KeepsRest (of_only)

/-! ### Gate and pulses -/

theorem State.makeClaim_rests (s : State) (sheet : Nat) : KeepsRest s (s.makeClaim sheet) := by
  unfold State.makeClaim; split
  · exact .refl s
  · split
    · exact .refl s
    · split
      · split
        · exact of_only (s.withGate_only _)
        · exact .refl s
      · split
        · exact s.raise_rests _ _ _
        · exact (of_only (s.withGate_only _)).trans <| (of_only (State.mapEntry_only _ _ _)).trans
            (of_only (State.gateService_only _))

theorem State.guardAtEdge_rests (s : State) (sheet : Nat) : KeepsRest s (s.guardAtEdge sheet) := by
  unfold State.guardAtEdge; split
  · exact s.raise_rests _ _ _
  · exact .refl s

theorem State.guardTests_rests (s : State) : KeepsRest s s.guardTests := by
  refine .foldl _ (fun t c => ?_) _ _
  split
  · exact t.raise_rests _ _ _
  · exact .refl t

theorem State.imageRule_rests (s : State) (sheet : Nat) : KeepsRest s (s.imageRule sheet) := by
  unfold State.imageRule; split
  · exact .refl s
  · split
    · exact (of_only (s.mapEntry_only _ _)).trans (State.haltAheadTest_rests _)
    · exact .refl s

theorem State.startPulse_rests (s : State) (p : PulseId) (d : PulseDelay) :
    KeepsRest s (s.startPulse p d) := by
  unfold State.startPulse; dsimp only; split
  · exact (of_only (s.setPulse_only _ _)).trans <| (of_only (State.mapEntry_only _ _ _)).trans
      (State.imageRule_rests _ _)
  · exact of_only (s.setPulse_only _ _)

theorem State.completeDelay_rests (s : State) (p : PulseId) : KeepsRest s (s.completeDelay p) := by
  unfold State.completeDelay; split
  · split
    · exact s.startPulse_rests _ _
    · exact .refl s
  · exact .refl s

theorem State.takeTrigger_rests (s : State) (p : PulseId) (a b sheet : Nat) :
    KeepsRest s (s.takeTrigger p a b sheet) := by
  unfold State.takeTrigger; split
  · exact s.raise_rests _ _ _
  · exact (of_only (s.setPulse_only _ _)).trans (State.completeDelay_rests _ _)

theorem State.trigger_rests (s : State) (p : PulseId) (a b sheet : Nat) :
    KeepsRest s (s.trigger p a b sheet) :=
  (s.completeDelay_rests p).trans (State.takeTrigger_rests _ _ _ _ _)

theorem State.stationTrigger_rests (s : State) (p : PulseId) (k : StationId) (edge : TriggerEdge)
    (r : SheetRecord) : KeepsRest s (s.stationTrigger p k edge r) := by
  unfold State.stationTrigger; dsimp only; split
  · exact s.trigger_rests _ _ _ _
  · exact .refl s

theorem State.edgeTriggers_rests (s : State) (k : StationId) (edge : TriggerEdge) (sheet : Nat) :
    KeepsRest s (s.edgeTriggers k edge sheet) := by
  unfold State.edgeTriggers; split
  · exact .refl s
  · exact (s.stationTrigger_rests _ _ _ _).trans (State.stationTrigger_rests _ _ _ _ _)

theorem State.endWidth_rests (s : State) (p : PulseId) : KeepsRest s (s.endWidth p) := by
  unfold State.endWidth; split
  · exact .refl s
  · exact (of_only (s.setPulse_only _ _)).trans (State.completeDelay_rests _ _)

/-! ### Delivery -/

theorem State.announce_rests (s : State) (p : PathState) (a : Announcement) :
    KeepsRest s (s.announce p a) := by
  unfold State.announce; split
  · exact of_only (s.withDeliv_only _)
  · exact s.raiseFrom_rests _ _ _ _

theorem State.compileSheet_rests (s : State) (p : PathState) (r : SheetRecord) :
    KeepsRest s (s.compileSheet p r) := by
  unfold State.compileSheet; split
  · exact s.raise_rests _ _ _
  · exact (of_only (s.withDeliv_only _)).trans <| (State.announce_rests _ _ _).trans
      (of_only (State.stapleTest_only _))

theorem State.takeRecord_rests (s : State) (p : PathState) (r : SheetRecord) :
    KeepsRest s (s.takeRecord p r) := by
  have hr (why : RejectReason) : KeepsRest s (s.reject r why) := of_only (s.reject_only r why)
  unfold State.takeRecord; split
  · exact hr _
  · split
    · exact s.announce_rests _ _
    · split
      · exact hr _
      · split
        · exact hr _
        · exact s.announce_rests _ _
    · split
      · exact hr _
      · split
        · exact hr _
        · exact s.compileSheet_rests _ _
    all_goals exact .refl s

theorem State.stapleDone_rests (s : State) : KeepsRest s s.stapleDone := by
  have h : KeepsRest s (s.endOp.withDeliv
      { s.endOp.deliv with compile := s.deliv.compile.drop s.deliv.stapleCount }) :=
    (of_only s.endOp_only).trans (of_only (State.withDeliv_only _ _))
  unfold State.stapleDone; dsimp only; split
  · exact h.trans (of_only (State.stapleTest_only _))
  · exact h.trans ((State.announce_rests _ _ _).trans (of_only (State.stapleTest_only _)))

/-! ### Edges -/

theorem State.removeEntry_rests (s : State) (sheet : Nat) : KeepsRest s (s.removeEntry sheet) :=
  (of_only (s.withTable_only _)).trans <| (of_only (State.leaveClaim_only _ _)).trans
    (State.leftTests_rests _)

theorem State.handOn_rests (s : State) (sheet : Nat) : KeepsRest s (s.handOn sheet) := by
  unfold State.handOn; split
  · exact .refl s
  · split
    · exact of_only (s.mapEntry_only _ _)
    · exact s.removeEntry_rests _

theorem State.sendPass_rests (s : State) (p : PathState) (e : Entry) : KeepsRest s (s.sendPass p e) :=
  (s.queueFrame_rests _ _).trans (State.handOn_rests _ _)

theorem State.claimAt_rests (s : State) (k : StationId) (sheet : Nat) :
    KeepsRest s (s.claimAt k sheet) := by
  unfold State.claimAt; split
  · exact s.makeClaim_rests _
  · exact .refl s

theorem State.imageAt_rests (s : State) (k : StationId) (sheet : Nat) :
    KeepsRest s (s.imageAt k sheet) := by
  unfold State.imageAt; split
  · exact s.imageRule_rests _
  · exact .refl s

theorem State.afterLead_rests (s : State) (k : StationId) (sheet : Nat) :
    KeepsRest s (s.afterLead k sheet) :=
  (s.claimAt_rests k sheet).trans <| (State.guardAtEdge_rests _ _).trans <|
    (State.edgeTriggers_rests _ _ _ _).trans <| (State.imageAt_rests _ _ _).trans <|
    (State.haltAheadTest_rests _).trans (State.leftTests_rests _)

theorem State.discardTests_rests (s : State) (l : List Arrival) : KeepsRest s (s.discardTests l) := by
  unfold State.discardTests; split
  · exact .refl s
  · exact s.leftTests_rests

theorem State.leadS1_rests (s : State) (p : PathState) : KeepsRest s (s.leadS1 p) := by
  unfold State.leadS1; split
  · exact (of_only (s.withTrack_only _)).trans (State.afterLead_rests _ _ _)
  · exact (of_only (s.withArrivals_only _)).trans (State.raiseFrom_rests _ _ _ _ _)
  · split
    · exact (of_only (s.withArrivals_only _)).trans (State.raise_rests _ _ _ _)
    · exact (of_only (s.withTrack_only _)).trans (State.discardTests_rests _ _)

theorem State.leadBeyond_rests (s : State) (k : StationId) : KeepsRest s (s.leadBeyond k) := by
  unfold State.leadBeyond; split
  · exact s.raise_rests _ _ _
  · exact (of_only (s.mapEntry_only _ _)).trans (State.afterLead_rests _ _ _)

theorem State.gapTest_rests (s : State) (k : StationId) (gap sheet : Nat) :
    KeepsRest s (s.gapTest k gap sheet) := by
  unfold State.gapTest; split
  · exact s.raise_rests _ _ _
  · exact .refl s

theorem State.matchLead_rests (s : State) (p : PathState) (k : StationId) :
    KeepsRest s (s.matchLead p k) := by
  unfold State.matchLead; split
  · exact s.leadS1_rests _
  all_goals exact s.leadBeyond_rests _

theorem State.leadingEdge_rests (s : State) (k : StationId) (still : Bool) :
    KeepsRest s (s.leadingEdge k still) :=
  (of_only (s.setStation_only _ _)).trans <| (State.gapTest_rests _ _ _ _).trans
    (State.matchLead_rests _ _ _)

theorem State.measure_rests (s : State) (k : StationId) (still : Bool) (e : Entry) :
    KeepsRest s (s.measure k still e) := by
  unfold State.measure; dsimp only; split
  · split
    · exact (of_only (s.storeLength_only _ _)).trans (State.raise_rests _ _ _ _)
    · exact of_only (s.storeLength_only _ _)
  · exact .refl s

theorem State.fixRule_rests (s : State) (k : StationId) (sheet : Nat) :
    KeepsRest s (s.fixRule k sheet) := by
  unfold State.fixRule; split
  · exact (of_only (s.mapEntry_only _ _)).trans (State.haltAheadTest_rests _)
  · exact .refl s

theorem State.heldPass_rests (s : State) (p : PathState) (sheet : Nat) :
    KeepsRest s (s.heldPass p sheet) := by
  unfold State.heldPass; split
  · exact .refl s
  · split
    · exact s.sendPass_rests _ _
    · exact .refl s

theorem State.turnRule_rests (s : State) (p : PathState) (k : StationId) (sheet : Nat) :
    KeepsRest s (s.turnRule p k sheet) := by
  unfold State.turnRule; split
  · split
    · exact .refl s
    · split
      · exact (of_only (s.mapEntry_only _ _)).trans (State.heldPass_rests _ _ _)
      · exact .refl s
  · exact .refl s

theorem State.atLast_rests (s : State) (p : PathState) (sheet : Nat) :
    KeepsRest s (s.atLast p sheet) := by
  unfold State.atLast; split
  · exact .refl s
  · split
    · exact (s.takeRecord_rests _ _).trans (State.removeEntry_rests _ _)
    · split
      · exact s.removeEntry_rests _
      · exact .refl s
      · split
        · exact s.removeEntry_rests _
        · exact .refl s

theorem State.endAt_rests (s : State) (p : PathState) (k : StationId) (sheet : Nat) :
    KeepsRest s (s.endAt p k sheet) := by
  unfold State.endAt; split
  · exact s.atLast_rests _ _
  · exact .refl s

theorem State.trailEffects_rests (s : State) (k : StationId) (still : Bool) (e : Entry) :
    KeepsRest s (s.trailEffects k still e) :=
  (of_only (s.passTrail_only _ _)).trans <| (State.measure_rests _ _ _ _).trans <|
    (State.fixRule_rests _ _ _).trans <| (of_only (State.clearClaim_only _ _ _)).trans <|
    (State.edgeTriggers_rests _ _ _ _).trans <| (State.turnRule_rests _ _ _ _).trans
    (State.endAt_rests _ _ _ _)

theorem State.endOrphan_rests (s : State) : KeepsRest s s.endOrphan :=
  (of_only (s.withOrphan_only _)).trans <| (State.raise_rests _ _ _ _).trans (State.leftTests_rests _)

theorem State.matchTrail_rests (s : State) (k : StationId) (still : Bool) :
    KeepsRest s (s.matchTrail k still) := by
  unfold State.matchTrail; split
  · exact s.endOrphan_rests
  · split
    · exact .refl s
    · exact (s.trailEffects_rests _ _ _).trans (of_only (State.holdStalls_only _ _))

theorem State.takeEdge_rests (s : State) (k : StationId) (still : Bool) :
    KeepsRest s (s.takeEdge k still) := by
  unfold State.takeEdge; split
  · exact s.leadingEdge_rests _ _
  · exact (of_only (s.setStation_only _ _)).trans <| (of_only (State.restartPace_only _ _)).trans <|
      (State.matchTrail_rests _ _ _).trans <| (of_only (State.gateClears_only _ _)).trans
      (State.feedTest_rests _)

/-! ### PASS -/

theorem State.passPoint_rests (s : State) (e : Entry) : KeepsRest s (s.passPoint e) := by
  unfold State.passPoint; split
  · exact of_only (s.mapEntry_only _ _)
  · exact s.sendPass_rests _ _

theorem State.announceArrival_rests (s : State) (p : PathState) (r : SheetRecord) (origin : Nat) :
    KeepsRest s (s.announceArrival p r origin) := by
  unfold State.announceArrival; dsimp only; split
  · exact (of_only (s.withArrivals_only _)).trans (State.arrived_rests _)
  · split
    · exact s.raiseFrom_rests _ _ _ _
    · exact (of_only (s.withArrivals_only _)).trans (State.arrived_rests _)

theorem State.adopt_rests (s : State) (r : SheetRecord) (origin hold : Nat) :
    KeepsRest s (s.adopt r origin hold) :=
  (of_only (s.withTrack_only _)).trans <| (State.claimAt_rests _ _ _).trans <|
    (State.imageAt_rests _ _ _).trans <| (State.haltAheadTest_rests _).trans (State.leftTests_rests _)

theorem State.takePass_rests (s : State) (r : SheetRecord) (origin : Nat) :
    KeepsRest s (s.takePass r origin) := by
  unfold State.takePass; split
  · exact .refl s
  · split
    · split
      · exact s.endOrphan_rests.trans (State.announceArrival_rests _ _ _ _)
      · split
        · exact s.adopt_rests _ _ _
        · exact (of_only (s.withOrphan_only _)).trans <| (State.raise_rests _ _ _ _).trans <|
            (State.leftTests_rests _).trans (State.announceArrival_rests _ _ _ _)
    · exact s.announceArrival_rests _ _ _

theorem State.passFrom_rests (s : State) (f : Frame) : KeepsRest s (s.passFrom f) := by
  unfold State.passFrom; split
  · exact .refl s
  · split
    · exact .refl s
    · split
      · exact of_only s.countStale_only
      · split
        · exact s.takePass_rests _ _
        · exact of_only s.countStale_only

/-! ### Feeding, and the tests of GO -/

theorem State.issuePage_rests (s : State) (d : PageDesc) : KeepsRest s (s.issuePage d) := by
  have h (t : State) (r : SheetRecord) : KeepsRest t (t.addPick r) := by
    unfold State.addPick; split
    · exact of_only (t.withArrivals_only _)
    · exact t.raise_rests _ _ _
  exact (of_only (s.withFeed_only _)).trans <| (h _ _).trans (State.trigger_rests _ _ _ _ _)

theorem State.repeatPasses_rests (s : State) (l : List Entry) : KeepsRest s (s.repeatPasses l) :=
  .foldl _ (fun t _ => t.queueFrame_rests _ _) l s

theorem State.returnHeld_rests (s : State) : KeepsRest s s.returnHeld :=
  (of_only (s.withTable_only _)).trans (State.repeatPasses_rests _ _)

theorem State.windowTests_rests (s : State) : KeepsRest s s.windowTests := by
  have ha : KeepsRest s s.arrivalTests := by
    refine .foldl _ (fun t a => ?_) _ _
    split
    · exact t.raise_rests _ _ _
    · exact .refl t
  have he (s : State) : KeepsRest s s.entryTests := by
    refine .foldl _ (fun t a => ?_) _ _
    split
    · exact t.raise_rests _ _ _
    · exact .refl t
  have hk (s : State) : KeepsRest s s.stallTests := by
    refine .foldl _ (fun t a => ?_) _ _
    split
    · exact t.raise_rests _ _ _
    · exact .refl t
  exact ha.trans ((he _).trans (hk _))

theorem State.interlockTest_rests (s : State) : KeepsRest s s.interlockTest := by
  unfold State.interlockTest; split
  · exact s.raiseFrom_rests _ _ _ _
  · split
    · exact s.raiseFrom_rests _ _ _ _
    · exact .refl s

theorem State.runTests_rests (s : State) : KeepsRest s s.runTests :=
  s.windowTests_rests.trans <| (State.interlockTest_rests _).trans <|
    (State.guardTests_rests _).trans <| (of_only (State.gateService_only _)).trans
    (State.feedTest_rests _)

/-! ### Tags and supply -/

theorem State.resendInputs_rests (s : State) : KeepsRest s s.resendInputs := by
  refine .foldl _ (fun t i => ?_) _ _
  split
  · exact t.queueFrame_rests _ _
  · exact .refl t

theorem State.interlocks_rests (s : State) (p : PathState) (l : List Nat) :
    KeepsRest s (s.interlocks p l) := .foldl _ (fun t _ => t.raiseFrom_rests _ _ _ _) l s

/-- The panel group's opening takes HALTED and READY to CLEARING (R116). -/
theorem State.groupOpens_rests (s : State) : KeepsRest s s.groupOpens := by
  have h : KeepsRest s s.surveyOpened := of_only s.surveyOpened_only
  have hstop := s.surveyOpened_stop
  unfold State.groupOpens; split
  · next hp => exact h.trans (State.enter_rested (by rw [hstop, hp]; decide) _)
  · next hp =>
    have hw := State.withdrawReady_only s.surveyOpened
    exact h.trans <| (of_only hw).trans (State.enter_rested (by rw [hw.stop, hstop, hp]; decide) _)
  · exact h.trans (of_only (State.withClear_only _ _))
  all_goals exact h

theorem State.openIf_rests (s : State) (b : Bool) : KeepsRest s (s.openIf b) := by
  unfold State.openIf; split
  · exact s.groupOpens_rests
  · exact .refl s

theorem State.markCycle_rests (s : State) : KeepsRest s s.markCycle := by
  unfold State.markCycle; split
  · exact .of_same ⟨rfl, rfl, rfl, rfl⟩ rfl rfl
  · exact .refl s

/-- The slots that a TAGSTATE sets leave the zones where they are, and where they assert the stop aggregate
the zones in use are braked (R108). -/
theorem State.hearTag_rests (s : State) (tag : Nat) (asserted : Bool) :
    KeepsRest s ((s.hearTag tag asserted).markCycle.brakeIf
      (!s.aggregate && (s.hearTag tag asserted).aggregate)) := by
  have hheard : Hushes s (s.hearTag tag asserted) := ⟨fun _ => id, fun _ _ => .refl _⟩
  have hmark := State.markCycle_rests (s.hearTag tag asserted)
  have hrest : RestLaw s → RestLaw (s.hearTag tag asserted).markCycle := hmark.rest ∘ hheard.rest (.inl rfl)
  unfold State.brakeIf; split
  · exact ⟨fun _ => State.brakeAll_brake _, (State.brakeAll_rests _).rest ∘ hrest⟩
  · next hnew =>
    refine ⟨hmark.brake ∘ hheard.brake fun hb => ?_, hrest⟩
    simp only [State.braking, Bool.or_eq_true] at hb ⊢
    refine hb.imp_left fun ha => ?_
    simpa [ha] using hnew

/-- A TAGSTATE that names a tag, in the order of its effects (R103, R105, R108, R116). -/
theorem State.tagChange_rests (s : State) (tag : Nat) (asserted : Bool) :
    KeepsRest s (s.tagChange tag asserted) :=
  (s.hearTag_rests tag asserted).trans <| (State.interlocks_rests _ _ _).trans <|
    (State.interlocks_rests _ _ _).trans <| (State.zonesChanged_rests _).trans <|
    (State.openIf_rests _ _).trans (State.feedTest_rests _)

theorem State.tagFrom_rests (s : State) (f : Frame) : KeepsRest s (s.tagFrom f) := by
  unfold State.tagFrom; dsimp only; split
  · exact of_only s.countStale_only
  · split
    · split
      · exact .refl s
      · exact s.resendInputs_rests
    · split
      · exact .refl s
      · exact s.tagChange_rests _ _

/-- A supply that turns low brakes the zones in use (R113). -/
theorem State.supplyTurns_rests (s : State) : KeepsRest s s.supplyTurns := by
  obtain ⟨u, hu⟩ : ∃ u, u = s.withSupply { ok := s.comparatorOk, hold := none } := ⟨_, rfl⟩
  have hturn : Hushes s u := hu ▸ ⟨fun _ => id, fun _ _ => .refl _⟩
  have hrest : RestLaw s → RestLaw u := hturn.rest (.inl (by rw [hu]; rfl))
  rw [State.supplyTurns, ← hu]
  split
  · next hok =>
    refine ⟨hturn.brake fun hb => ?_, hrest⟩
    simp only [State.braking, Bool.or_eq_true] at hb ⊢
    refine hb.imp (fun ha => ?_) fun hl => ?_
    · rw [hu] at ha; exact ha
    · rw [hu, State.withSupply_supply, hok] at hl; cases hl
  · have hbrake : KeepsRest s u.brakeAll :=
      ⟨fun _ => u.brakeAll_brake, u.brakeAll_rests.rest ∘ hrest⟩
    exact hbrake.trans <| (State.raise_rests _ _ _ _).trans (State.zonesChanged_rests _)

/-! ### STOPSTATE, and the line port -/

theorem State.stance_rests (s : State) (seg : Nat) (st : Stance) : KeepsRest s (s.stance seg st) := by
  have h : KeepsRest s (s.withStop (s.stop.setStance seg st)) :=
    .of_path (s.withStop_only _) (s.stop.setStance_path seg st)
  exact h.trans <| (of_only (State.unresolve_only _ _ _)).trans <|
    (State.haltAheadTest_rests _).trans (State.drainTest_rests _)

theorem State.stopstateFrom_rests (s : State) (f : Frame) : KeepsRest s (s.stopstateFrom f) := by
  unfold State.stopstateFrom; split
  · exact of_only s.countStale_only
  · split
    · exact of_only s.countStale_only
    · exact s.stance_rests _ _

theorem State.limitTest_rests (s : State) : KeepsRest s s.limitTest := by
  unfold State.limitTest; split
  · exact (of_only (s.withLine_only _)).trans (State.raise_rests _ _ _ _)
  · exact .refl s

theorem State.rxOverflows_rests (s : State) (p : PathState) : KeepsRest s (s.rxOverflows p) :=
  (of_only (s.withLine_only _)).trans (State.raiseFrom_rests _ _ _ _ _)

theorem State.receive_rests (s : State) (p : PathState) (f : Frame) : KeepsRest s (s.receive p f) := by
  unfold State.receive; split
  · exact of_only (s.withLine_only _)
  · exact s.rxOverflows_rests _

theorem State.sent_rests (s : State) (p : PathState) (f : Frame) : KeepsRest s (s.sent p f) := by
  have h : KeepsRest s (s.withLine
      { s.line.release with tx := s.line.tx.erase f, errorRun := 0 }) := of_only (s.withLine_only _)
  unfold State.sent; dsimp only; split
  · exact h.trans (State.receive_rests _ _ _)
  · split
    · exact h.trans ((State.rxOverflows_rests _ _).trans (of_only (State.goDropped_only _)))
    · exact h.trans (State.rxOverflows_rests _ _)

end Sys2Proof.Machine
end

section
/-! SUPPORT and the proof of StepKeepsZonesAtRest: what each command keeps of the zones at rest. -/

namespace Sys2Proof.Machine

set_option Elab.async false

open KeepsRest (of_only of_path)

/-! ### What a command keeps -/

section
variable {s u : State}

theorem Answers.rests {before : State} (h : KeepsRest s u) : Answers (KeepsRest s) (done before u) :=
  .next (h.trans (of_only (latchNew_only before u)))

theorem Answers.rests_same (s : State) : Answers (KeepsRest s) (.next s) := .next (.refl s)

theorem Answers.rests_decline (s : State) (why : Status) : Answers (KeepsRest s) (s.decline why) :=
  .next (of_only (s.answer_only _))

theorem Answers.rests_command {n : Nat} {act : Host.Outcome State Fault Refusal}
    (h : Answers (KeepsRest s) act) : Answers (KeepsRest s) (s.command n act) :=
  .ite (fun _ => .rests_same s) fun _ => .ite (fun _ => .rests_decline s _) fun _ => h

/-- A command that takes a frame and acts on it. -/
theorem Answers.rests_frame {k : FrameKind} {act : Frame → State → State}
    (h : ∀ f t, KeepsRest t (act f t)) :
    Answers (KeepsRest s) (match s.takeFrame k with
      | some (f, s1) => done s (act f s1)
      | none => .next s) := by
  split
  · exact .rests ((of_only (State.takeFrame_only ‹_›)).trans (h _ _))
  · exact .rests_same s

/-- A command that takes a DELIVER and acts on it. -/
theorem Answers.rests_deliver {p : Nat → Bool} {act : Frame → State → State}
    (h : ∀ f t, KeepsRest t (act f t)) :
    Answers (KeepsRest s) (match s.takeDeliver p with
      | some (f, s1) => done s (act f s1)
      | none => .next s) := by
  split
  · exact .rests ((of_only (State.takeDeliver_only ‹_›)).trans (h _ _))
  · exact .rests_same s

/-- A command whose frame leaves out what the laws read. -/
theorem exec_rests_of_frame (c : Instr) (s : State) (h : ∀ p ∈ mayChange c, p ∉ restParts) :
    Answers (KeepsRest s) (exec c s) := by
  intro t ht
  obtain ⟨u, hu, ho⟩ := exec_within c s
  cases hu.symm.trans ht
  exact of_only ho h

end

/-! ### Resets, configuration and START -/

/-- An unconfigured node alone takes a configuration item (R185). -/
theorem execConfigWrite_rests (item : ConfigItem) (v : ConfigValue) (s : State) :
    Answers (KeepsRest s) (execConfigWrite item v s) := by
  refine .ite (fun _ => .rests_same s) fun _ => .ite (fun _ => .rests_decline s _) fun _ =>
    .ite (fun _ => .rests_decline s _) fun hc => ?_
  split
  · exact .rests_decline s _
  · refine .next (.of_unconfigured ?_)
    rw [Bool.not_eq_true] at hc
    split <;> exact hc

/-- At START and RESTART every zone is IDLE with no rise waiting (R186, R187). -/
theorem State.startValues_rests (s : State) : KeepsRest s s.startValues := by
  have hz (z : ZoneId) : s.startValues.zone z = .reset := by cases z <;> rfl
  refine ⟨fun _ _ z _ => ?_, fun _ => .of_moving (fun z _ hp => ?_)
    (show PathState.idle ∉ haltedPaths by decide)⟩
  · rw [hz]; exact ⟨.inl rfl, rfl⟩
  · rw [hz] at hp; cases hp

theorem State.enterIdle_rests (s : State) (brake : Bool) : KeepsRest s (s.enterIdle brake) := by
  have hb (t : State) : KeepsRest t (t.brakeIf brake) := by
    unfold State.brakeIf; split
    · exact t.brakeAll_rests
    · exact .refl t
  exact s.startValues_rests.trans <| (State.markCycle_rests _).trans <| (hb _).trans <|
    (of_only (State.push_only _ _)).trans (State.resendInputs_rests _)

theorem execStart_rests (n : Nat) (s : State) : Answers (KeepsRest s) (execStart n s) := by
  refine .rests_command (.ite (fun _ => .rests_decline s _) fun _ => ?_)
  split
  · exact .next (of_only (s.answer_only _))
  · exact .rests ((s.enterIdle_rests _).trans (of_only (State.answer_only _ _)))

theorem execRestart_rests (n : Nat) (s : State) : Answers (KeepsRest s) (execRestart n s) :=
  .rests_command <| .ite (fun _ => .next <| (s.enterIdle_rests _).trans <|
    (of_only (State.withNotices_only _ _)).trans (of_only (State.answer_only _ _)))
    fun _ => .rests_decline s _

/-! ### Pages, streams and DELIVER -/

theorem State.queuesChanged_rests (s : State) (f : FeedUnit) (r : Reply) :
    KeepsRest s ((s.withFeed f).answer r).feedTest :=
  (of_only (s.withFeed_only f)).trans <| (of_only (State.answer_only _ r)).trans (State.feedTest_rests _)

theorem execPageSubmit_rests (data : List Byte) (s : State) :
    Answers (KeepsRest s) (execPageSubmit data s) := by
  refine .ite (fun _ => .rests_same s) fun _ => .ite (fun _ => .rests_decline s _) fun _ => ?_
  split
  · exact .rests_decline s _
  · exact .rests (s.queuesChanged_rests _ _)

theorem execStreamCancel_rests (stream n : Nat) (s : State) :
    Answers (KeepsRest s) (execStreamCancel stream n s) := by
  refine .rests_command ?_
  split
  · exact .rests_decline s _
  · exact .rests (s.queuesChanged_rests _ _)

theorem execStreamRelease_rests (stream n : Nat) (s : State) :
    Answers (KeepsRest s) (execStreamRelease stream n s) := by
  refine .rests_command ?_
  split
  · exact .rests_decline s _
  · exact .ite (fun _ => .rests (s.queuesChanged_rests _ _)) fun _ => .rests_decline s _

theorem State.deliverFinal_rests (s : State) (f : Frame) : KeepsRest s (s.deliverFinal f) := by
  unfold State.deliverFinal; split
  · exact .refl s
  · split
    · exact of_only s.countStale_only
    · split
      · exact (of_only (s.withFeed_only _)).trans (State.feedTest_rests _)
      · exact .refl s

theorem State.deliverCompiled_rests (s : State) (f : Frame) : KeepsRest s (s.deliverCompiled f) := by
  unfold State.deliverCompiled; split
  · exact of_only (s.withFeed_only _)
  · exact .refl s

theorem State.deliverPurge_rests (s : State) (f : Frame) : KeepsRest s (s.deliverPurge f) := by
  unfold State.deliverPurge; split
  · split
    · exact (of_only (s.withFeed_only _)).trans (State.feedTest_rests _)
    · exact .refl s
  · exact .refl s

theorem State.setclose_rests (s : State) (f : Frame) : KeepsRest s (s.setclose f) := by
  unfold State.setclose; dsimp only; split
  · exact .refl s
  · split
    · exact of_only s.countStale_only
    · split
      · exact of_only (s.withFeed_only _)
      · exact (of_only (s.withFeed_only _)).trans (State.feedTest_rests _)

/-! ### Edges, passing on and window tests -/

/-- A counted edge leaves the zone's state and its rise (R25, R88). -/
theorem State.countEdge_rests (s : State) (z : ZoneId) : KeepsRest s (s.countEdge z) :=
  ((Hushes.setZone s z (x := s.edgeZone z) ⟨id, id⟩).keepsRest rfl rfl).trans <|
    (of_only (State.withStations_only _ _)).trans <| (of_only (State.withTrack_only _ _)).trans <|
    (of_only (State.withPulses_only _ _)).trans (of_only (State.withFeed_only _ _))

theorem execEncoderCountedEdge_rests (z : ZoneId) (rising : Bool) (s : State) :
    Answers (KeepsRest s) (execEncoderCountedEdge z rising s) := by
  have h : KeepsRest s (s.setEnc z rising) := of_only (s.withPins_only _)
  exact .ite (fun _ => .rests (h.trans (State.countEdge_rests _ z))) fun _ => .next h

theorem execSensorRawChange_rests (k : StationId) (high : Bool) (s : State) :
    Answers (KeepsRest s) (execSensorRawChange k high s) := by
  have h : KeepsRest s (s.setSns k high) := of_only (s.withPins_only _)
  exact .ite
    (fun _ => .ite (fun _ => .rests (h.trans (State.takeEdge_rests _ _ _)))
      fun _ => .rests (h.trans (of_only (State.setStation_only _ _ _))))
    fun _ => .next h

theorem execPassPointReached_rests (i : Nat) (s : State) :
    Answers (KeepsRest s) (execPassPointReached i s) := by
  unfold execPassPointReached; split
  · exact .ite (fun _ => .rests (s.passPoint_rests _)) fun _ => .rests_same s
  · exact .rests_same s

theorem execDeferredPass_rests (i : Nat) (s : State) :
    Answers (KeepsRest s) (execDeferredPass i s) := by
  unfold execDeferredPass; split
  · exact .ite (fun _ => .rests (s.sendPass_rests _ _)) fun _ => .rests_same s
  · exact .rests_same s

theorem execLateAtStation_rests (i : Nat) (s : State) :
    Answers (KeepsRest s) (execLateAtStation i s) := by
  unfold execLateAtStation; split
  · exact .ite (fun _ => .rests (s.raise_rests _ _ _)) fun _ => .rests_same s
  · exact .rests_same s

theorem execLateAtS1_rests (i : Nat) (s : State) : Answers (KeepsRest s) (execLateAtS1 i s) := by
  unfold execLateAtS1; split
  · exact .ite (fun _ => .rests (s.raise_rests _ _ _)) fun _ => .rests_same s
  · exact .rests_same s

theorem execGateGuardFail_rests (i : Nat) (s : State) :
    Answers (KeepsRest s) (execGateGuardFail i s) := by
  unfold execGateGuardFail; split
  · exact .ite (fun _ => .rests (s.raise_rests _ _ _)) fun _ => .rests_same s
  · exact .rests_same s

/-! ### Feeding and the drive -/

theorem execIssue_rests (s : State) : Answers (KeepsRest s) (execIssue s) := by
  unfold execIssue; split
  · exact .rests (s.issuePage_rests _)
  · exact .rests_same s

theorem execRestTimerExpiry_rests (s : State) : Answers (KeepsRest s) (execRestTimerExpiry s) :=
  .ite (fun _ => .rests ((of_only (s.withFeed_only _)).trans (State.queueFrame_rests _ _ _)))
    fun _ => .rests_same s

/-- REST lets the zones fall and enters IDLE (R147). -/
theorem execRestTaken_rests (s : State) : Answers (KeepsRest s) (execRestTaken s) := by
  unfold execRestTaken; split
  · next f t ht =>
    have h : KeepsRest s t := of_only (State.takeFrame_only ht)
    refine .ite (fun hr => .rests (h.trans ?_)) fun _ => .rests h
    have hp : (t.fallAll.clearSites).stop.path = .run := by
      show t.stop.path = _
      rw [(State.takeFrame_only ht).stop, hr.1]
    have hclear : KeepsRest t (t.fallAll.clearSites) :=
      t.fallAll_rests.trans (of_path (State.clearSites_only _) rfl)
    exact hclear.trans <| (State.enter_moving (State.configured_of_ne (by rw [hp]; decide))
      (by decide)).trans (of_only (State.dropDelays_only _))
  · exact .rests_same s

theorem execDrdyPresent_rests (s : State) : Answers (KeepsRest s) (execDrdyPresent s) := by
  have h : KeepsRest s (s.setDrdy true) := of_only (s.withPins_only _)
  exact .ite (fun _ => .rests <| h.trans <| (of_only (State.withChain_only _ _)).trans <|
    (State.beginRises_rests _).trans (State.feedTest_rests _)) fun _ => .next h

theorem State.chainFails_rests (s : State) : KeepsRest s s.chainFails :=
  (of_only (s.withChain_only _)).trans <| (State.raise_rests _ _ _ _).trans (State.zonesChanged_rests _)

theorem State.withdrawRises_rests (s : State) : KeepsRest s s.withdrawRises :=
  (Hushes.mapZones s (f := fun _ x => { x with risePending := false })
    fun _ _ => ⟨id, fun _ => rfl⟩).keepsRest rfl rfl

theorem execReadyTimerExpiry_rests (s : State) : Answers (KeepsRest s) (execReadyTimerExpiry s) :=
  .ite (fun _ => .rests <| s.withdrawRises_rests.trans <| (of_only (State.withChain_only _ _)).trans
    (State.chainFails_rests _)) fun _ => .rests_same s

theorem State.brakeMoving_rests (s : State) : KeepsRest s s.brakeMoving :=
  (Hushes.mapZones s fun z x => by
    split
    · exact x.brake_hushes
    · exact .refl x).keepsRest rfl rfl

theorem execDrdyLost_rests (s : State) : Answers (KeepsRest s) (execDrdyLost s) := by
  have h : KeepsRest s (s.setDrdy false) := of_only (s.withPins_only _)
  exact .ite
    (fun _ => .ite
      (fun _ => .rests (h.trans ((State.brakeMoving_rests _).trans (State.chainFails_rests _))))
      fun _ => .rests (h.trans (of_only (State.withChain_only _ _))))
    fun _ => .next h

/-- A profile step is one of a zone that moves, on which no rise waits (R84, R85, R86). -/
theorem State.stepZone_rests {s : State} {z : ZoneId} (h : s.stepRuns z = true) :
    KeepsRest s (s.setZone z (s.stepZone z (s.zone z))) := by
  obtain ⟨-, hs⟩ := (s.stepRuns_iff z).mp h
  have hm : (s.zone z).atRest = false := by
    simp only [List.mem_cons, List.not_mem_nil, or_false] at hs
    obtain hs | hs := hs <;> simp [Zone.atRest, hs]
  have hp : (s.stepZone z (s.zone z)).risePending = (s.zone z).risePending := by
    unfold State.stepZone; dsimp only; split
    · rfl
    · split <;> rfl
    all_goals rfl
  have hx : (s.zone z).Hushes (s.stepZone z (s.zone z)) :=
    ⟨fun hr => absurd hr (by rw [hm]; decide), fun hq => hp.trans hq⟩
  exact (Hushes.setZone s z hx).keepsRest rfl rfl

theorem execZoneStep_rests (z : ZoneId) (s : State) : Answers (KeepsRest s) (execZoneStep z s) := by
  refine .ite (fun h => ?_) fun _ => .rests_same s
  have hs := (State.stepZone_rests h).trans (State.zonesChanged_rests _)
  dsimp only; split
  · exact .rests (hs.trans (State.feedTest_rests _))
  · exact .rests hs

theorem State.silence_rests (s : State) (p : PathState) (z : ZoneId) : KeepsRest s (s.silence p z) := by
  have hz : (s.zone z).Hushes { s.zone z with silenceTimer := s.silenceTime z, silenceStopped := true } :=
    ⟨id, id⟩
  exact ((Hushes.setZone s z hz).keepsRest rfl rfl).trans (State.raiseFrom_rests _ _ _ _ _)

/-! ### Tags, supply and the line -/

theorem State.setInput_rests (s : State) (i : InputId) (x : Input) : KeepsRest s (s.setInput i x) :=
  .of_same ⟨rfl, rfl, rfl, rfl⟩ rfl rfl

theorem execInputPinChange_rests (i : InputId) (high : Bool) (s : State) :
    Answers (KeepsRest s) (execInputPinChange i high s) := by
  have h : KeepsRest s (s.setInp i high) := of_only (s.withPins_only _)
  exact .ite (fun _ => .next (h.trans (State.setInput_rests _ i _))) fun _ => .next h

theorem execTagHoldExpiry_rests (i : InputId) (s : State) :
    Answers (KeepsRest s) (execTagHoldExpiry i s) :=
  .ite (fun _ => .rests ((s.setInput_rests i _).trans (State.queueFrame_rests _ _ _)))
    fun _ => .rests_same s

/-- The supply monitor's hold timer calls for no brake (R112). -/
theorem State.superviseSupply_rests (s : State) : KeepsRest s s.superviseSupply :=
  (Hushes.of_same (s := s) (t := s.superviseSupply) ⟨rfl, rfl, rfl, rfl⟩).keepsRest rfl rfl

theorem execVsenseChange_rests (v : Nat) (s : State) :
    Answers (KeepsRest s) (execVsenseChange v s) := by
  have h : KeepsRest s (s.withPins { s.pins with vsense := v }) := of_only (s.withPins_only _)
  exact .ite (fun _ => .next (h.trans (State.superviseSupply_rests _))) fun _ => .next h

theorem execTransmitError_rests (s : State) : Answers (KeepsRest s) (execTransmitError s) := by
  unfold execTransmitError; split
  · exact .rests_same s
  · exact .rests (s.limitTest_rests.trans (of_only (State.withLine_only _ _)))

theorem execFrameSent_rests (s : State) : Answers (KeepsRest s) (execFrameSent s) := by
  unfold execFrameSent; split
  · exact .rests_same s
  · exact .rests (s.limitTest_rests.trans (State.sent_rests _ _ _))

theorem execFrameReceived_rests (bits : List Bool) (s : State) :
    Answers (KeepsRest s) (execFrameReceived bits s) := by
  refine .ite (fun _ => ?_) fun _ => .rests_same s
  split
  · exact .next (of_only s.countCrc_only)
  · exact .next (of_only s.countStale_only)
  · exact .rests (s.receive_rests _ _)

/-! ### Survey, READY and the finisher -/

/-- A survey is made in HALTED and CLEARING, and leaves the zones (R115, R118). -/
theorem execSurveyStart_rests (s : State) : Answers (KeepsRest s) (execSurveyStart s) := by
  refine .ite (fun h => .rests ?_) fun _ => .rests_same s
  have he : KeepsRest s s.enterClearing := by
    unfold State.enterClearing; split
    · next hp => exact State.enter_rested (by rw [hp]; decide) _
    · exact .refl s
  exact he.trans <| (of_only (State.withOrphan_only _ _)).trans <| (of_only (State.withClear_only _ _)).trans
    (of_only (State.surveyForm_only _))

theorem State.opDone_rests (s : State) : KeepsRest s s.opDone := by
  unfold State.opDone; split
  · exact .refl s
  · exact s.stapleDone_rests
  · split
    · exact of_only s.voidDone_only
    · exact of_only s.opFailed_only

theorem execFdone_rests (high : Bool) (s : State) : Answers (KeepsRest s) (execFdone high s) := by
  have h : KeepsRest s (s.setFdone high) := of_only (s.withPins_only _)
  exact .ite (fun _ => .rests (h.trans (State.opDone_rests _))) fun _ => .next h

/-- READY is entered from CLEARING, to which a survey in hand belongs (R114, R125). -/
theorem State.announceReady_rests {s : State} (hs : surveyLaw s) (h : s.readyDue = true) :
    KeepsRest s s.announceReady := by
  have hp : s.stop.path = .clearing := hs (by
    simp only [State.readyDue, Bool.and_eq_true, beq_iff_eq] at h
    rw [h.1.1.1.1]; decide)
  obtain ⟨u, hu⟩ : ∃ u : State, u = ((s.push (s.readyFrame false)).withClear
    { s.clear with phase := .noSurvey }).withStop { s.stop with own := none } := ⟨_, rfl⟩
  have hsu : KeepsRest s u := hu ▸ .of_same ⟨rfl, rfl, rfl, rfl⟩ rfl rfl
  have hup : u.stop.path = .clearing := by rw [hu]; exact hp
  have ht : s.announceReady = (u.enter .ready).planTest := by rw [hu]; rfl
  rw [ht]
  exact hsu.trans <| (State.enter_rested (by rw [hup]; decide) _).trans (of_only (State.planTest_only _))

theorem execReadyQueued_rests {s : State} (hs : surveyLaw s) :
    Answers (KeepsRest s) (execReadyQueued s) :=
  .ite (fun _ => .ite
      (fun _ => .rests ((of_only (s.push_only _)).trans (of_only (State.withClear_only _ _))))
      fun _ => .ite (fun h => .rests (State.announceReady_rests hs h)) fun _ => .rests_same s)
    fun _ => .rests_same s

/-! ### GO and JAMCALL -/

/-- RUN is entered with the rises asked for, and its tests follow (R129, R130). -/
theorem State.enterRun_rests {s : State} (hc : s.configured = true) : KeepsRest s s.enterRun := by
  obtain ⟨v, hv⟩ : ∃ v : State, v = (s.emptyBinds.clearSites).restartGaps.planGo := ⟨_, rfl⟩
  have hsv : KeepsRest s v := by
    rw [hv]
    exact (of_only (s.withClear_only _)).trans <| (of_path (State.clearSites_only _) rfl).trans <|
      (of_only (State.restartGaps_only _)).trans (of_only (State.planGo_only _))
  have hstop : v.stop.path = s.stop.path := by
    rw [hv, (State.planGo_only _).stop, (State.restartGaps_only _).stop]; rfl
  have hconf : v.riseAll.configured = true := by
    rw [State.configured, v.riseAll_only.stop, hstop]; exact hc
  have hrise : KeepsRest v (v.riseAll.enter .run) :=
    ⟨State.enter_brake hconf _ ∘ v.riseAll_brake, fun k => .of_moving
      ((State.enter_hushes hconf _).waits (v.riseAll_atRest k.waits)) (by rw [State.enter_path]; decide)⟩
  rw [State.enterRun, ← hv]
  exact hsv.trans <| hrise.trans <| (of_only (State.resolveArrivals_only _)).trans (State.runTests_rests _)

theorem State.go_rests {s : State} (hc : s.configured = true) : KeepsRest s s.go := by
  unfold State.go; split
  · exact State.enterRun_rests hc
  · exact State.startStop_rests hc _ _ _

theorem State.goReady_rests {s : State} (hp : s.stop.path = .ready) : KeepsRest s s.goReady := by
  have hc : s.configured = true := State.configured_of_ne (by rw [hp]; decide)
  unfold State.goReady; split
  · refine s.returnHeld_rests.trans (State.enterRun_rests ?_)
    rw [State.configured, State.returnHeld_ready hp]; exact hc
  · exact State.startStop_rests hc _ _ _

theorem State.goCurrent_rests (s : State) : KeepsRest s s.goCurrent := by
  have hstart (hp : s.stop.path ≠ .unconfigured) : KeepsRest s (s.startStop .notready 0 0) :=
    State.startStop_rests (State.configured_of_ne hp) _ _ _
  unfold State.goCurrent; split
  · next hp =>
    exact (of_only s.openPace_only).trans (State.goReady_rests (s.openPace_only.stop ▸ hp))
  · next hp => exact hstart (by rw [hp]; decide)
  · next hp => exact hstart (by rw [hp]; decide)
  · exact of_only s.countStale_only
  · exact of_only s.countStale_only
  all_goals exact .refl s

theorem State.goFrom_rests (s : State) (f : Frame) : KeepsRest s (s.goFrom f) := by
  unfold State.goFrom; split
  · next hp =>
    have he : KeepsRest s (s.withStop { s.stop with epoch := f.epoch }) := of_path (s.withStop_only _) rfl
    exact he.trans <| (of_only (State.openPace_only _)).trans <|
      State.go_rests (State.configured_of_ne
        (by rw [(State.openPace_only _).stop]; show s.stop.path ≠ _; rw [hp]; decide))
  · split
    · exact s.goCurrent_rests
    · exact of_only s.countStale_only

theorem execJamcallTaken_rests (s : State) : Answers (KeepsRest s) (execJamcallTaken s) := by
  unfold execJamcallTaken; split
  · next f t ht =>
    have ho := State.takeFrame_only ht
    obtain ⟨_, hfront, -⟩ := State.takeFrame_front ht
    have hc : t.configured = true := by rw [State.configured, ho.stop]; exact hfront.configured
    refine .rests ((of_only ho).trans ?_)
    unfold State.jamcallFrom; split
    · exact of_only t.countStale_only
    · next x _ =>
      split
      · exact (of_path (t.withStop_only _) (t.stop.addSite_path x)).trans (State.haltAheadTest_rests _)
      · exact State.stopStart_rests hc _ _
  · exact .rests_same s

/-! ### Every command and every step -/

/-- Every command keeps both laws, where a survey in hand is a matter of CLEARING. -/
theorem exec_rests (c : Instr) {s : State} (hs : surveyLaw s) : Answers (KeepsRest s) (exec c s) := by
  cases c with
  | powerOnReset => exact .next (.of_unconfigured rfl)
  | resetnLow => exact .next (.of_unconfigured rfl)
  | configWrite item v => exact execConfigWrite_rests item v s
  | start n => exact execStart_rests n s
  | restart n => exact execRestart_rests n s
  | readCounters n => exact .rests_command (.next (.of_same ⟨rfl, rfl, rfl, rfl⟩ rfl rfl))
  | pageSubmit data => exact execPageSubmit_rests data s
  | streamCancel stream n => exact execStreamCancel_rests stream n s
  | streamRelease stream n => exact execStreamRelease_rests stream n s
  | encoderCountedEdge z rising => exact execEncoderCountedEdge_rests z rising s
  | sensorRawChange k high => exact execSensorRawChange_rests k high s
  | filterCountComplete k => exact .ite (fun _ => .rests (s.takeEdge_rests _ _)) fun _ => .rests_same s
  | stillEdge k => exact .ite (fun _ => .rests (s.takeEdge_rests _ _)) fun _ => .rests_same s
  | passPointReached i => exact execPassPointReached_rests i s
  | deferredPass i => exact execDeferredPass_rests i s
  | lateAtStation i => exact execLateAtStation_rests i s
  | lateAtS1 i => exact execLateAtS1_rests i s
  | stall k => exact .ite (fun _ => .rests (s.raise_rests _ _ _)) fun _ => .rests_same s
  | orphanHoldExpiry => exact .ite (fun _ => .rests s.endOrphan_rests) fun _ => .rests_same s
  | gateGuardFail i => exact execGateGuardFail_rests i s
  | pulseDelayComplete p => exact .rests (s.completeDelay_rests p)
  | pulseWidthEnd p => exact .rests (s.endWidth_rests p)
  | paceGapReached => exact .ite (fun _ => .rests s.feedTest_rests) fun _ => .rests_same s
  | issue => exact execIssue_rests s
  | restTimerExpiry => exact execRestTimerExpiry_rests s
  | restTaken => exact execRestTaken_rests s
  | drdyPresent => exact execDrdyPresent_rests s
  | readyTimerExpiry => exact execReadyTimerExpiry_rests s
  | drdyLost => exact execDrdyLost_rests s
  | zoneStep z => exact execZoneStep_rests z s
  | silenceTimeout z =>
    exact .ite (fun _ => .rests (.foldl _ (fun t y => t.silence_rests _ y) _ s)) fun _ => .rests_same s
  | inputPinChange i high => exact execInputPinChange_rests i high s
  | tagHoldExpiry i => exact execTagHoldExpiry_rests i s
  | vsenseChange v => exact execVsenseChange_rests v s
  | supplyHoldExpiry => exact .ite (fun _ => .rests s.supplyTurns_rests) fun _ => .rests_same s
  | fdone high => exact execFdone_rests high s
  | jamcallTaken => exact execJamcallTaken_rests s
  | stopstateTaken => exact .rests_frame fun f t => t.stopstateFrom_rests f
  | tagstateTaken => exact .rests_frame fun f t => t.tagFrom_rests f
  | passTaken => exact .rests_frame fun f t => t.passFrom_rests f
  | goTaken => exact .rests_frame fun f t => t.goFrom_rests f
  | setcloseTaken => exact .rests_frame fun f t => t.setclose_rests f
  | deliverFinal => exact .rests_deliver fun f t => t.deliverFinal_rests f
  | deliverCompiled => exact .rests_deliver fun f t => t.deliverCompiled_rests f
  | deliverPurge => exact .rests_deliver fun f t => t.deliverPurge_rests f
  | surveyStart => exact execSurveyStart_rests s
  | readyQueued => exact execReadyQueued_rests hs
  | transmitError => exact execTransmitError_rests s
  | errorLimitReached => exact .ite (fun _ => .rests s.limitTest_rests) fun _ => .rests_same s
  | frameSent => exact execFrameSent_rests s
  | frameReceived bits => exact execFrameReceived_rests bits s
  | configRead | read | noticeRead | noticeClear | noticeSetup | startGo | operationTimeout
  | announcementQueued | reportTaken | readyTaken | planFrameQueued | planGoQueued | planPurge | planBind
  | reportQueued | frameTransmitStart | arbitrationLost | frameCutShort =>
    exact exec_rests_of_frame _ s (by simp [mayChange, restParts])

theorem State.tickZone_hushes (s : State) (z : ZoneId) (x : Zone) : x.Hushes (s.tickZone z x) := ⟨id, id⟩

/-- 1 ms moves timers alone. -/
theorem State.tick_rests (s : State) : KeepsRest s s.tick := by
  by_cases hr : s.pins.resetn = true
  · rw [State.tick_runs hr]
    refine Hushes.keepsRest ⟨fun _ => id, fun z _ => ?_⟩ ?braking ?path
    case braking | path => rfl
    cases z
    · exact s.tickZone_hushes .z1 s.zones.a
    · exact s.tickZone_hushes .z2 s.zones.b
    · exact s.tickZone_hushes .z3 s.zones.c
  · rw [State.tick, if_pos (by simpa using hr)]
    exact .refl s

theorem step_rests {s : State} (hs : surveyLaw s) : Answers (KeepsRest s) (step s) := by
  unfold step; split
  · next c rest _ =>
    exact (exec_rests c (s := s.withPending rest) hs).mono fun _ h => (of_only (s.withPending_only rest)).trans h
  · split
    · exact exec_rests _ hs
    · exact .next s.tick_rests

/-- Settles O7, by what each command keeps: an operation starts a zone only where the brake is not called for
and the node is not on its way to rest, and HALTED is entered with every zone at rest. -/
theorem stepKeepsZonesAtRest : Obligations.StepKeepsZonesAtRest := by
  unfold Obligations.StepKeepsZonesAtRest
  intro s t hs ht
  have h := step_rests hs t ht
  exact ⟨h.brake, h.rest⟩

end Sys2Proof.Machine
end

section
/-! SUPPORT. The slots in use, by number, and the readings made of them (R102, R104, R105, R107 to R110). -/

namespace Sys2Proof.Machine

set_option Elab.async false

/-! ### The slots in use -/

/-- A slot as the tag unit reads it: its number 1 to 8, its items and its value. -/
def State.slotAt (s : State) (n : Fin 8) : Nat × SlotCfg × SlotValue :=
  (n.val + 1, s.cfg.slots.get n, s.tags.slots.get n)

/-- The indices of the slots in use, in order. -/
def State.usedSlots (s : State) : List (Fin 8) :=
  (List.finRange 8).filter fun n => (s.cfg.slots.get n).tag != 0

theorem State.mem_usedSlots (s : State) (n : Fin 8) :
    n ∈ s.usedSlots ↔ (s.cfg.slots.get n).tag ≠ 0 := by
  simp [State.usedSlots]

theorem State.slotsInUse_eq (s : State) : s.slotsInUse = s.usedSlots.map s.slotAt := by
  have hzip : (List.range 8).zip (s.cfg.slots.toList.zip s.tags.slots.toList) =
      (List.finRange 8).map fun n => (n.val, s.cfg.slots.get n, s.tags.slots.get n) := by
    refine List.ext_getElem (by simp) fun i h1 h2 => ?_
    simp [Vector.get]
  rw [State.slotsInUse, hzip, State.usedSlots]
  induction List.finRange 8 with
  | nil => rfl
  | cons n l ih =>
    rw [List.map_cons, List.filterMap_cons, ih, List.filter_cons]
    by_cases h : (s.cfg.slots.get n).tag = 0 <;> simp [h, State.slotAt]

/-- A reading that some slot in use makes true. -/
theorem State.anySlot_iff (s : State) (p : SlotCfg → SlotValue → Bool) :
    (s.slotsInUse.any fun (_, c, v) => p c v) = true ↔ ∃ n : Fin 8, (s.cfg.slots.get n).tag ≠ 0 ∧
      p (s.cfg.slots.get n) (s.tags.slots.get n) = true := by
  simp only [s.slotsInUse_eq, List.any_map, List.any_eq_true, s.mem_usedSlots]
  rfl

/-- A media class is ready while a slot of its trays reads ASSERTED (R109). -/
theorem State.trayReady_iff (s : State) (m : Fin 4) : s.trayReady m = true ↔
    ∃ n : Fin 8, (s.cfg.slots.get n).tag ≠ 0 ∧ (s.cfg.slots.get n).tray.get m = true ∧
      s.tags.slots.get n = .asserted := by
  rw [State.trayReady, s.anySlot_iff fun c v => c.tray.get m && v == .asserted]
  simp

section
variable {s : State} (hc : s.configured = true)
include hc

theorem State.groupOpen_iff : s.groupOpen = true ↔ ∃ n : Fin 8, (s.cfg.slots.get n).tag ≠ 0 ∧
    (s.cfg.slots.get n).panel = true ∧ s.tags.slots.get n ≠ .asserted := by
  rw [State.groupOpen, hc, Bool.true_and, s.anySlot_iff panelSlotOpen]
  simp [panelSlotOpen]

theorem State.aggregate_iff : s.aggregate = true ↔ ∃ n : Fin 8, (s.cfg.slots.get n).tag ≠ 0 ∧
    (s.cfg.slots.get n).stop = true ∧ s.tags.slots.get n ≠ .clear := by
  rw [State.aggregate, hc, Bool.true_and, s.anySlot_iff stopSlotAsserted]
  simp [stopSlotAsserted]

theorem State.forwards_iff (f : Forward) : s.forwards f = true ↔ ∃ n : Fin 8,
    (s.cfg.slots.get n).tag ≠ 0 ∧ (s.cfg.slots.get n).forward = f ∧
      s.tags.slots.get n = .asserted := by
  rw [State.forwards, hc, Bool.true_and, s.anySlot_iff fun c v => c.forward == f && v == .asserted]
  simp

end

end Sys2Proof.Machine
end

section
/-! SUPPORT and the proof of FeedUnitStartsAndRests. -/

namespace Sys2Proof.Machine

set_option Elab.async false

/-! ### The candidate and the transmit queue -/

theorem IsCandidate.candidate {s : State} {d : PageDesc} {f : FeedUnit} (h : IsCandidate s d f) :
    s.feed.candidate = some d := by
  have hq (x : PageDesc) : (!s.feed.faulted x.stream) = true ↔ s.feed.faulted x.stream = false :=
    by rw [Bool.not_eq_true']
  unfold FeedUnit.candidate
  obtain ⟨front, back, hf, -⟩ | ⟨hnone, front, back, hf, -⟩ := h
  · rw [hf.find? hq]; rfl
  · have hresume : (s.feed.resume.find? fun x => !s.feed.faulted x.stream) = none :=
      List.find?_eq_none.mpr fun x hx => by simp [hnone x hx]
    rw [hresume, hf.find? hq]; rfl

/-- A frame of class 2 to 6 has a place with fewer than 14 frames queued (R180). -/
theorem LineUnit.open_iff {l : LineUnit} {c : Nat} (hc : 1 < c) : l.open c = true ↔ l.tx.length < 14 := by
  simp [LineUnit.open, Nat.not_le.mpr hc, txOpenCap]

theorem State.queueFrame_open {s : State} (p : PathState) {f : Frame} {k : FrameKind} (hf : f.kind = k)
    (h : s.line.tx.length < 14) (hk : 1 < k.cls := by decide) : s.queueFrame p f = s.push f :=
  if_pos ((LineUnit.open_iff (by rw [hf]; exact hk)).mpr h)

/-- Without a place a frame is lost with LINE, the first cause of its command (R181). -/
theorem State.queueFrame_full {s : State} {f : Frame} {k : FrameKind} (hf : f.kind = k)
    (h : 14 ≤ s.line.tx.length) (hk : 1 < k.cls := by decide) :
    s.queueFrame s.stop.path f = s.loseFrame.raise .line 2 0 := by
  rw [State.queueFrame, if_neg (by rw [LineUnit.open_iff (by rw [hf]; exact hk)]; omega)]
  exact s.loseFrame.raiseFrom_first .line 2 0

/-- A lost frame begins a stop in RUN (R51, R181). -/
theorem Clear.queueFrame {s u : State} {f : Frame} {k : FrameKind} (h : Clear s) (hs : StandsAs s u)
    (hf : f.kind = k) (hfull : 14 ≤ s.line.tx.length) (hk : 1 < k.cls := by decide) :
    StopBegun s .line 2 0 (u.queueFrame u.stop.path f) := by
  rw [State.queueFrame_full hf (by rw [hs.tx]; exact hfull) hk]
  have hlost : StandsAs u u.loseFrame := ⟨rfl, rfl, rfl, rfl, rfl⟩
  exact h.raise (hs.trans hlost) (c := .line) rfl 2 0

/-! ### The rise requests of an issue test -/

/-- The feed unit asks for a rise of the zones at rest alone: what `z` finds at its turn, and what the requests
of the other zones leave (R141). -/
theorem State.feedTest_of_turn {P Q : State → Prop} {s : State} (z : ZoneId)
    (ht : s.isKind .feed = true) (hp : s.stop.path = .run) (hc : s.feed.candidate.isSome = true) (hs : P s)
    (before : ∀ u y, y ≠ z → P u → P (u.riseZone y)) (turn : ∀ u, P u → Q (u.wantZone z))
    (after : ∀ u y, y ≠ z → Q u → Q (u.riseZone y)) : Q s.feedTest := by
  have want {R : State → Prop} (hr : ∀ u y, y ≠ z → R u → R (u.riseZone y)) (u : State) (y : ZoneId)
      (hy : y ≠ z) (hu : R u) : R (u.wantZone y) := by
    unfold State.wantZone; split
    · exact hr u y hy hu
    · exact hu
  rw [State.feedTest, if_pos (by simp [ht, hp, hc])]
  cases z with
  | z1 => exact want after _ _ (by decide) (want after _ _ (by decide) (turn _ hs))
  | z2 => exact want after _ _ (by decide) (turn _ (want before _ _ (by decide) hs))
  | z3 => exact turn _ (want before _ _ (by decide) (want before _ _ (by decide) hs))

theorem State.feedTest_dropped {s : State} (h : s.braking = true ∨ s.chain.state = .failed) :
    s.feedTest = s := by
  have want (z : ZoneId) : s.wantZone z = s := by
    unfold State.wantZone; split
    · exact State.riseZone_dropped h
    · rfl
  simp only [State.feedTest, want, ite_self]

theorem State.wantZone_rest {s : State} {z : ZoneId} (hr : (s.zone z).atRest = true)
    (hp : (s.zone z).risePending = false) : s.wantZone z = s.riseZone z := if_pos (by simp [hr, hp])

section
variable {s : State} {z : ZoneId} (hb : s.Rises) (hu : s.inUse z = true) (hr : (s.zone z).atRest = true)
include hb hu hr

theorem State.riseZone_begins (hs : s.Supplied) :
    (s.riseZone z).zone z = s.begun z ∧ (s.riseZone z).chain.state = .on := by
  obtain ⟨c, hc, he⟩ := s.pendRise_supplied z hs
  rw [State.riseZone_rest hb hu hr, he]
  refine ⟨?_, hc⟩
  have hset : ((s.setZone z { s.zone z with risePending := true }).withChain c).zone z =
      { s.zone z with risePending := true } := s.zone_setZone z _
  rw [State.beginRises, State.mapZones_zone, hset, if_pos rfl]
  rfl

theorem State.riseZone_pends (hs : s.Waits) :
    (s.riseZone z).zone z = { s.zone z with risePending := true } ∧ (s.riseZone z).chain.state = .wait ∧
      (s.chain.state = .off ∨ (∀ y, (s.zone y).risePending = false) ∨ s.chain.readyTimer = 0 →
        (s.riseZone z).chain.readyTimer = 0) := by
  obtain ⟨c, hc, htimer, he⟩ := s.pendRise_waits z hs
  rw [State.riseZone_rest hb hu hr, he]
  exact ⟨s.zone_setZone z _, hc, htimer⟩

end

section
variable {s : State} (hk : s.isKind .feed = true) (hrun : s.stop.path = .run)
  (hcand : s.feed.candidate.isSome = true) (hb : s.braking = false) {z : ZoneId}
include hk hrun hcand hb

theorem State.feedTest_begins (hs : s.Supplied) (hu : s.inUse z = true) (hr : (s.zone z).atRest = true)
    (hp : (s.zone z).risePending = false) :
    s.feedTest.zone z = s.begun z ∧ s.feedTest.chain.state = .on := by
  refine State.feedTest_of_turn (P := fun u => ZonesOnly s u ∧ u.Supplied ∧ u.zone z = s.zone z)
    (Q := fun u => u.zone z = s.begun z ∧ u.chain.state = .on) z hk hrun hcand ⟨.refl s, hs, rfl⟩ ?_ ?_ ?_
  · rintro u y hne ⟨ho, hs, hz⟩
    exact ⟨ho.step y, (State.riseZone_supplied hs).1,
      (State.riseZone_other hne (.inl (by rw [hz]; exact hp))).trans hz⟩
  · rintro u ⟨ho, hs, hz⟩
    rw [State.wantZone_rest (by rw [hz]; exact hr) (by rw [hz]; exact hp), ← ho.begun hz]
    exact State.riseZone_begins (ho.rises hb (.inl hs)) (by rw [ho.inUse, hu]) (by rw [hz]; exact hr) hs
  · rintro u y hne ⟨hz, hc⟩
    exact ⟨(State.riseZone_other hne (.inl (by rw [hz]; rfl))).trans hz,
      (State.riseZone_supplied (.inl hc)).2 hc⟩

theorem State.feedTest_waits (hs : s.Waits) (hu : s.inUse z = true) (hr : (s.zone z).atRest = true)
    (hp : (s.zone z).risePending = false) :
    s.feedTest.zone z = { s.zone z with risePending := true } ∧ s.feedTest.chain.state = .wait ∧
      (s.chain.state = .off ∨ (∀ y, (s.zone y).risePending = false) →
        s.feedTest.chain.readyTimer = 0) := by
  refine State.feedTest_of_turn
    (P := fun u => ZonesOnly s u ∧ u.Waits ∧ u.zone z = s.zone z ∧
      (s.chain.state = .off ∨ (∀ y, (s.zone y).risePending = false) →
        u.chain.state = .off ∨ (∀ y, (u.zone y).risePending = false) ∨ u.chain.readyTimer = 0))
    (Q := fun u => u.zone z = { s.zone z with risePending := true } ∧ u.chain.state = .wait ∧
      (s.chain.state = .off ∨ (∀ y, (s.zone y).risePending = false) → u.chain.readyTimer = 0))
    z hk hrun hcand ⟨.refl s, hs, rfl, Or.imp_right .inl⟩ ?_ ?_ ?_
  · rintro u y hne ⟨ho, hs, hz, ht⟩
    obtain ⟨hw, -, htimer, -⟩ := State.riseZone_waits (z := y) hs
    exact ⟨ho.step y, hw, (State.riseZone_other hne (.inr hs)).trans hz, fun h => htimer (ht h)⟩
  · rintro u ⟨ho, hs, hz, ht⟩
    rw [State.wantZone_rest (by rw [hz]; exact hr) (by rw [hz]; exact hp)]
    obtain ⟨hzone, hc, htimer⟩ := State.riseZone_pends (z := z) (ho.rises hb (.inr hs))
      (by rw [ho.inUse, hu]) (by rw [hz]; exact hr) hs
    exact ⟨hzone.trans (by rw [hz]), hc, fun h => htimer (ht h)⟩
  · rintro u y hne ⟨hz, hc, ht⟩
    obtain ⟨-, hwait, -, htimer⟩ := State.riseZone_waits (z := y) (.inl hc)
    exact ⟨(State.riseZone_other hne (.inr (.inl hc))).trans hz, hwait hc, fun h => htimer (ht h)⟩

/-- The rise requests of an issue test with a page to issue (R141). -/
theorem State.feedTest_asked : RisesAsked s s.feedTest where
  begins hs _ hu hr hp := State.feedTest_begins hk hrun hcand hb hs hu hr hp
  waits hs _ hu hr hp := State.feedTest_waits hk hrun hcand hb hs hu hr hp
  moving z hm hp := State.feedTest_moving
    (by rw [← Bool.not_eq_true, Zone.atRest_iff]; obtain hm | hm := hm <;> simp [hm]) hp

end

/-! ### The commands -/

theorem exec_startGo {s : State} (h : s.startTest = true) : exec .startGo s =
    if s.line.tx.length < 14 then done s ((s.push (s.frame .go [])).withFeed { s.feed with startMark := true })
    else done s (s.loseFrame.raise .line 2 0) := by
  show execStartGo s = _
  rw [execStartGo, if_pos h]
  by_cases hroom : s.line.tx.length < 14
  · rw [if_pos hroom, if_pos ((LineUnit.open_iff (by decide)).mpr hroom)]
  · rw [if_neg hroom, if_neg (by rw [LineUnit.open_iff (by decide)]; exact hroom)]
    rfl

theorem exec_restTimerExpiry {s : State} (h : s.restRuns = true) : exec .restTimerExpiry s = done s
    ((s.withFeed { s.feed with restTimer := s.cfg.restDelay, restQueued := true }).queueFrame s.stop.path
      (s.frame .rest [])) := if_pos h

/-- Settles O40: the issue test's requests zone by zone, and GO and REST by the places of the transmit
queue. -/
theorem feedUnitStartsAndRests : Obligations.FeedUnitStartsAndRests := by
  unfold Obligations.FeedUnitStartsAndRests
  intro s hkind
  have hk : s.isKind .feed = true := by simp [State.isKind, hkind]
  refine ⟨s.trayReady_iff, fun d f hp hgap hd => ?_, fun d f hp hd htray hmark hok hagg => ?_,
    fun hp hi hpages hr hq => ?_⟩
  · have hexec : exec .paceGapReached s = done s s.feedTest :=
      if_pos (by simp [hk, hp, hgap])
    obtain ⟨n, hn⟩ := done_eq s s.feedTest
    refine ⟨_, hexec.trans hn, s.feedTest_only.andThen (State.withNotices_only _ n), fun hb _ => ?_,
      fun hdrop => ?_⟩
    · exact { State.feedTest_asked hk hp (by rw [hd.candidate]; rfl) hb with }
    · rw [State.feedTest_dropped hdrop]; exact ⟨rfl, rfl⟩
  · have htest : s.startTest = true := by
      simp [State.startTest, State.startReady, hk, hp, hmark, hok, hagg, hd.candidate, htray]
    have hexec := exec_startGo htest
    split at hexec
    · next hroom =>
      obtain ⟨n, hn⟩ := done_eq s ((s.push (s.frame .go [])).withFeed { s.feed with startMark := true })
      exact ⟨_, hexec.trans hn, fun _ => ⟨rfl, rfl⟩, fun h => absurd hroom (by omega)⟩
    · next hfull =>
      have hdrop : s.loseFrame.raise .line 2 0 = s.loseFrame :=
        State.raise_dropped _ _ _ _ (by show Cause.line.takesEffect s.stop.path = _; rw [hp]; rfl)
      rw [hdrop] at hexec
      obtain ⟨n, hn⟩ := done_eq s s.loseFrame
      exact ⟨_, hexec.trans hn, fun h => absurd h hfull, fun _ => ⟨rfl, rfl, rfl⟩⟩
  · have hruns := s.restRuns_iff.mpr ⟨hkind, hp, hi, hpages, hr, hq⟩
    obtain ⟨u, hu⟩ : ∃ u, u = s.withFeed { s.feed with restTimer := s.cfg.restDelay, restQueued := true } :=
      ⟨_, rfl⟩
    have hexec := exec_restTimerExpiry hruns
    rw [← hu] at hexec
    obtain ⟨n, hn⟩ := done_eq s (u.queueFrame s.stop.path (s.frame .rest []))
    refine ⟨_, hexec.trans hn, fun hroom => ?_, fun hfull hown => ?_⟩
    · rw [State.queueFrame_open (k := .rest) _ rfl (by rw [hu]; exact hroom), hu]
      exact ⟨rfl, rfl⟩
    · have hstands : StandsAs s u := hu ▸ .of_only (s.withFeed_only _)
      have hclear : Clear s := ⟨hp, hown, by omega⟩
      rw [← hstands.stop]
      exact (hclear.queueFrame (k := .rest) hstands rfl (by omega)).noted n

end Sys2Proof.Machine
end

section
/-! SUPPORT. What the stop controller keeps of the tag unit (R50, R100, R103, R106). -/

namespace Sys2Proof.Machine

set_option Elab.async false

/-! ### Parts that a stop's start changes -/

theorem State.enterFlush_haltParts (s : State) : changesOnly haltParts s s.enterFlush := by
  have announce (u : State) : changesOnly haltParts u u.announceFlush := by
    unfold State.announceFlush; split
    · exact (u.push_only _).mono (by decide)
    · exact (u.withLine_only _).andThen (State.joinStop_haltParts _ _ _ _)
  have turn (u : State) (c : Prop) [Decidable c] : changesOnly haltParts u (if c then u.enterHalting else u) := by
    split
    · exact u.enterHalting_haltParts
    · exact .refl _ _
  exact (s.enter_only _).andThen ((announce _).trans ((turn _ _).trans (turn _ _)))

theorem State.takeStance_haltParts (s : State) (p : PathState) :
    changesOnly haltParts s (s.takeStance p) := by
  unfold State.takeStance; split
  · exact s.enterHalting_haltParts
  · exact s.enterFlush_haltParts

/-- A stop start sets the panel-cycle flag from the panel group, and leaves the rest of the tag unit (R50). -/
theorem State.startStop_tags (s : State) (c : Cause) (place sheet : Nat) :
    (s.startStop c place sheet).tags = { s.tags with panelCycle := s.groupOpen } := by
  have hpath : (s.ownCause c place sheet).stop.path = s.stop.path := by
    show (s.stop.setOwn c place sheet).path = _
    rw [StopUnit.setOwn_keeps]
  have hgroup : (s.ownCause c place sheet).groupOpen = s.groupOpen :=
    State.groupOpen_congr rfl (by simp only [State.configured, hpath]) rfl
  have hjam := State.jamcall_only ((s.ownCause c place sheet).stopStart (nextEpoch s.stop.epoch)
    (s.siteOf c place sheet)) (s.siteOf c place sheet)
  rw [State.startStop, hjam.tags, State.stopStart, (State.takeStance_haltParts _ _).tags, ← hgroup]
  rfl

/-- A cause leaves the tag unit but for the panel-cycle flag, which a stop start sets from the panel group. -/
theorem State.raise_tags (s : State) (c : Cause) (place sheet : Nat) :
    (s.raise c place sheet).tags = s.tags ∨ s.configured = true ∧
      (s.raise c place sheet).tags = { s.tags with panelCycle := s.groupOpen } := by
  have started (h : s.stop.path ≠ .unconfigured) : s.configured = true ∧
      (s.startStop c place sheet).tags = { s.tags with panelCycle := s.groupOpen } :=
    ⟨State.configured_of_ne h, s.startStop_tags c place sheet⟩
  have joined := (s.joinStop_haltParts c place sheet).tags
  unfold State.raise; split
  · split
    · next h => exact .inr (started (by rw [h]; decide))
    · next h => exact .inr (started (by rw [h]; decide))
    · exact .inl joined
    · exact .inl joined
    all_goals exact .inl rfl
  · exact .inl rfl

/-! ### The tag unit kept -/

/-- The configuration, the slots and the inputs stay, and so does the panel-cycle flag while a panel slot
reads open. -/
structure KeepsPanels (s t : State) : Prop where
  cfg : t.cfg = s.cfg
  slots : t.tags.slots = s.tags.slots
  inputs : t.tags.inputs = s.tags.inputs
  cycle : (s.slotsInUse.any fun (_, c, v) => panelSlotOpen c v) = true → s.tags.panelCycle = true →
    t.tags.panelCycle = true

namespace KeepsPanels

theorem refl (s : State) : KeepsPanels s s := ⟨rfl, rfl, rfl, fun _ => id⟩

theorem trans {s t u : State} (h : KeepsPanels s t) (k : KeepsPanels t u) : KeepsPanels s u := by
  refine ⟨k.cfg.trans h.cfg, k.slots.trans h.slots, k.inputs.trans h.inputs,
    fun ho hc => k.cycle ?_ (h.cycle ho hc)⟩
  rw [State.slotsInUse, h.cfg, h.slots]
  exact ho

theorem of_only {l : List Part} {s t : State} (h : changesOnly l s t) (hc : .cfg ∉ l := by decide)
    (ht : .tags ∉ l := by decide) : KeepsPanels s t := by
  have htags : t.tags = s.tags := h.tags ht
  exact ⟨h.cfg hc, by rw [htags], by rw [htags], fun _ hcycle => by rw [htags]; exact hcycle⟩

theorem foldl {α : Type} (f : State → α → State) (h : ∀ s a, KeepsPanels s (f s a)) (as : List α)
    (s : State) : KeepsPanels s (as.foldl f s) := by
  induction as generalizing s with
  | nil => exact refl s
  | cons a as ih => exact (h s a).trans (ih (f s a))

theorem input {s t : State} (h : KeepsPanels s t) (i : InputId) : t.input i = s.input i := by
  rw [State.input, h.inputs]; rfl

end KeepsPanels

theorem State.raise_panels (s : State) (c : Cause) (place sheet : Nat) :
    KeepsPanels s (s.raise c place sheet) := by
  have hcfg : (s.raise c place sheet).cfg = s.cfg := (s.raise_only c place sheet).cfg
  obtain ht | ⟨hc, ht⟩ := s.raise_tags c place sheet
  · exact ⟨hcfg, by rw [ht], by rw [ht], fun _ h => by rw [ht]; exact h⟩
  · refine ⟨hcfg, by rw [ht], by rw [ht], fun ho _ => ?_⟩
    rw [ht]
    show s.groupOpen = true
    rw [State.groupOpen, hc, Bool.true_and]
    exact ho

theorem State.raiseFrom_panels (s : State) (p : PathState) (c : Cause) (place sheet : Nat) :
    KeepsPanels s (s.raiseFrom p c place sheet) := by
  unfold State.raiseFrom; split
  · exact .of_only (s.joinSite_only c place sheet)
  · exact s.raise_panels c place sheet

theorem State.queueFrame_panels (s : State) (p : PathState) (f : Frame) :
    KeepsPanels s (s.queueFrame p f) := by
  unfold State.queueFrame; split
  · exact .of_only (s.push_only f)
  · exact (KeepsPanels.of_only (s.withLine_only _)).trans (State.raiseFrom_panels _ _ _ _ _)

end Sys2Proof.Machine
end

section
/-! SUPPORT and the proof of InputsAndSupplyAreHeld. -/

namespace Sys2Proof.Machine

set_option Elab.async false

/-! ### Published inputs -/

theorem State.published_iff (s : State) (i : InputId) :
    s.published i = true ↔ s.configured = true ∧ s.inputTag i ≠ 0 := by
  simp [State.published]

theorem exec_inputPinChange_kept {i : InputId} {high : Bool} {s : State}
    (h : ¬ (s.published i = true ∧ s.rawInput i ≠ high)) :
    exec (.inputPinChange i high) s = .next (s.setInp i high) :=
  if_neg (by simpa using h)

theorem exec_inputPinChange_held {i : InputId} {high : Bool} {s : State} (h : s.published i = true)
    (hne : s.rawInput i ≠ high) : exec (.inputPinChange i high) s =
      .next ((s.setInp i high).setInput i { s.input i with
        hold := if high = (s.input i).level then none else some 0 }) := by
  show execInputPinChange i high s = _
  rw [execInputPinChange, if_pos (by simp [h, hne])]
  by_cases hl : high = (s.input i).level <;> simp [hl]

theorem State.input_setInput (s : State) (i : InputId) (x : Input) : (s.setInput i x).input i = x := by
  cases i <;> rfl

/-- The state that the end of an input's hold leaves, ahead of its TAGSTATE (R100). -/
def State.inputTurned (s : State) (i : InputId) : State :=
  s.setInput i { level := s.rawInput i, hold := none }

theorem State.inputTurned_only (s : State) (i : InputId) : changesOnly [.tags] s (s.inputTurned i) :=
  s.withTags_only _

theorem exec_tagHoldExpiry {i : InputId} {s : State} (h : s.published i = true)
    (hold : (s.input i).hold.isSome = true) (hne : s.rawInput i ≠ (s.input i).level) :
    exec (.tagHoldExpiry i) s = done s ((s.inputTurned i).queueFrame s.stop.path (s.tagFrame i (s.rawInput i))) :=
  if_pos (by simp [State.holdRuns, h, hold, hne])

/-- No notice reads an input or the transmit queue (R191). -/
theorem State.inputTurned_condition (s : State) (i : InputId) (f : Frame) :
    ((s.inputTurned i).push f).condition = s.condition := by
  funext n; cases n <;> rfl

/-- The end of an input's hold takes the level over and publishes it (R100). -/
theorem tagHoldExpiry_publishes {i : InputId} {s : State} (h : s.published i = true)
    (hold : (s.input i).hold.isSome = true) (hne : s.rawInput i ≠ (s.input i).level) :
    ∃ t, exec (.tagHoldExpiry i) s = .next t ∧ t.input i = ⟨s.rawInput i, none⟩ ∧
      (s.line.tx.length < 14 → t.line.tx = s.line.tx ++ [s.tagFrame i (s.rawInput i)] ∧
        changesOnly [.tags, .line] s t) ∧
      (s.line.tx.length = 14 → Clear s → StopBegun s .line 2 0 t) := by
  have hexec := exec_tagHoldExpiry h hold hne
  have hinput := ((s.inputTurned i).queueFrame_panels s.stop.path (s.tagFrame i (s.rawInput i))).input i
  rw [show (s.inputTurned i).input i = _ from s.input_setInput i _] at hinput
  by_cases hroom : s.line.tx.length < 14
  · have hq : (s.inputTurned i).queueFrame s.stop.path (s.tagFrame i (s.rawInput i)) = _ :=
      State.queueFrame_open (k := .tagstate) _ rfl hroom
    rw [hq] at hexec hinput
    refine ⟨_, hexec.trans (congrArg Host.Outcome.next (latchNew_same (s.inputTurned_condition i _))), hinput,
      fun _ => ⟨rfl, ?_⟩, fun hfull => by omega⟩
    exact (s.inputTurned_only i).andThen (State.push_only _ _)
  · obtain ⟨n, hn⟩ := done_eq s ((s.inputTurned i).queueFrame s.stop.path (s.tagFrame i (s.rawInput i)))
    refine ⟨_, hexec.trans hn, hinput, fun hr => absurd hr hroom, fun _ hclear => ?_⟩
    have hstands : StandsAs s (s.inputTurned i) := ⟨rfl, rfl, rfl, rfl, rfl⟩
    exact (hclear.queueFrame (k := .tagstate) hstands rfl (by omega)).noted n

/-! ### The supply monitor -/

theorem State.comparatorOk_iff (s : State) :
    s.comparatorOk = true ↔ supplyReference s.cfg.supplySelect ≤ s.pins.vsense := by
  simp [State.comparatorOk]

theorem State.superviseSupply_eq (s : State) : s.superviseSupply = s.withSupply { s.supply with
    hold := if (s.supply.ok = true ↔ supplyReference s.cfg.supplySelect ≤ s.pins.vsense) then none
      else some (s.supply.hold.getD 0) } := by
  have hiff : (s.comparatorOk == s.supply.ok) = true ↔
      (s.supply.ok = true ↔ supplyReference s.cfg.supplySelect ≤ s.pins.vsense) := by
    rw [beq_iff_eq, Bool.eq_iff_iff, s.comparatorOk_iff]; exact iff_comm
  rw [State.superviseSupply]
  simp only [hiff]

/-- The supply has recovered (R112). -/
theorem supplyHoldExpiry_recovers {s : State} (hlow : s.supply.ok = false)
    (hold : s.supply.hold.isSome = true) (hok : s.comparatorOk = true) :
    ∃ t, exec .supplyHoldExpiry s = .next t ∧ t.supply = ⟨true, none⟩ ∧
      changesOnly [.supply, .notices] s t := by
  have hexec : exec .supplyHoldExpiry s = done s (s.withSupply { ok := true, hold := none }) := by
    show execSupplyHoldExpiry s = _
    rw [execSupplyHoldExpiry, if_pos (by simp [State.supplyRuns, hold, hok, hlow]), State.supplyTurns,
      if_pos hok, hok]
  obtain ⟨n, hn⟩ := done_eq s (s.withSupply { ok := true, hold := none })
  exact ⟨_, hexec.trans hn, rfl, (s.withSupply_only _).andThen (State.withNotices_only _ n)⟩

/-- Settles O43: an input by whether it is published and by the places of the transmit queue, and the supply
monitor by its comparator. -/
theorem inputsAndSupplyAreHeld : Obligations.InputsAndSupplyAreHeld := by
  unfold Obligations.InputsAndSupplyAreHeld
  refine ⟨fun i high s => ⟨fun h => exec_inputPinChange_kept ?_, fun hc ht hne => ?_⟩,
    fun i s hc ht => tagHoldExpiry_publishes ((s.published_iff i).mpr ⟨hc, ht⟩), fun v s hr => ?_,
    fun s hlow hold hv => supplyHoldExpiry_recovers hlow hold (s.comparatorOk_iff.mpr hv)⟩
  · rintro ⟨hp, hne⟩
    obtain ⟨hc, ht⟩ := (s.published_iff i).mp hp
    obtain h | h | h := h
    · rw [hc] at h; cases h
    · exact ht h
    · exact hne h
  · rw [exec_inputPinChange_held ((s.published_iff i).mpr ⟨hc, ht⟩) hne]
    rfl
  · have hexec : exec (.vsenseChange v) s = _ := if_pos hr
    rw [hexec, State.superviseSupply_eq]
    rfl

end Sys2Proof.Machine
end

section
/-! SUPPORT. What a TAGSTATE makes of the slots (R103, R105, R108), and INTERLOCK once for each of several
slots (R52; logs 23, 40). -/

namespace Sys2Proof.Machine

set_option Elab.async false

/-! ### The slots after a TAGSTATE -/

section
variable (s : State) (tag : Nat) (asserted : Bool)

theorem State.hearTag_slot (n : Fin 8) : (s.hearTag tag asserted).tags.slots.get n =
    slotAfter tag asserted (s.cfg.slots.get n) (s.tags.slots.get n) :=
  Vector.getElem_ofFn n.isLt

theorem slotAfter_eq (h : 1 ≤ tag) (c : SlotCfg) (v : SlotValue) : slotAfter tag asserted c v =
    if c.tag = tag then (if asserted = c.invert then .clear else .asserted) else v := by
  by_cases ht : c.tag = tag
  · have : (c.tag != 0 && c.tag == tag) = true := by simp [ht]; omega
    rw [slotAfter, if_pos this, if_pos ht, hear]
    by_cases hi : asserted = c.invert <;> simp [hi]
  · rw [slotAfter, if_neg (by simp [ht]), if_neg ht]

end

/-- A stop slot that a TAGSTATE asserts (R103, R107). -/
def State.assertsStop (s : State) (tag : Nat) (asserted : Bool) (n : Fin 8) : Bool :=
  (s.cfg.slots.get n).tag == tag && (s.cfg.slots.get n).stop && asserted != (s.cfg.slots.get n).invert

theorem State.assertsStop_iff (s : State) (tag : Nat) (asserted : Bool) (n : Fin 8) :
    s.assertsStop tag asserted n = true ↔ (s.cfg.slots.get n).tag = tag ∧
      (s.cfg.slots.get n).stop = true ∧ asserted ≠ (s.cfg.slots.get n).invert := by
  simp [State.assertsStop, and_assoc]

/-- The slots whose reading by `p` came to hold, lowest first. -/
theorem newlyTrue_eq (p : SlotCfg → SlotValue → Bool) {s t : State} (h : t.cfg = s.cfg) :
    newlyTrue p s t = ((List.finRange 8).filter fun n => (s.cfg.slots.get n).tag != 0 &&
      (!p (s.cfg.slots.get n) (s.tags.slots.get n) && p (s.cfg.slots.get n) (t.tags.slots.get n))).map
        fun n => n.val + 1 := by
  have hused : t.usedSlots = s.usedSlots := by simp only [State.usedSlots, h]
  rw [newlyTrue, State.slotsInUse_eq, State.slotsInUse_eq, hused, List.zip_map', List.filter_map,
    List.map_map, State.usedSlots, List.filter_filter]
  simp only [Function.comp_def, State.slotAt, h, Bool.and_comm]

/-- The panel slots that a TAGSTATE opens. -/
theorem newlyTrue_panel (s : State) {tag : Nat} (asserted : Bool) (h : 1 ≤ tag) :
    newlyTrue panelSlotOpen s (s.hearTag tag asserted) = ((List.finRange 8).filter fun n =>
      (s.cfg.slots.get n).tag = tag ∧ (s.cfg.slots.get n).panel = true ∧
        s.tags.slots.get n = .asserted ∧ asserted = (s.cfg.slots.get n).invert).map fun n => n.val + 1 := by
  rw [newlyTrue_eq _ (s.hearTag_only tag asserted).cfg]
  refine congrArg (List.map _) (List.filter_congr fun n _ => ?_)
  rw [s.hearTag_slot, slotAfter_eq _ _ h, Bool.eq_iff_iff]
  have h0 : tag ≠ 0 := by omega
  cases hp : (s.cfg.slots.get n).panel with
  | false => simp [panelSlotOpen, hp]
  | true =>
    by_cases ht : (s.cfg.slots.get n).tag = tag
    · by_cases hi : asserted = (s.cfg.slots.get n).invert <;> simp [panelSlotOpen, hp, ht, hi, h0]
    · simp [panelSlotOpen, hp, ht]

/-- The stop slots that a TAGSTATE asserts while the stop aggregate is clear. -/
theorem newlyTrue_stop {s : State} {tag : Nat} (asserted : Bool) (h : 1 ≤ tag) (hc : s.configured = true)
    (ha : s.aggregate = false) :
    newlyTrue stopSlotAsserted s (s.hearTag tag asserted) =
      ((List.finRange 8).filter (s.assertsStop tag asserted)).map fun n => n.val + 1 := by
  rw [newlyTrue_eq _ (s.hearTag_only tag asserted).cfg]
  refine congrArg (List.map _) (List.filter_congr fun n _ => ?_)
  have hclear : (s.cfg.slots.get n).tag ≠ 0 → (s.cfg.slots.get n).stop = true →
      s.tags.slots.get n = .clear := fun hu hs => by
    by_contra hv
    rw [(State.aggregate_iff hc).mpr ⟨n, hu, hs, hv⟩] at ha
    cases ha
  rw [s.hearTag_slot, slotAfter_eq _ _ h, Bool.eq_iff_iff, s.assertsStop_iff]
  have h0 : tag ≠ 0 := by omega
  cases hs : (s.cfg.slots.get n).stop with
  | false => simp [stopSlotAsserted, hs]
  | true =>
    by_cases ht : (s.cfg.slots.get n).tag = tag
    · have hv := hclear (ht ▸ h0) hs
      by_cases hi : asserted = (s.cfg.slots.get n).invert <;> simp [stopSlotAsserted, hs, ht, hi, h0, hv]
    · simp [stopSlotAsserted, hs, ht]

/-- The least index that meets a condition heads the list of those that do. -/
theorem filter_finRange_head {k : Nat} {p : Fin k → Bool} {n : Fin k} (hn : p n = true)
    (hmin : ∀ m < n, p m ≠ true) : ∃ more, (List.finRange k).filter p = n :: more := by
  have hmem : n ∈ (List.finRange k).filter p := List.mem_filter.mpr ⟨List.mem_finRange n, hn⟩
  have hsorted := (List.pairwise_lt_finRange k).filter p
  cases hl : (List.finRange k).filter p with
  | nil => rw [hl] at hmem; cases hmem
  | cons x more =>
    have hx : p x = true := (List.mem_filter.mp (hl ▸ List.mem_cons_self)).2
    rw [hl] at hmem hsorted
    obtain rfl | hin := List.mem_cons.mp hmem
    · exact ⟨more, rfl⟩
    · exact absurd hx (hmin x ((List.pairwise_cons.mp hsorted).1 n hin))

/-! ### INTERLOCK of several slots -/

/-- The node rests in a stop that this node is a site of, with an own cause on record. -/
structure RestsAtSite (s : State) : Prop where
  path : s.stop.path ∈ [PathState.halted, .clearing]
  own : s.stop.own.isSome = true
  site : ∃ x ∈ s.stop.sites, x.segment = s.cfg.segment

/-- There a further INTERLOCK is counted and has its JAMCALL, and the record of the first one stays (R48). -/
theorem RestsAtSite.raiseFrom {s : State} (h : RestsAtSite s) (n : Nat) :
    (s.raiseFrom .run .interlock n 0).stop = s.stop.count .interlock ∧
    (s.line.tx.length < 16 → (s.raiseFrom .run .interlock n 0).line.tx = s.line.tx ++
      [⟨.jamcall, s.cfg.segment, s.stop.epoch, jamcallPayload (s.siteOf .interlock n 0)⟩]) ∧
    changesOnly [.stop, .line] s (s.raiseFrom .run .interlock n 0) := by
  obtain ⟨o, ho⟩ := Option.isSome_iff_exists.mp h.own
  have hown : s.stop.setOwn .interlock n 0 = s.stop := by
    rw [StopUnit.setOwn, ho]
    dsimp only
    rw [show (o.cycle || Cause.interlock.needsCycle) = o.cycle from Bool.or_false _, ← ho]
  rw [State.raiseFrom_atRest n 0 h.path rfl rfl]
  refine ⟨?_, fun hroom => State.joinSite_tx hroom .interlock n 0, s.joinSite_only _ _ _⟩
  rw [State.joinSite_stop, hown]
  exact StopUnit.addSite_present h.site

theorem RestsAtSite.next {s : State} (h : RestsAtSite s) (n : Nat) :
    RestsAtSite (s.raiseFrom .run .interlock n 0) := by
  obtain ⟨hstop, -, honly⟩ := h.raiseFrom n
  refine ⟨?_, ?_, ?_⟩
  · rw [hstop]; exact h.path
  · rw [hstop]; exact h.own
  · rw [hstop, honly.cfg]; exact h.site

/-- What the INTERLOCKs of the slots `l` leave of a node that rests at its site. -/
structure InterlocksJoined (l : List Nat) (s t : State) : Prop where
  only : changesOnly [.stop, .line] s t
  stop : t.stop = { s.stop with counters := t.stop.counters }
  counted : t.causeCount .interlock = min 255 (s.causeCount .interlock + l.length)
  tx : s.line.tx.length + l.length ≤ 16 → t.line.tx = s.line.tx ++ l.map fun n =>
    ⟨.jamcall, s.cfg.segment, s.stop.epoch, jamcallPayload (s.siteOf .interlock n 0)⟩

theorem RestsAtSite.interlocks {s : State} (h : RestsAtSite s) (hc : s.causeCount .interlock ≤ 255)
    (l : List Nat) : InterlocksJoined l s (s.interlocks .run l) := by
  induction l generalizing s with
  | nil => exact ⟨.refl _ _, rfl, (Nat.min_eq_right hc).symm, fun _ => (List.append_nil _).symm⟩
  | cons n l ih =>
    obtain ⟨hstop, htx, honly⟩ := h.raiseFrom n
    have hcount : (s.raiseFrom .run .interlock n 0).causeCount .interlock =
        min 255 (s.causeCount .interlock + 1) :=
      State.causeCount_count (u := s.stop) (by rw [hstop]) rfl
    have J := ih (h.next n) (by rw [hcount]; exact Nat.min_le_left _ _)
    have hfold : s.interlocks .run (n :: l) = (s.raiseFrom .run .interlock n 0).interlocks .run l := rfl
    rw [hfold]
    refine ⟨honly.trans J.only, ?_, ?_, fun hroom => ?_⟩
    · rw [J.stop, hstop]; rfl
    · rw [J.counted, hcount, List.length_cons]; omega
    · rw [List.length_cons] at hroom
      have hnext := htx (by omega)
      rw [J.tx (by rw [hnext, List.length_append, List.length_singleton]; omega), hnext, honly.cfg,
        show (s.raiseFrom .run .interlock n 0).stop.epoch = s.stop.epoch by rw [hstop]; rfl,
        List.append_assoc]
      simp only [State.siteOf, honly.cfg]
      rfl

/-- What the INTERLOCKs of the slots `n` and `more` make of RUN (R51, R52, R73 to R75; log 40). -/
structure InterlocksBegun (n : Nat) (more : List Nat) (s t : State) : Prop where
  own : t.stop.own = some ⟨.interlock, n, 0, false⟩
  sites : t.stop.sites = [s.siteOf .interlock n 0]
  epoch : t.stop.epoch = nextEpoch s.stop.epoch
  path : t.stop.path = if s.groupOpen = true then .clearing else .halted
  braked : ∀ z, s.inUse z = true → (t.zone z).state = .braked ∧ (t.zone z).output = 0
  counted : t.causeCount .interlock = min 255 (s.causeCount .interlock + (more.length + 1))
  frames : s.line.tx.length + (more.length + 1) ≤ 15 → ∀ m ∈ n :: more,
    ⟨.jamcall, s.cfg.segment, nextEpoch s.stop.epoch, jamcallPayload (s.siteOf .interlock m 0)⟩ ∈ t.line.tx

theorem Clear.interlocks {s : State} (h : Clear s) (n : Nat) (more : List Nat) :
    InterlocksBegun n more s (s.interlocks .run (n :: more)) := by
  have hc : s.configured = true := State.configured_of_ne (by rw [h.path]; decide)
  have hfirst : s.raiseFrom .run .interlock n 0 = s.startStop .interlock n 0 := by
    rw [← h.path, s.raiseFrom_first, State.raise_startStop n 0 (.inl h.path) (by rw [h.path]; rfl)]
  have B : StopBegun s .interlock n 0 (s.startStop .interlock n 0) :=
    State.startStop_begins _ _ _ (.inl h.path) h.own h.room
  obtain ⟨H, htx⟩ := State.startStop_halts .interlock n 0 hc h.room
  have hfold : s.interlocks .run (n :: more) = (s.raiseFrom .run .interlock n 0).interlocks .run more := rfl
  have hcfg : (s.startStop .interlock n 0).cfg = s.cfg := (s.startStop_only _ _ _).cfg
  rw [hfold, hfirst]
  generalize s.startStop .interlock n 0 = u at *
  have hbraked := H.braked ⟨_, B.own, .inr rfl⟩
  have hpath := B.rest.2 fun z hz => by rw [Zone.atRest_iff]; exact .inr (hbraked z hz).1
  have hrests : RestsAtSite u := by
    refine ⟨?_, by rw [B.own]; rfl, _, by rw [B.sites]; exact List.mem_singleton.mpr rfl, by rw [hcfg]; rfl⟩
    rw [hpath]; split <;> decide
  have J := hrests.interlocks (by rw [B.counted]; exact Nat.min_le_left _ _) more
  refine ⟨by rw [J.stop, B.own]; rfl, by rw [J.stop, B.sites], by rw [J.stop, B.epoch], by rw [J.stop, hpath],
    fun z hz => ?_, ?_, fun hroom m hm => ?_⟩
  · rw [State.zone, J.only.zones]
    obtain ⟨hstate, hout, -⟩ := hbraked z hz
    exact ⟨hstate, hout⟩
  · rw [J.counted, B.counted]
    simp only [satAdd, counterTop]
    omega
  · rw [J.tx (by rw [htx, List.length_append]; simp only [List.length_cons, List.length_nil]; omega), hcfg,
      B.epoch]
    obtain rfl | hm := List.mem_cons.mp hm
    · exact List.mem_append_left _ B.jamcall
    · exact List.mem_append_right _ (List.mem_map.mpr ⟨m, hm, by simp only [State.siteOf, hcfg]⟩)

/-- INTERLOCK in a path state that drops it (R45). -/
theorem State.interlocks_dropped {s : State} (h : Cause.interlock.takesEffect s.stop.path = false)
    (l : List Nat) : s.interlocks s.stop.path l = s := by
  induction l with
  | nil => rfl
  | cons n l ih =>
    have hn : s.raiseFrom s.stop.path .interlock n 0 = s := by
      rw [s.raiseFrom_first, s.raise_dropped _ _ _ h]
    rw [State.interlocks, List.foldl_cons, hn]
    exact ih

end Sys2Proof.Machine
end

section
/-! SUPPORT. The parts of a TAGSTATE's change: the slots heard, the INTERLOCKs, and the panel group's turn to
open (R103 to R108, R116). -/

namespace Sys2Proof.Machine

set_option Elab.async false

/-! ### The change, step by step -/

section
variable (s : State) (tag : Nat) (asserted : Bool)

/-- The TAGSTATE asserts the stop aggregate (R108). -/
def State.tagAsserts : Bool := !s.aggregate && (s.hearTag tag asserted).aggregate

/-- The TAGSTATE opens the panel group (R116). -/
def State.tagOpens : Bool := !s.groupOpen && (s.hearTag tag asserted).groupOpen

/-- The slots that raise INTERLOCK, in the order of log 23. -/
def State.tagSlots : List Nat :=
  (if s.tagAsserts tag asserted then
    (newlyTrue stopSlotAsserted s (s.hearTag tag asserted)).take 1 else []) ++
  newlyTrue panelSlotOpen s (s.hearTag tag asserted)

/-- The node as INTERLOCK finds it: the slots heard, the panel-cycle flag marked and the zones braked. -/
def State.tagHeard : State := (s.hearTag tag asserted).markCycle.brakeIf (s.tagAsserts tag asserted)

theorem State.tagChange_eq : s.tagChange tag asserted =
    (((s.tagHeard tag asserted).interlocks s.stop.path (s.tagSlots tag asserted)).zonesChanged.openIf
      (s.tagOpens tag asserted)).feedTest := by
  rw [State.interlocks, State.tagSlots, List.foldl_append]
  rfl

/-- After the slots, the flag and the zones alone move. -/
theorem State.tagHeard_only : changesOnly [.tags, .zones] (s.hearTag tag asserted) (s.tagHeard tag asserted) :=
  (State.markCycle_only _).andThen (State.brakeIf_only _ _)

theorem State.markCycle_slots (s : State) : s.markCycle.tags.slots = s.tags.slots := by
  unfold State.markCycle; split <;> rfl

theorem State.tagHeard_slots :
    (s.tagHeard tag asserted).tags.slots = (s.hearTag tag asserted).tags.slots := by
  rw [State.tagHeard, (State.brakeIf_only _ _).tags, State.markCycle_slots]

theorem State.tagHeard_groupOpen :
    (s.tagHeard tag asserted).groupOpen = (s.hearTag tag asserted).groupOpen :=
  State.groupOpen_congr (s.tagHeard_only tag asserted).cfg
    (by simp only [State.configured, (s.tagHeard_only tag asserted).stop]) (s.tagHeard_slots tag asserted)

end

/-! ### The panel group opens -/

theorem State.groupOpens_halted {s : State} (h : s.stop.path = .halted) :
    s.groupOpens = s.surveyOpened.enter .clearing := by
  rw [State.groupOpens]; simp only [h]

theorem State.groupOpens_ready {s : State} (h : s.stop.path = .ready) :
    s.groupOpens = s.surveyOpened.withdrawReady.enter .clearing := by
  rw [State.groupOpens]; simp only [h]

theorem State.groupOpens_clearing {s : State} (h : s.stop.path = .clearing) :
    s.groupOpens = s.surveyOpened.withClear { s.surveyOpened.clear with residual := false } := by
  rw [State.groupOpens]; simp only [h]

theorem State.groupOpens_clearing_only {s : State} (h : s.stop.path = .clearing) :
    changesOnly [.deliv, .clear] s s.groupOpens := by
  rw [State.groupOpens_clearing h]
  exact s.surveyOpened_only.andThen (State.withClear_only _ _)

/-- From a rest the node comes to clear. -/
theorem State.groupOpens_clears {s : State} (h : s.stop.path ∈ [PathState.halted, .clearing, .ready]) :
    s.groupOpens.stop.path = .clearing := by
  simp only [List.mem_cons, List.not_mem_nil, or_false] at h
  obtain h | h | h := h
  · rw [State.groupOpens_halted h, State.enter_path]
  · rw [(State.groupOpens_clearing_only h).stop, h]
  · rw [State.groupOpens_ready h, State.enter_path]

theorem State.surveyOpened_clear (s : State) : s.surveyOpened.clear = s.clear.panelOpened := rfl

/-- In CLEARING a residual ends, and a survey that waits is abandoned (R116, R119, R125). -/
theorem State.groupOpens_survey {s : State} (h : s.stop.path = .clearing) :
    s.groupOpens.clear.residual = false ∧
    (s.clear.phase = .reporting → s.clear.reports = [] → s.groupOpens.clear.phase = .noSurvey) ∧
    (s.clear.phase = .voidWait → s.groupOpens.clear.phase = .noSurvey ∧ s.groupOpens.clear.reports = []) := by
  have hclear : s.groupOpens.clear = { s.clear.panelOpened with residual := false } := by
    rw [State.groupOpens_clearing h, s.surveyOpened_clear]; rfl
  rw [hclear]
  refine ⟨rfl, fun hp hr => ?_, fun hp => ?_⟩
  · show s.clear.panelOpened.phase = _
    simp only [ClearUnit.panelOpened, hp, if_pos hr]
  · constructor
    · show s.clear.panelOpened.phase = _
      simp only [ClearUnit.panelOpened, hp]
    · show s.clear.panelOpened.reports = _
      simp only [ClearUnit.panelOpened, hp]

/-- A READY is withdrawn (R116). -/
theorem State.groupOpens_withdraws {s : State} (h : s.stop.path = .ready) (hroom : s.line.tx.length < 14) :
    s.groupOpens.line.tx =
      s.line.tx ++ [⟨.ready, s.cfg.segment, s.stop.epoch, readyPayload true⟩] := by
  have honly := s.surveyOpened_only
  have hopen : s.surveyOpened.line.open FrameKind.ready.cls = true :=
    (LineUnit.open_iff (by decide)).mpr (by rw [honly.line]; exact hroom)
  rw [State.groupOpens_ready h, (State.enter_only _ _).line, State.withdrawReady, if_pos hopen]
  show s.surveyOpened.line.tx ++ [s.surveyOpened.readyFrame true] = _
  rw [honly.line]
  simp only [State.readyFrame, State.frame, honly.cfg, honly.stop]

theorem State.groupOpens_panels (s : State) : KeepsPanels s s.groupOpens := by
  have h : KeepsPanels s s.surveyOpened := .of_only s.surveyOpened_only
  unfold State.groupOpens; split
  · exact h.trans (.of_only (State.enter_only _ _))
  · exact h.trans ((KeepsPanels.of_only (State.withdrawReady_only _)).trans (.of_only (State.enter_only _ _)))
  · exact h.trans (.of_only (State.withClear_only _ _))
  all_goals exact h

theorem State.groupOpens_rx (s : State) : s.groupOpens.line.rx = s.line.rx := by
  have h : s.surveyOpened.line.rx = s.line.rx := by rw [s.surveyOpened_only.line]
  have hw : s.surveyOpened.withdrawReady.line.rx = s.surveyOpened.line.rx := by
    unfold State.withdrawReady; split <;> rfl
  unfold State.groupOpens; split
  · rw [(State.enter_only _ _).line, h]
  · rw [(State.enter_only _ _).line, hw, h]
  all_goals exact h

/-! ### What the change keeps -/

section
variable (s : State) (tag : Nat) (asserted : Bool)

theorem State.openIf_panels (c : Bool) : KeepsPanels s (s.openIf c) := by
  unfold State.openIf; split
  · exact s.groupOpens_panels
  · exact .refl s

theorem State.tagHeard_panels : KeepsPanels (s.hearTag tag asserted).markCycle (s.tagHeard tag asserted) :=
  .of_only (State.brakeIf_only _ _)

/-- Behind the marking of the panel-cycle flag the tag unit stays. -/
theorem State.tagChange_panels :
    KeepsPanels (s.hearTag tag asserted).markCycle (s.tagChange tag asserted) := by
  rw [State.tagChange_eq]
  exact (s.tagHeard_panels tag asserted).trans <|
    (KeepsPanels.foldl _ (fun t _ => t.raiseFrom_panels _ _ _ _) _ _).trans <|
    (KeepsPanels.of_only (State.zonesChanged_haltParts _)).trans <|
    (State.openIf_panels _ _).trans (.of_only (State.feedTest_only _))

theorem State.tagChange_slots :
    (s.tagChange tag asserted).tags.slots = (s.hearTag tag asserted).tags.slots := by
  rw [(s.tagChange_panels tag asserted).slots, State.markCycle_slots]

theorem State.tagChange_cfg : (s.tagChange tag asserted).cfg = s.cfg :=
  (s.tagChange_only tag asserted).cfg

/-- No frame is taken besides. -/
theorem State.tagChange_rx : (s.tagChange tag asserted).line.rx = s.line.rx := by
  have hopen (u : State) (c : Bool) : (u.openIf c).line.rx = u.line.rx := by
    unfold State.openIf; split
    · exact u.groupOpens_rx
    · rfl
  rw [State.tagChange_eq, (State.feedTest_keeps _).rx, hopen, (State.zonesChanged_keeps _).rx,
    (State.interlocks_keeps _ _ _).rx, (s.tagHeard_only tag asserted).line]
  rfl

/-- A panel group that reads open leaves the panel-cycle flag set (R106). -/
theorem State.tagChange_cycle (h : (s.hearTag tag asserted).groupOpen = true) :
    (s.tagChange tag asserted).tags.panelCycle = true := by
  have hmark : (s.hearTag tag asserted).markCycle =
      (s.hearTag tag asserted).withTags { (s.hearTag tag asserted).tags with panelCycle := true } := if_pos h
  refine (s.tagChange_panels tag asserted).cycle ?_ ?_
  · rw [State.slotsInUse, State.markCycle_slots, (State.markCycle_only _).cfg]
    exact (Bool.and_eq_true_iff.mp h).2
  · rw [hmark]; rfl

end

/-! ### A stop begun -/

theorem InterlocksBegun.of_source {n : Nat} {more : List Nat} {s u t : State} (h : InterlocksBegun n more u t)
    (honly : changesOnly [.tags, .zones] s u) (hg : u.groupOpen = s.groupOpen) :
    InterlocksBegun n more s t := by
  have hstop := honly.stop
  have hcfg := honly.cfg
  have hsite (m : Nat) : u.siteOf .interlock m 0 = s.siteOf .interlock m 0 := by
    simp only [State.siteOf, hcfg]
  have huse : u.inUse = s.inUse := State.inUse_congr hcfg (by simp only [State.configured, hstop])
  have hcount : u.causeCount .interlock = s.causeCount .interlock := by simp only [State.causeCount, hstop]
  obtain ⟨hown, hsites, hepoch, hpath, hbraked, hcounted, hframes⟩ := h
  simp only [hstop, hcfg, hsite, huse, hcount, hg, honly.line] at hsites hepoch hpath hbraked hcounted hframes
  exact ⟨hown, hsites, hepoch, hpath, hbraked, hcounted, hframes⟩

theorem InterlocksBegun.of_target {n : Nat} {more : List Nat} {s t u : State} (h : InterlocksBegun n more s t)
    (honly : changesOnly [.chain, .deliv, .clear] t u) : InterlocksBegun n more s u := by
  obtain ⟨hown, hsites, hepoch, hpath, hbraked, hcounted, hframes⟩ := h
  rw [← honly.stop] at hown hsites hepoch hpath
  rw [← honly.line] at hframes
  refine ⟨hown, hsites, hepoch, hpath, fun z hz => ?_, ?_, hframes⟩
  · rw [State.zone, honly.zones]; exact hbraked z hz
  · rw [State.causeCount, honly.stop]; exact hcounted

/-- Of a node at rest the zone tests, the clearing unit and the feed unit leave the stop as it is. -/
theorem State.tail_only {s : State} {c : Bool} (hp : s.stop.path = .halted ∨ s.stop.path = .clearing)
    (hc : c = true → s.stop.path = .clearing) :
    changesOnly [.chain, .deliv, .clear] s (s.zonesChanged.openIf c).feedTest := by
  have hzones : s.zonesChanged = s.releaseChain :=
    if_neg (by rintro ⟨h, -⟩; obtain hp | hp := hp <;> rw [hp] at h <;> cases h)
  have hchain := s.releaseChain_only
  have hopen : changesOnly [.deliv, .clear] s.releaseChain (s.releaseChain.openIf c) := by
    unfold State.openIf; split
    · next h => exact State.groupOpens_clearing_only (by rw [hchain.stop]; exact hc h)
    · exact .refl _ _
  have honly : changesOnly [.chain, .deliv, .clear] s (s.releaseChain.openIf c) := hchain.andThen hopen
  have hstopped : (s.releaseChain.openIf c).Stopped := by
    rw [State.Stopped, honly.stop]; exact .inr hp
  rw [hzones, State.feedTest_stopped hstopped]
  exact honly

/-- In RUN the slots that raise INTERLOCK begin one stop (R51, R52, R105, R108). -/
theorem State.tagChange_begins {s : State} (h : Clear s) {tag : Nat} {asserted : Bool} {n : Nat}
    {more : List Nat} (hl : s.tagSlots tag asserted = n :: more) :
    InterlocksBegun n more (s.hearTag tag asserted) (s.tagChange tag asserted) := by
  have honly := s.tagHeard_only tag asserted
  have hclear : Clear (s.tagHeard tag asserted) := by
    obtain ⟨hpath, hown, hroom⟩ := h
    exact ⟨by rw [honly.stop]; exact hpath, by rw [honly.stop]; exact hown, by rw [honly.line]; exact hroom⟩
  have B := (hclear.interlocks n more).of_source honly (s.tagHeard_groupOpen tag asserted)
  rw [State.tagChange_eq, hl, h.path]
  refine B.of_target (State.tail_only ?_ fun ho => ?_)
  · rw [B.path]; split
    · exact .inr rfl
    · exact .inl rfl
  · rw [B.path, if_pos (Bool.and_eq_true_iff.mp ho).2]

/-! ### The panel group's turn to open at rest -/

/-- At rest the zones' and the chain's part of the change comes ahead of the clearing unit's. -/
theorem State.tagChange_opens {s : State} (h : s.stop.path ∈ [PathState.halted, .clearing, .ready])
    {tag : Nat} {asserted : Bool} (ho : s.tagOpens tag asserted = true) :
    ∃ u, changesOnly [.tags, .zones, .chain] s u ∧ s.tagChange tag asserted = u.groupOpens := by
  have honly : changesOnly [.tags, .zones] s (s.tagHeard tag asserted) :=
    (s.hearTag_only tag asserted).andThen (s.tagHeard_only tag asserted)
  have hpath : (s.tagHeard tag asserted).stop.path = s.stop.path := by rw [honly.stop]
  have hdrop : Cause.interlock.takesEffect (s.tagHeard tag asserted).stop.path = false := by
    rw [hpath]; revert h; cases s.stop.path <;> decide
  have hzones : (s.tagHeard tag asserted).zonesChanged = (s.tagHeard tag asserted).releaseChain :=
    if_neg (by rw [hpath]; rintro ⟨hp, -⟩; rw [hp] at h; revert h; decide)
  have hu : changesOnly [.tags, .zones, .chain] s (s.tagHeard tag asserted).releaseChain :=
    honly.andThen (State.releaseChain_only _)
  refine ⟨_, hu, ?_⟩
  rw [State.tagChange_eq, ← hpath, State.interlocks_dropped hdrop, hzones, ho]
  refine State.feedTest_stopped (.inr (.inr ?_))
  exact State.groupOpens_clears (by rw [hu.stop]; exact h)

end Sys2Proof.Machine
end

section
/-! SUPPORT and the proof of TagstateTaken. -/

namespace Sys2Proof.Machine

set_option Elab.async false

/-! ### The frame -/

/-- TAGSTATE_TAKEN of a TAGSTATE at the front of the receive queue (R182). -/
theorem exec_tagstateTaken {s : State} {f : Frame} {rest : List Frame} (h : Front s .tagstate f rest) :
    exec .tagstateTaken s = done s ((s.took rest).tagFrom f) := by
  have ht : s.takeFrame .tagstate = some (f, s.took rest) := by
    rw [State.takeFrame, h.queue]
    dsimp only
    rw [if_pos (by simp [h.configured, h.kind])]
    rfl
  show execTagstateTaken s = _
  rw [execTagstateTaken, ht]

section
variable {s : State} {f : Frame}

theorem State.tagFrom_stale (h : 63 < byteAt f.payload 0 ∨ 1 < byteAt f.payload 1) :
    s.tagFrom f = s.countStale := if_pos h

theorem State.tagFrom_start (h0 : byteAt f.payload 0 = 0) (h1 : byteAt f.payload 1 ≤ 1) :
    s.tagFrom f = if f.origin = s.cfg.segment then s else s.resendInputs :=
  (if_neg (by omega)).trans (if_pos h0)

theorem State.tagFrom_names {tag : Nat} {asserted : Bool} (h0 : byteAt f.payload 0 = tag)
    (h1 : byteAt f.payload 1 = asserted.toNat) (hl : 1 ≤ tag) (hu : tag ≤ 63) : s.tagFrom f =
      if (s.hearTag tag asserted).tags.slots = s.tags.slots then s else s.tagChange tag asserted := by
  have hv : (byteAt f.payload 1 == 1) = asserted := by rw [h1]; cases asserted <;> rfl
  have hle : asserted.toNat ≤ 1 := Bool.toNat_le asserted
  rw [State.tagFrom, hv, h0, if_neg (by omega), if_neg (by omega)]

end

/-! ### The published levels -/

/-- The TAGSTATE of an input's filtered level (R101). -/
def State.levelFrame (s : State) (i : InputId) : Frame := s.tagFrame i (s.input i).level

/-- With places open, each published input of a list has its TAGSTATE queued, in order. -/
theorem State.resend_open (p : PathState) (l : List InputId) (s : State)
    (hroom : s.line.tx.length + l.length ≤ 14) :
    l.foldl (fun t i => if t.published i then t.queueFrame p (t.tagFrame i (t.input i).level) else t) s =
      s.withLine { s.line with tx := s.line.tx ++ (l.filter s.published).map s.levelFrame } := by
  induction l generalizing s with
  | nil => simp [State.withLine]
  | cons i l ih =>
    rw [List.length_cons] at hroom
    rw [List.foldl_cons, List.filter_cons]
    by_cases hp : s.published i = true
    · have hq : s.queueFrame p (s.tagFrame i (s.input i).level) = _ :=
        State.queueFrame_open (k := .tagstate) _ rfl (by omega)
      have hlen : (s.push (s.tagFrame i (s.input i).level)).line.tx.length = s.line.tx.length + 1 :=
        List.length_append
      rw [if_pos hp, if_pos hp, hq, ih _ (by rw [hlen]; omega), List.map_cons, List.append_cons]
      rfl
    · rw [if_neg hp, if_neg hp, ih s (by omega)]

theorem State.resendInputs_open {s : State} (h : s.line.tx.length ≤ 10) : s.resendInputs =
    s.withLine { s.line with tx := s.line.tx ++ (InputId.all.filter s.published).map s.levelFrame } :=
  State.resend_open s.stop.path InputId.all s (by show _ + 4 ≤ 14; omega)

/-- No notice reads the queues (R191). -/
theorem State.condition_queues (s : State) (rx tx : List Frame) :
    (s.withLine { s.line with rx := rx, tx := tx }).condition = s.condition := by
  funext n; cases n <;> rfl

/-- A start announcement is answered by a TAGSTATE for each published input (R101). -/
theorem done_resendInputs {s : State} (rest : List Frame) (hc : s.configured = true)
    (h : s.line.tx.length ≤ 10) : done s (s.took rest).resendInputs =
      .next (s.withLine { s.line with
        rx := rest
        tx := s.line.tx ++ (InputId.all.filter fun i => s.inputTag i ≠ 0).map s.levelFrame }) := by
  have hpub : (s.took rest).published = fun i => decide (s.inputTag i ≠ 0) := by
    funext i
    rw [Bool.eq_iff_iff, (s.took rest).published_iff i, decide_eq_true_iff]
    exact and_iff_right hc
  rw [State.resendInputs_open (by exact h), hpub]
  exact congrArg Host.Outcome.next (latchNew_same (s.condition_queues _ _))

/-! ### A stop aggregate asserted, and panel slots opened -/

section
variable {s : State} {tag : Nat} {asserted : Bool} (htag : 1 ≤ tag)
include htag

theorem State.hearTag_get (n : Fin 8) : (s.hearTag tag asserted).tags.slots.get n =
    if (s.cfg.slots.get n).tag = tag then
      (if asserted = (s.cfg.slots.get n).invert then .clear else .asserted)
    else s.tags.slots.get n :=
  (s.hearTag_slot tag asserted n).trans (slotAfter_eq _ _ htag _ _)

/-- From a clear stop aggregate a TAGSTATE asserts it by a stop slot that listens to it. -/
theorem State.tagAsserts_iff (hc : s.configured = true) (ha : s.aggregate = false) :
    (s.hearTag tag asserted).aggregate = true ↔ ∃ n, s.assertsStop tag asserted n = true := by
  have hiff := State.aggregate_iff (s := s.hearTag tag asserted) hc
  simp only [hiff, s.assertsStop_iff]
  constructor
  · rintro ⟨n, hu, hs, hv⟩
    rw [State.hearTag_get htag] at hv
    by_cases ht : (s.cfg.slots.get n).tag = tag
    · refine ⟨n, ht, hs, fun hi => hv ?_⟩
      rw [if_pos ht, if_pos hi]
    · rw [if_neg ht] at hv
      rw [(State.aggregate_iff hc).mpr ⟨n, hu, hs, hv⟩] at ha
      cases ha
  · rintro ⟨n, ht, hs, hi⟩
    refine ⟨n, ?_, hs, ?_⟩
    · show (s.cfg.slots.get n).tag ≠ 0
      omega
    · rw [State.hearTag_get htag, if_pos ht, if_neg hi]
      decide

/-- The lowest stop slot that a TAGSTATE asserts heads the slots that raise INTERLOCK. -/
theorem State.tagSlots_stop (hc : s.configured = true) (ha : s.aggregate = false) {n : Fin 8}
    (hn : s.assertsStop tag asserted n = true) (hmin : ∀ m < n, s.assertsStop tag asserted m ≠ true) :
    s.tagSlots tag asserted =
      (n.val + 1) :: newlyTrue panelSlotOpen s (s.hearTag tag asserted) := by
  have hasserts : s.tagAsserts tag asserted = true := by
    rw [State.tagAsserts, ha, (State.tagAsserts_iff htag hc ha).mpr ⟨n, hn⟩]; rfl
  obtain ⟨more, hmore⟩ := filter_finRange_head hn hmin
  rw [State.tagSlots, if_pos hasserts, newlyTrue_stop _ htag hc ha, hmore]
  rfl

/-- The slots that raise INTERLOCK: at most one for the stop aggregate, and each panel slot that opens. -/
theorem State.tagSlots_panels (hc : s.configured = true) : ∃ stops : List Nat,
    s.tagSlots tag asserted = stops ++ newlyTrue panelSlotOpen s (s.hearTag tag asserted) ∧
    stops.length = if s.aggregate = false ∧ (s.hearTag tag asserted).aggregate = true then 1 else 0 := by
  refine ⟨_, rfl, ?_⟩
  have hiff : s.tagAsserts tag asserted = true ↔
      s.aggregate = false ∧ (s.hearTag tag asserted).aggregate = true := by simp [State.tagAsserts]
  simp only [hiff]
  split
  · next h =>
    obtain ⟨n, hn⟩ := (State.tagAsserts_iff htag hc h.1).mp h.2
    rw [newlyTrue_stop _ htag hc h.1, List.length_take, List.length_map]
    have hpos := List.length_pos_of_mem (List.mem_filter.mpr ⟨List.mem_finRange n, hn⟩)
    omega
  · rfl

end

/-! ### The clauses of the command -/

section
variable {s : State} {tag : Nat} {asserted : Bool} (htag : 1 ≤ tag)
include htag

/-- A stop aggregate asserted in RUN (R108). -/
theorem State.tagChange_stops (h : Clear s) (ha : s.aggregate = false) {n : Fin 8}
    (hn : s.assertsStop tag asserted n = true) (hmin : ∀ m < n, s.assertsStop tag asserted m ≠ true) :
    InterlocksBegun (n.val + 1) (newlyTrue panelSlotOpen s (s.hearTag tag asserted))
      (s.hearTag tag asserted) (s.tagChange tag asserted) :=
  State.tagChange_begins h
    (State.tagSlots_stop htag (State.configured_of_ne (by rw [h.path]; decide)) ha hn hmin)

/-- Panel slots opened in RUN (R105), as the number and the order of the slots say it. -/
theorem State.tagChange_interlocks (h : Clear s) {opened : List (Fin 8)} (hne : opened ≠ [])
    (hopened : opened = (List.finRange 8).filter fun n => (s.cfg.slots.get n).tag = tag ∧
      (s.cfg.slots.get n).panel = true ∧ s.tags.slots.get n = .asserted ∧
        asserted = (s.cfg.slots.get n).invert) {first : Nat}
    (hfirst : first = if s.aggregate = false ∧ (s.tagChange tag asserted).aggregate = true then 1 else 0) :
    (s.tagChange tag asserted).stop.path = .clearing ∧
    ∃ n more, InterlocksBegun n more (s.hearTag tag asserted) (s.tagChange tag asserted) ∧
      more.length + 1 = first + opened.length ∧ (∀ m ∈ opened, m.val + 1 ∈ n :: more) ∧
      (first = 0 → ∀ m later, opened = m :: later → n = m.val + 1) := by
  have hc : s.configured = true := State.configured_of_ne (by rw [h.path]; decide)
  obtain ⟨stops, hslots, hlen⟩ := State.tagSlots_panels (asserted := asserted) htag hc
  rw [newlyTrue_panel s asserted htag, ← hopened] at hslots
  obtain ⟨n, more, hl⟩ : ∃ n more, stops ++ opened.map (fun m => m.val + 1) = n :: more :=
    List.exists_cons_of_ne_nil (by simp [hne])
  have B := State.tagChange_begins h (hslots.trans hl)
  have hgroup : (s.hearTag tag asserted).groupOpen = true := by
    obtain ⟨m, hm⟩ := List.exists_mem_of_ne_nil _ hne
    rw [hopened, List.mem_filter, decide_eq_true_iff] at hm
    obtain ⟨-, ht, hp, -, hi⟩ := hm
    refine (State.groupOpen_iff (s := s.hearTag tag asserted) hc).mpr ⟨m, ?_, hp, ?_⟩
    · show (s.cfg.slots.get m).tag ≠ 0
      omega
    · rw [State.hearTag_get htag, if_pos ht, if_pos hi]
      decide
  have hpath : (s.tagChange tag asserted).stop.path = .clearing := by rw [B.path, if_pos hgroup]
  have hagg : (s.tagChange tag asserted).aggregate = (s.hearTag tag asserted).aggregate := by
    have hconf : (s.tagChange tag asserted).configured = s.configured :=
      (State.configured_of_ne (by rw [hpath]; decide)).trans hc.symm
    simp only [State.aggregate, State.slotsInUse, s.tagChange_slots, s.tagChange_cfg, hconf]
    rfl
  rw [hagg, ← hlen] at hfirst
  refine ⟨hpath, n, more, B, ?_, fun m hm => ?_, fun h0 m later hm => ?_⟩
  · rw [← List.length_cons, ← hl, List.length_append, List.length_map, hfirst]
  · rw [← hl]
    exact List.mem_append_right _ (List.mem_map.mpr ⟨m, hm, rfl⟩)
  · rw [List.length_eq_zero_iff.mp (hfirst.symm.trans h0), hm] at hl
    exact (List.cons.inj hl).1.symm

end

/-- The panel group opened at rest (R116, R119, R125). -/
theorem State.tagChange_opened {s : State} {tag : Nat} {asserted : Bool} (hc : s.configured = true)
    (hs : s.groupOpen = false) (ht : (s.tagChange tag asserted).groupOpen = true) :
    (s.tagChange tag asserted).tags.panelCycle = true ∧
    (s.stop.path = .halted → (s.tagChange tag asserted).stop.path = .clearing) ∧
    (s.stop.path = .ready → s.line.tx.length < 14 → (s.tagChange tag asserted).stop.path = .clearing ∧
      (s.tagChange tag asserted).line.tx =
        s.line.tx ++ [⟨.ready, s.cfg.segment, s.stop.epoch, readyPayload true⟩]) ∧
    (s.stop.path = .clearing → (s.tagChange tag asserted).stop.path = .clearing ∧
      (s.tagChange tag asserted).clear.residual = false ∧
      (s.clear.phase = .reporting → s.clear.reports = [] →
        (s.tagChange tag asserted).clear.phase = .noSurvey) ∧
      (s.clear.phase = .voidWait → (s.tagChange tag asserted).clear.phase = .noSurvey ∧
        (s.tagChange tag asserted).clear.reports = [])) := by
  have hgroup : (s.hearTag tag asserted).groupOpen = true := by
    have hconf : (s.tagChange tag asserted).configured = (s.hearTag tag asserted).configured :=
      (Bool.and_eq_true_iff.mp ht).1.trans hc.symm
    have hcongr : (s.tagChange tag asserted).groupOpen = (s.hearTag tag asserted).groupOpen :=
      State.groupOpen_congr (s.tagChange_cfg tag asserted) hconf (s.tagChange_slots tag asserted)
    exact hcongr.symm.trans ht
  have ho : s.tagOpens tag asserted = true := by rw [State.tagOpens, hs, hgroup]; rfl
  refine ⟨s.tagChange_cycle tag asserted hgroup, fun hp => ?_, fun hp hroom => ?_, fun hp => ?_⟩
  · obtain ⟨u, hu, he⟩ := State.tagChange_opens (by rw [hp]; decide) ho
    rw [he, State.groupOpens_clears (by rw [hu.stop, hp]; decide)]
  · obtain ⟨u, hu, he⟩ := State.tagChange_opens (by rw [hp]; decide) ho
    have hp' : u.stop.path = .ready := by rw [hu.stop, hp]
    rw [he, State.groupOpens_withdraws hp' (by rw [hu.line]; exact hroom), hu.line, hu.cfg, hu.stop]
    exact ⟨State.groupOpens_clears (by rw [hp']; decide), rfl⟩
  · obtain ⟨u, hu, he⟩ := State.tagChange_opens (by rw [hp]; decide) ho
    have hp' : u.stop.path = .clearing := by rw [hu.stop, hp]
    have hclear : u.clear = s.clear := hu .clear (by decide)
    rw [he, ← hclear]
    exact ⟨State.groupOpens_clears (by rw [hp']; decide), State.groupOpens_survey hp'⟩

/-- A TAGSTATE that changes no slot changes nothing (R103). -/
theorem State.hearTag_same {s : State} {tag : Nat} {asserted : Bool}
    (h : (s.hearTag tag asserted).tags.slots = s.tags.slots) : s.hearTag tag asserted = s :=
  congrArg (fun x => s.withTags { s.tags with slots := x }) h

/-- Settles O48: the readings, the frames that name no tag one by one, and a tag's change by whether a slot
changes: the INTERLOCKs of RUN by `State.tagChange_begins` and the panel group's turn to open by
`State.tagChange_opens`. -/
theorem tagstateTaken : Obligations.TagstateTaken := by
  unfold Obligations.TagstateTaken
  refine ⟨fun s hc => ⟨State.groupOpen_iff hc, State.aggregate_iff hc, ?_, State.forwards_iff hc .out1,
    State.forwards_iff hc .out2⟩, fun s f rest hfront => ?_⟩
  · have hpin : s.outputs.stopn = (s.aggregate == s.cfg.stopInvert) := if_pos hc
    rw [hpin, beq_iff_eq, Bool.eq_iff_iff]
  have hexec := exec_tagstateTaken hfront
  have hconf : (s.took rest).configured = true := hfront.configured
  refine ⟨fun h => ?_, fun h0 h1 => ⟨fun ho => ?_, fun ho hroom => ?_⟩,
    fun tag asserted h0 h1 hl hu => ?_⟩
  · rw [hexec, State.tagFrom_stale h, done_stale]
  · have hfrom : (s.took rest).tagFrom f = s.took rest := (State.tagFrom_start h0 h1).trans (if_pos ho)
    rw [hexec, hfrom, done_took]
  · have hfrom : (s.took rest).tagFrom f = (s.took rest).resendInputs :=
      (State.tagFrom_start h0 h1).trans (if_neg ho)
    rw [hexec, hfrom]
    exact done_resendInputs rest hconf hroom
  · rw [State.tagFrom_names h0 h1 hl hu] at hexec
    have hget (n : Fin 8) := State.hearTag_get (s := s.took rest) (asserted := asserted) hl n
    by_cases hslots : ((s.took rest).hearTag tag asserted).tags.slots = (s.took rest).tags.slots
    · rw [if_pos hslots, done_took] at hexec
      have hsame := State.hearTag_same hslots
      refine ⟨_, hexec, fun n => hslots ▸ hget n, fun _ => rfl, rfl, fun n _ ha ht hs hi _ => ?_,
        fun opened first _ hne hopened _ => ?_, fun hshut hopen => ?_⟩
      · have hon := (State.tagAsserts_iff hl hconf ha).mpr
          ⟨n, ((s.took rest).assertsStop_iff tag asserted n).mpr ⟨ht, hs, hi⟩⟩
        rw [hsame] at hon
        exact absurd (ha.symm.trans hon) (by decide)
      · obtain ⟨m, hm⟩ := List.exists_mem_of_ne_nil _ hne
        rw [hopened, List.mem_filter, decide_eq_true_iff] at hm
        obtain ⟨-, ht, -, hv, hi⟩ := hm
        have hclear := (hslots ▸ hget m).trans ((if_pos ht).trans (if_pos hi))
        exact absurd (hv.symm.trans hclear) (by decide)
      · exact absurd (hshut.symm.trans hopen) (by decide)
    · rw [if_neg hslots] at hexec
      obtain ⟨k, hk⟩ := done_eq s ((s.took rest).tagChange tag asserted)
      have hafter := (s.took rest).tagChange_slots tag asserted
      have hrx := (s.took rest).tagChange_rx tag asserted
      have hstops := @State.tagChange_stops (s.took rest) tag asserted hl
      have hinterlocks := @State.tagChange_interlocks (s.took rest) tag asserted hl
      have hopens := @State.tagChange_opened (s.took rest) tag asserted hconf
      generalize (s.took rest).tagChange tag asserted = w at *
      refine ⟨_, hexec.trans hk, fun n => ?_, fun hkept => absurd (hafter.symm.trans hkept) hslots, hrx,
        fun n hclear ha ht hs hi hmin => ?_, fun opened first hclear hne hopened hfirst => ?_, hopens⟩
      · exact (congrArg (fun x => x.get n) hafter).trans (hget n)
      · have B := hstops (hclear.took rest) ha
          (((s.took rest).assertsStop_iff tag asserted n).mpr ⟨ht, hs, hi⟩)
          fun m hm h => hmin m hm (((s.took rest).assertsStop_iff tag asserted m).mp h)
        refine ⟨B.own, B.sites, B.epoch, ?_, B.braked⟩
        have hpath := B.path
        split at hpath
        · exact .inr hpath
        · exact .inl hpath
      · obtain ⟨hpath, n, more, B, hlen, hmem, hhead⟩ :=
          hinterlocks (hclear.took rest) hne hopened hfirst
        refine ⟨hpath, B.epoch, B.braked, ?_, fun hz m later hm => ?_, fun hroom m hm => ?_⟩
        · rw [Nat.add_assoc, ← hlen]
          exact B.counted
        · obtain rfl := hhead hz m later hm
          exact ⟨B.own, B.sites⟩
        · exact B.frames (by rw [hlen, ← Nat.add_assoc]; exact hroom) _ (hmem m hm)

end Sys2Proof.Machine
end
